-- ==== Sys2Proof/Word.lean ====
section
/-! DEFINITION. The byte, the one word type of the WG-340's frames and stores. -/

namespace Sys2Proof

/-- A byte of a frame's data or of the Retained Store. -/
abbrev Byte := BitVec 8

end Sys2Proof
end

