-- ==== Sys2Proof/Syntax.lean ====
section
/-! DEFINITION. The commands of the WG-340: one constructor of `Instr` for each row of
spec/opcode_table.json, with the operands that the row's rule gives the step. The table lists no
operands of its own ("fields" is empty in every row); log entry 1 says how they were chosen. -/

namespace Sys2Proof

/-- The two CAN ports (01, Ports). -/
inductive Port where
  | chassis | body
  deriving DecidableEq, Repr

/-- The other port: egress of a frame received on this one (R7). -/
def Port.other : Port → Port
  | .chassis => .body
  | .body => .chassis

/-- The three lift stations, numbered 0, 1 and 2 (04, Lift Cycles). -/
inductive Station where
  | sideArm | rearLeft | rearRight
  deriving DecidableEq, Repr

/-- The six signal slots in the order of R19. -/
inductive SlotId where
  | roadSpeed | parkBrake | ptoEngaged | reverseSelected | engineSpeed | chassisTime
  deriving DecidableEq, Repr

/-- The two toggle outputs of R161: BCN and HRN. -/
inductive Toggle where
  | beacon | horn
  deriving DecidableEq, Repr

/-- The two entries of the Manager List (R185). -/
inductive Manager where
  | terminal | service
  deriving DecidableEq, Repr

/-- A frame as the ports and the router handle it (01): its format, its identifier (a Standard
identifier stands in the low 11 bits) and its data bytes; the data length is the number of bytes. -/
structure Frame where
  ext : Bool
  id : BitVec 29
  data : List Byte
  deriving DecidableEq, Repr

/-- Where a Cycle Start comes from (R47): a station's Start input, or the operator command with its
request tag and station field (R67). -/
inductive StartSource where
  | input (st : Station)
  | command (tag : BitVec 4) (station : Byte)
  deriving DecidableEq, Repr

/-- What a Management Request asks (R186), read from its data bytes (13). `short` stands for a
defined kind whose data are too few, `unknown` for an undefined kind. -/
inductive ReqBody where
  | read (addr : BitVec 16) (len : Byte)
  | write (addr : BitVec 16) (len : Byte) (bytes : List Byte)
  | setPointer (addr : BitVec 16)
  | readNext (len : Byte)
  | writeNext (len : Byte) (bytes : List Byte)
  | command (code : Byte) (arg : BitVec 32)
  | short (kind : Byte)
  | unknown (kind : Byte)
  deriving DecidableEq, Repr

/-- The commands and events of spec/opcode_table.json, in the table's order. -/
inductive Instr where
  /-- COLD_START (R1): the levels of NA1 and NA0. -/
  | coldStart (na : BitVec 2)
  /-- WARM_START (R1): the levels of NA1 and NA0. -/
  | warmStart (na : BitVec 2)
  /-- MAIN_POWER_LOSS (R178). -/
  | mainPowerLoss
  /-- BODY_RESET_START (R1, R198): the levels of NA1 and NA0. -/
  | bodyResetStart (na : BitVec 2)
  /-- FRAME_RECEIVED (R8): the port and the data frame received whole. -/
  | frameReceived (p : Port) (f : Frame)
  /-- FRAME_SENT (R6). -/
  | frameSent (p : Port)
  /-- LOST_ARBITRATION (R6). -/
  | lostArbitration (p : Port)
  /-- TRANSMIT_ERROR (R3). -/
  | transmitError (p : Port)
  /-- RECEIVE_ERROR (R3). -/
  | receiveError (p : Port)
  /-- RECOVERY_TIMER_EXPIRY (R4). -/
  | recoveryTimerExpiry (p : Port)
  /-- ROUTE_INTERVAL_EXPIRY (R14): the Route Table entry. -/
  | routeIntervalExpiry (i : Fin 64)
  /-- STATUS_TIMER_EXPIRY (R17). -/
  | statusTimerExpiry
  /-- FRESHNESS_TIMER_EXPIRY (R24). -/
  | freshnessTimerExpiry (k : SlotId)
  /-- SLOT_HOLD_TIMER_EXPIRY (R25). -/
  | slotHoldTimerExpiry (k : SlotId)
  /-- GROUP_READ (R32): the eight return lines SK0 to SK7 of the group being driven, a set bit for a
  line that conducts (Closed). -/
  | groupRead (lines : Byte)
  /-- CYCLE_START (R47). -/
  | cycleStart (src : StartSource)
  /-- RETURN (R58): the operator command's request tag and station field. -/
  | returnLift (tag : BitVec 4) (station : Byte)
  /-- OVERRIDE (R59). -/
  | overrideLift (tag : BitVec 4) (station : Byte)
  /-- RECOVER (R66). -/
  | recover (tag : BitVec 4) (station : Byte)
  /-- PACK (R165); the station field is ignored and echoed in the reply (R67). -/
  | pack (tag : BitVec 4) (station : Byte)
  /-- UNLOAD (R173). -/
  | unload (tag : BitVec 4) (station : Byte)
  /-- PACKER_RECOVER (R170). -/
  | packerRecover (tag : BitVec 4) (station : Byte)
  /-- TAILGATE_RECOVER (R175). -/
  | tailgateRecover (tag : BitVec 4) (station : Byte)
  /-- UNKNOWN_COMMAND (R67): the undefined code, the request tag and the station field. -/
  | unknownCommand (code : Byte) (tag : BitVec 4) (station : Byte)
  /-- PHASE_TIMER_EXPIRY (R50). -/
  | phaseTimerExpiry (st : Station)
  /-- PAUSE_TIMER_EXPIRY (R53). -/
  | pauseTimerExpiry (st : Station)
  /-- HOLD_TIMER_EXPIRY (R60). -/
  | holdTimerExpiry (st : Station)
  /-- SEQUENCE_TIMER_EXPIRY (R61). -/
  | sequenceTimerExpiry (st : Station)
  /-- TAG_READ (R74): source node, tag number, read strength. -/
  | tagRead (src : Byte) (tag : BitVec 40) (strength : Byte)
  /-- TAG_ENTRY_EXPIRY (R78): the entry, named by its station and tag (R75: never two alike). -/
  | tagEntryExpiry (st : Station) (tag : BitVec 40)
  /-- ASSIGNED_TAG_EMPTYING (R79). -/
  | assignedTagEmptying (st : Station)
  /-- WEIGH_SAMPLE (R88): source node, signed force count, arm angle, sequence number. -/
  | weighSample (src : Byte) (count : BitVec 24) (angle : BitVec 16) (seq : Byte)
  /-- SILENCE_TIMER_EXPIRY (R96). -/
  | silenceTimerExpiry (st : Station)
  /-- ATTITUDE (R97): source node, signed pitch, signed roll. -/
  | attitude (src : Byte) (pitch roll : BitVec 16)
  /-- ATTITUDE_TIMER_EXPIRY (R97). -/
  | attitudeTimerExpiry
  /-- ZERO_CAPTURE_TIMER_EXPIRY (R106). -/
  | zeroCaptureTimerExpiry (st : Station)
  /-- MOVE_STEP (R123). -/
  | moveStep
  /-- INSERT_MOVE_END (R120). -/
  | insertMoveEnd
  /-- DELETE_MOVE_END (R121). -/
  | deleteMoveEnd
  /-- OPEN_PERIOD_WALK_END (R122). -/
  | openPeriodWalkEnd
  /-- TABLE_CHECK_END (R117). -/
  | tableCheckEnd
  /-- ENCODER_PULSE (R167). -/
  | encoderPulse
  /-- STALL_TIMER_EXPIRY (R167). -/
  | stallTimerExpiry
  /-- EXTEND_LIMIT_EXPIRY (R167). -/
  | extendLimitExpiry
  /-- DWELL_TIMER_EXPIRY (R168). -/
  | dwellTimerExpiry
  /-- RETRACT_LIMIT_EXPIRY (R168). -/
  | retractLimitExpiry
  /-- PACKER_PAUSE_TIMER_EXPIRY (R170). -/
  | packerPauseTimerExpiry
  /-- OPEN_TIME_REACHED (R174). -/
  | openTimeReached
  /-- OPENING_LIMIT_EXPIRY (R174). -/
  | openingLimitExpiry
  /-- EJECT_TIMER_EXPIRY (R174). -/
  | ejectTimerExpiry
  /-- CLOSING_LIMIT_EXPIRY (R174). -/
  | closingLimitExpiry
  /-- TAILGATE_PAUSE_TIMER_EXPIRY (R175). -/
  | tailgatePauseTimerExpiry
  /-- PERIOD_END (R159): the valve channel. -/
  | periodEnd (c : Fin 12)
  /-- HALF_PERIOD_EXPIRY (R161): BCN or HRN. -/
  | halfPeriodExpiry (t : Toggle)
  /-- SECOND_ADVANCE (R178). -/
  | secondAdvance
  /-- SPACING_TIMER_EXPIRY (R196). -/
  | spacingTimerExpiry
  /-- NODE_DATA (R192): source node, request tag, data bytes. -/
  | nodeData (src : Byte) (tag : BitVec 4) (data : List Byte)
  /-- QUERY_TIMER_EXPIRY (R192). -/
  | queryTimerExpiry
  /-- RESULT_TIMER_EXPIRY (R192). -/
  | resultTimerExpiry
  /-- MANAGEMENT_REQUEST (R185): source node, request tag, data bytes. -/
  | managementRequest (src : Byte) (tag : BitVec 4) (data : List Byte)
  /-- READ (R187): the manager, the request tag, the address, the length. -/
  | read (m : Manager) (tag : BitVec 4) (addr : BitVec 16) (len : Byte)
  /-- WRITE (R187). -/
  | write (m : Manager) (tag : BitVec 4) (addr : BitVec 16) (len : Byte) (bytes : List Byte)
  /-- SET_POINTER (R189). -/
  | setPointer (m : Manager) (tag : BitVec 4) (addr : BitVec 16)
  /-- READ_NEXT (R189). -/
  | readNext (m : Manager) (tag : BitVec 4) (len : Byte)
  /-- WRITE_NEXT (R189). -/
  | writeNext (m : Manager) (tag : BitVec 4) (len : Byte) (bytes : List Byte)
  /-- MIRROR_ACCESS (R191): a Read, Write, Read Next or Write Next request. -/
  | mirrorAccess (m : Manager) (tag : BitVec 4) (body : ReqBody)
  /-- BANK_BASE_WRITE (R188): the value written to the word at 0002h. -/
  | bankBaseWrite (m : Manager) (tag : BitVec 4) (value : BitVec 16)
  /-- SET_RECORD_COUNT (R116): the value written to the word at 0008h. -/
  | setRecordCount (m : Manager) (tag : BitVec 4) (value : BitVec 16)
  /-- NEXT_SEQUENCE_WRITE (R188): the value written to the four bytes at 000Ch. -/
  | nextSequenceWrite (m : Manager) (tag : BitVec 4) (value : BitVec 32)
  /-- SNAPSHOT_PORT_READ (R184): the first port byte (0004h + first) and the length. -/
  | snapshotPortRead (m : Manager) (tag : BitVec 4) (first : Fin 4) (len : Byte)
  /-- UNKNOWN_REQUEST (R186): the request kind, and the command code when the kind is Command. -/
  | unknownRequest (m : Manager) (tag : BitVec 4) (kind code : Byte)
  /-- TABLE_OPEN (R115). -/
  | tableOpen (m : Manager) (tag : BitVec 4)
  /-- TABLE_CLOSE (R117). -/
  | tableClose (m : Manager) (tag : BitVec 4)
  /-- INSERT (R120). -/
  | insert (m : Manager) (tag : BitVec 4)
  /-- UPDATE (R119). -/
  | update (m : Manager) (tag : BitVec 4)
  /-- DELETE (R121). -/
  | delete (m : Manager) (tag : BitVec 4)
  /-- OPEN_PERIOD (R122). -/
  | openPeriod (m : Manager) (tag : BitVec 4)
  /-- RELEASE (R142): the number n. -/
  | release (m : Manager) (tag : BitVec 4) (n : BitVec 16)
  /-- LATCH (R183): the selection, bit 0 Status and bit 1 Totals. -/
  | latch (m : Manager) (tag : BitVec 4) (sel : BitVec 32)
  /-- CLEAR_TOTALS (R182). -/
  | clearTotals (m : Manager) (tag : BitVec 4)
  /-- CLEAR_FLAGS (R190): the flag set, bit 0 Tag Overrun. -/
  | clearFlags (m : Manager) (tag : BitVec 4) (set : BitVec 32)
  /-- ACKNOWLEDGE_NOTICES (R197): the notice-kind set. -/
  | acknowledgeNotices (m : Manager) (tag : BitVec 4) (set : BitVec 32)
  /-- ACKNOWLEDGE_CHANGES (R39): the input set. -/
  | acknowledgeChanges (m : Manager) (tag : BitVec 4) (set : BitVec 32)
  /-- ZERO_CAPTURE (R105): the station number. -/
  | zeroCapture (m : Manager) (tag : BitVec 4) (station : Byte)
  /-- SET_LOWEST (R149): the station number. -/
  | setLowest (m : Manager) (tag : BitVec 4) (station : Byte)
  /-- SET_CLOCK (R179): the seconds value. -/
  | setClock (m : Manager) (tag : BitVec 4) (value : BitVec 32)
  /-- CONFIGURATION_OPEN (R193). -/
  | configurationOpen (m : Manager) (tag : BitVec 4)
  /-- COMMIT (R194). -/
  | commit (m : Manager) (tag : BitVec 4)
  /-- MAINTENANCE_ENTER (R195). -/
  | maintenanceEnter (m : Manager) (tag : BitVec 4)
  /-- MAINTENANCE_LEAVE (R195). -/
  | maintenanceLeave (m : Manager) (tag : BitVec 4)
  /-- BODY_RESET (R198). -/
  | bodyReset (m : Manager) (tag : BitVec 4)
  /-- RECESSIVE_BITS_SEEN (R4). -/
  | recessiveBitsSeen (p : Port)
  /-- REMOTE_FRAME_RECEIVED (R2). -/
  | remoteFrameReceived (p : Port)
  deriving DecidableEq, Repr

end Sys2Proof
end

