-- ==== Sys2Proof/Decode.lean ====
section
/-! DEFINITION. The command that a word spells. No row of spec/opcode_table.json gives bits (the reader's
notes of 98 count no row with fixed bits and none with fields), so no word spells a command: the part's
commands are frames, pin events and expiries, and 13 gives the frames' own layouts, which
Machine/Operands.lean reads. -/

namespace Sys2Proof

/-- The command spelled by a word of the opcode table's bits: none, for every word. -/
def decodeTableWord (_nbits _w : Nat) : Option Instr := none

end Sys2Proof
end

