-- ==== Sys2Proof/Config.lean ====
section
/-! DEFINITION. The times and sizes that the WG-340's rules fix. All times are in microseconds. No
value of this part is left free by its spec, so this file declares no free value. -/

namespace Sys2Proof.Config

/-- One millisecond. -/
abbrev ms : Nat := 1000

/-- Bus-off recovery: 250 ms (R3). -/
abbrev recoveryTime : Nat := 250 * ms

/-- The scanner reads one group every 2 ms (R32). -/
abbrev groupTime : Nat := 2 * ms

/-- The weigh node silence timer: 250 ms (R96). -/
abbrev silenceTime : Nat := 250 * ms

/-- The attitude timer: 500 ms (R97). -/
abbrev attitudeTime : Nat := 500 * ms

/-- The capture timer: 5 s (R105). -/
abbrev captureTime : Nat := 5000 * ms

/-- One record of a move, a walk or a check: 2 µs (R117, R120, R121, R122). -/
abbrev recordTime : Nat := 2

/-- The notice spacing timer: 100 ms (R196). -/
abbrev spacingTime : Nat := 100 * ms

/-- The query timer of the Deferred Slot: 100 ms (R191). -/
abbrev queryTime : Nat := 100 * ms

/-- The result timer of a Ready Deferred Slot: 2 s (R192). -/
abbrev resultTime : Nat := 2000 * ms

/-- One second of the Clock (R178). -/
abbrev second : Nat := 1000 * ms

/-- Household Records the region has room for (R108). -/
abbrev maxRecords : Nat := 12288

/-- Charge Queue slots (R139). -/
abbrev queueSlots : Nat := 256

/-- Places of a Forward Queue (R5). -/
abbrev forwardPlaces : Nat := 16

/-- Places of the Control Queue (R5). -/
abbrev controlPlaces : Nat := 8

/-- Places of the Tag Queue (R75). -/
abbrev tagPlaces : Nat := 8

/-- Places of the Request Queue (R185). -/
abbrev requestPlaces : Nat := 4

end Sys2Proof.Config
end

