-- ==== Sys2Proof/Machine/State.lean ====
section
/-! DEFINITION. Every piece of state the spec gives the WG-340, as plain data, and the state after a
Cold Start. Times stand in microseconds; a count stands as a natural number kept below its width by
the operation that raises it. -/

namespace Sys2Proof.Machine

/-- The retained stores of bytes: the window-visible Retained Store and the configuration copy in
force. A list of (address, byte), addresses strictly rising, holding only what differs from the Cold
Start contents (`coldByte`, Machine/Params.lean). -/
abbrev Mem := List Host.Cell

/-- A timer: stopped, running to an expiry time, or held with the time it has left (R50). -/
inductive Timer where
  | stopped
  | running (expiry : Nat)
  | held (left : Nat)
  deriving DecidableEq, Repr

/-- One value for each station. -/
structure Tri (α : Type) where
  side : α
  left : α
  right : α
  deriving DecidableEq, Repr

/-- The value of a station. -/
def Tri.get {α : Type} (t : Tri α) : Station → α
  | .sideArm => t.side
  | .rearLeft => t.left
  | .rearRight => t.right

/-- Replaces the value of a station. -/
def Tri.set {α : Type} (t : Tri α) (st : Station) (a : α) : Tri α :=
  match st with
  | .sideArm => { t with side := a }
  | .rearLeft => { t with left := a }
  | .rearRight => { t with right := a }

/-- The same value for every station. -/
def Tri.all {α : Type} (a : α) : Tri α := ⟨a, a, a⟩

/-- The five requesters of the Flow Arbiter (09, Requests and grants). -/
inductive Requester where
  | station (st : Station)
  | packer
  | tailgate
  deriving DecidableEq, Repr

/-- One value for each requester. -/
structure Five (α : Type) where
  st : Tri α
  packer : α
  tailgate : α
  deriving DecidableEq, Repr

/-- The value of a requester. -/
def Five.get {α : Type} (f : Five α) : Requester → α
  | .station st => f.st.get st
  | .packer => f.packer
  | .tailgate => f.tailgate

/-- Replaces the value of a requester. -/
def Five.set {α : Type} (f : Five α) (r : Requester) (a : α) : Five α :=
  match r with
  | .station st => { f with st := f.st.set st a }
  | .packer => { f with packer := a }
  | .tailgate => { f with tailgate := a }

/-- The holders a Charge Queue reservation can have (R127, R139). -/
inductive Holder where
  | station (st : Station)
  | tailgate
  deriving DecidableEq, Repr

/-! ### The part, its time and its pins -/

/-- Power, time and the levels of the input pins that the model holds. -/
structure Sys where
  /-- main power is present (R1, R178) -/
  powered : Bool
  /-- the model's time base, in µs -/
  now : Nat
  /-- the time of the latest start: the tag time counts from it (R85) -/
  startedAt : Nat
  /-- NA1 and NA0 -/
  na : BitVec 2
  /-- KGOOD -/
  kgood : Bool
  /-- the 32 contacts of the input array as last driven: a set bit is a line that conducts (R32) -/
  contacts : BitVec 32
  /-- the part's own node number, sampled at every start (R1) -/
  ownNode : Byte
  deriving DecidableEq, Repr

/-- The management modes (R193, R195). -/
structure Mode where
  /-- Configuring, retained -/
  configuring : Bool
  /-- a Commit has succeeded since the last Cold Start, retained (R193) -/
  committed : Bool
  /-- Maintenance, off after every start -/
  maintenance : Bool
  deriving DecidableEq, Repr

/-! ### Ports and routes (01) -/

/-- Which of a port's stores the frame in transmission stands at the head of (R6): the Control Queue
or the Status Buffer, or else the Forward Queue. -/
inductive TxSel where
  | first | forward
  deriving DecidableEq, Repr

/-- A frame of a Forward Queue with its origin: a Route Table entry, or none for Default (01). -/
structure FwdFrame where
  frame : Frame
  origin : Option (Fin 64)
  deriving DecidableEq, Repr

/-- A frame of the Control Queue. `reset` marks the response that a held Body Reset waits for (R198). -/
structure CtrlFrame where
  frame : Frame
  reset : Bool
  deriving DecidableEq, Repr

/-- The state of one port (R2 to R6). -/
structure PortState where
  /-- Off, or else Active -/
  off : Bool
  /-- it has returned to Active and waits for 11 recessive bits (R4) -/
  waitRecessive : Bool
  txErr : Nat
  rxErr : Nat
  /-- the frame in transmission, or none while the port is free (R6) -/
  tx : Option TxSel
  forward : List FwdFrame
  recovery : Timer
  received : Nat
  sent : Nat
  malformed : Nat
  unrouted : Nat
  controlOverflow : Nat
  statusReplaced : Nat
  offDiscards : Nat
  busOff : Nat
  deriving DecidableEq, Repr

/-- The state of one Route Table entry (R13, R15). `timing` runs in Timing and is stopped in Open. -/
structure RouteState where
  timing : Timer
  held : Option Frame
  matched : Nat
  dropped : Nat
  deriving DecidableEq, Repr

/-! ### Signal Monitor (02) -/

/-- The four states of a slot (02, Freshness). -/
inductive SlotState where
  | never | fresh | holding | degraded
  deriving DecidableEq, Repr

/-- The cause of a slot's latest rejection (R21). -/
inductive RejectCause where
  | none | short | notAvailable
  deriving DecidableEq, Repr

/-- A signal slot (R21 to R26). A boolean's valid value is 1 or 0; with no valid value it is 0. -/
structure Slot where
  state : SlotState
  value : Nat
  fresh : Timer
  hold : Timer
  updates : Nat
  rejected : Nat
  degrades : Nat
  cause : RejectCause
  deriving DecidableEq, Repr

/-- The outputs handed on by the Signal Monitor (R27, R28). A requester's mask is the negation of its
Permit (R147), and the capacity in force is the one held here. -/
structure Signals where
  liftPermit : Bool
  packPermit : Bool
  tailgatePermit : Bool
  weighSpeedOk : Bool
  capacity : Nat
  deriving DecidableEq, Repr

/-! ### Input Scanner (03) -/

/-- The Input Scanner (R32 to R44). E-Stop and the roles are read from `published`. -/
structure Scanner where
  pointer : Nat
  scans : Nat
  ready : Bool
  /-- the time of the next group read -/
  nextRead : Timer
  raw : BitVec 32
  logical : BitVec 32
  /-- the debounced state the filter has reached; unpublished before Scan Ready (R34) -/
  filtered : BitVec 32
  published : BitVec 32
  disagree : Vector Nat 32
  changeMap : BitVec 32
  pairErrors : BitVec 8
  pairCounts : Vector Nat 8
  deriving DecidableEq, Repr

/-! ### Lift Sequencer (04) -/

/-- The nine states of a station, in the order of R18. -/
inductive StationState where
  | idle | engage | raise | hold | dump | lower | release | homing | fault
  deriving DecidableEq, Repr

/-- The wait kinds of Hold (R56, R57). -/
inductive WaitKind where
  | none | lookup | status | identity | blade
  deriving DecidableEq, Repr

/-- The sub-phases of Dump (R61). -/
inductive DumpPhase where
  | none
  | shakeUp (k : Nat)
  | shakeBack (k : Nat)
  | dumpUp
  deriving DecidableEq, Repr

/-- A station's refusal reasons of R47 in the order of the Last Refusal codes (13); `busy` is given to
the sender and not recorded. -/
inductive Refused where
  | notReady | permit | sensorError | notInPosition | queueFull | bodyFull | unloading | busy
  deriving DecidableEq, Repr

/-- The causes of a station's Fault (R65), in the order of the codes of 13. Start is the cause of a Fault
that a start leaves; Last Fault Cause records only the others. -/
inductive StationFault where
  | engageTimeout | raiseTimeout | lowerTimeout | releaseTimeout | homingTimeout
  | pauseLimit | sensorError | eStop | start
  deriving DecidableEq, Repr

/-- The Hold decision for a lift. -/
inductive Admission where
  | pending | admitted | overridden | refused
  deriving DecidableEq, Repr

/-- How the tag reached the lift (R69). -/
inductive TagSource where
  | none | engage | late
  deriving DecidableEq, Repr

/-- The gross grade (R93). -/
inductive Grade where
  | none | stable | unstable | missing
  deriving DecidableEq, Repr

/-- The tare source (R94). -/
inductive TareSource where
  | none | measured | default
  deriving DecidableEq, Repr

/-- The status of a household (R108). -/
inductive HouseStatus where
  | active | suspended | exempt
  deriving DecidableEq, Repr

/-- The copy of a Household Record taken for a lift (R110). -/
structure Snapshot where
  account : Nat
  tariff : Nat
  status : HouseStatus
  bin : Nat
  deriving DecidableEq, Repr

/-- The Lift Record of R69. `flags` holds bits 0 to 15 in the order of R137 and bit 16 Hold Timeout.
`lookupPending` holds while the lift's lookup has not been answered (R56), and `requested` once a
charge or fault request has been made, so that the reservation is no longer the station's own (R65). -/
structure LiftRecord where
  liftNo : Nat
  start : Nat
  tag : Option Nat
  source : TagSource
  snapshot : Option Snapshot
  gross : Option Nat
  grade : Grade
  tare : Option Nat
  tareSource : TareSource
  pitch : Int
  flags : BitVec 32
  admission : Admission
  reachedDump : Bool
  lookupPending : Bool
  requested : Bool
  deriving DecidableEq, Repr

/-- A station's volatile state (04). -/
structure Lift where
  state : StationState
  paused : Bool
  wait : WaitKind
  sub : DumpPhase
  chargePending : Bool
  record : Option LiftRecord
  phaseTimer : Timer
  pauseTimer : Timer
  holdTimer : Timer
  seqTimer : Timer
  startRefusals : Nat
  lastRefusal : Option Refused
  pauses : Nat
  holdTimeouts : Nat
  faults : Nat
  lastFault : Option StationFault
  deriving DecidableEq, Repr

/-- How far a lift has progressed (R70). -/
inductive Furthest where
  | clear | started | engaged | raised | dumped
  deriving DecidableEq, Repr

/-- The retained Lift Marker of R70; tag 0 and account 0 stand for none. -/
structure Marker where
  furthest : Furthest
  tag : Nat
  account : Nat
  tariff : Nat
  bin : Nat
  gross : Option Nat
  deriving DecidableEq, Repr

/-! ### Tag Associator (05) -/

/-- An entry of the Tag Queue (R75); times are tag times in ms. -/
structure TagEntry where
  station : Station
  tag : Nat
  first : Nat
  last : Nat
  count : Nat
  strength : Nat
  deriving DecidableEq, Repr

/-- An Assigned Tag register that holds a tag (R79). -/
structure AssignedTag where
  tag : Nat
  last : Nat
  deriving DecidableEq, Repr

/-- A station's counts of R86. -/
structure TagCounts where
  engage : Nat
  late : Nat
  ambiguous : Nat
  noTag : Nat
  deriving DecidableEq, Repr

/-- The Tag Associator. -/
structure Tags where
  queue : List TagEntry
  overrun : Bool
  assigned : Tri (Option AssignedTag)
  taken : Nat
  ignored : Nat
  merged : Nat
  absorbed : Nat
  dropped : Nat
  counts : Tri TagCounts
  deriving DecidableEq, Repr

/-! ### Weigh Engine (06) -/

/-- The phase's accepted window with its candidate result (R91): mass, conversion flags, pitch used. -/
structure Accepted where
  spread : Nat
  mass : Nat
  flags : BitVec 32
  pitch : Int
  deriving DecidableEq, Repr

/-- The fallback window, kept as its sum and spread (R92). -/
structure Fallback where
  sum : Int
  spread : Nat
  deriving DecidableEq, Repr

/-- The silence timer of R96. -/
inductive Silence where
  | stopped
  | running (expiry : Nat)
  | expired
  deriving DecidableEq, Repr

/-- A run (06, Runs): the counts of its latest samples, newest first and at most N of them, and the
sequence number of the latest; an empty list is no run. -/
structure Run where
  counts : List Int
  seq : Nat
  deriving DecidableEq, Repr

/-- Last Zero Result (R106). -/
inductive ZeroResult where
  | none | captured | outOfRange | timeout | cancelled
  deriving DecidableEq, Repr

/-- A station's volatile weighing state (R107). `capture` is running while Capturing. -/
structure WeighStation where
  latestCount : Int
  latestAngle : Nat
  latestSeq : Nat
  run : Run
  accepted : Option Accepted
  fallback : Option Fallback
  silence : Silence
  pendingZero : Option Int
  capture : Timer
  captureRun : Run
  lastResult : ZeroResult
  lastMean : Int
  samples : Nat
  qualified : Nat
  runsStarted : Nat
  gaps : Nat
  stableWindows : Nat
  nodeLost : Nat
  unstableGross : Nat
  missingGross : Nat
  defaultTare : Nat
  negativeGross : Nat
  negativeTare : Nat
  deriving DecidableEq, Repr

/-- The Weigh Engine with the latest attitude (R97). -/
structure Weigh where
  st : Tri WeighStation
  pitch : Int
  roll : Int
  fresh : Bool
  attitudeTimer : Timer
  ignored : Nat
  attitudes : Nat
  deriving DecidableEq, Repr

/-- A station's retained active zero (R104). -/
structure Zero where
  za : Int
  defined : Bool
  deriving DecidableEq, Repr

/-! ### Household Table (07) -/

/-- The four table states (R109); Closed is Busy while the journal is in use. -/
inductive TableState where
  | closed | opened | checking | invalid
  deriving DecidableEq, Repr

/-- The operation of the Table Journal (R123). -/
inductive JournalOp where
  | clear | insert | delete | openPeriod
  deriving DecidableEq, Repr

/-- The Table Journal (R123); `staged` holds the 32 bytes of an Insert's record. -/
structure Journal where
  op : JournalOp
  pos : Nat
  next : Int
  staged : List Byte
  deriving DecidableEq, Repr

/-- Check Result (R117). -/
inductive CheckResult where
  | none | passed | countTooLarge | zeroTag | order | fieldRange
  deriving DecidableEq, Repr

/-- Table Result (R118). -/
inductive TableResult where
  | none | done | badRecord | duplicate | full | notFound
  deriving DecidableEq, Repr

/-- An entry of the Waiting List (R111). The counter access is the one of the request at the head of
the Request List. -/
inductive Waiting where
  | lookup (st : Station) (tag : Nat)
  | counter
  deriving DecidableEq, Repr

/-- The thirteen counts of R125. -/
structure TableCounts where
  lookups : Nat
  found : Nat
  notFound : Nat
  unavailable : Nat
  waited : Nat
  accesses : Nat
  gone : Nat
  opens : Nat
  checks : Nat
  inserts : Nat
  updates : Nat
  deletes : Nat
  periods : Nat
  deriving DecidableEq, Repr

/-- The Household Table beside its region (07). -/
structure Table where
  state : TableState
  journal : Journal
  recordCount : Nat
  checkResult : CheckResult
  badIndex : Nat
  /-- Record Staging, 32 bytes -/
  staging : List Byte
  lastResult : TableResult
  waiting : List Waiting
  /-- the next record step of a move or walk -/
  moveTimer : Timer
  /-- the end of the running check -/
  checkTimer : Timer
  counts : TableCounts
  deriving DecidableEq, Repr

/-! ### Billing Engine and Charge Queue (08) -/

/-- What a request to the Billing Engine asks (R127). -/
inductive BillKind where
  | charge (r : LiftRecord)
  | fault (r : LiftRecord) (incomplete : Bool)
  | start (m : Marker) (incomplete : Bool)
  | unload
  deriving DecidableEq, Repr

/-- A request of the Request List. -/
structure BillReq where
  holder : Holder
  kind : BillKind
  deriving DecidableEq, Repr

/-- A record's mass figures (R101 to R103): gross, tare, net in WU and billed mass in 0.1 kg, with the flags that
forming them sets. -/
structure Figures where
  gross : Nat
  tare : Nat
  net : Nat
  billed : Nat
  flags : BitVec 32
  deriving DecidableEq, Repr

/-- The Billing Engine (R127). `waiting` is none while it is Free; while it is Waiting it holds the mass
figures that the request at the head took before its counter access (R129 step 1). -/
structure Billing where
  list : List BillReq
  waiting : Option Figures
  served : Nat
  recordGone : Nat
  unavailable : Nat
  capped : Nat
  deriving DecidableEq, Repr

/-- The Charge Queue beside its region (R139 to R144): which holders hold a reservation. -/
structure Queue where
  head : Nat
  count : Nat
  nextSeq : Nat
  heldSt : Tri Bool
  heldTailgate : Bool
  commits : Nat
  released : Nat
  deriving DecidableEq, Repr

/-! ### Flow Arbiter and Valve Driver (09) -/

/-- The phases that use flow, in the order of the Function Table (R145). -/
inductive FlowPhase where
  | engage | raise | dump | lower | release | homing
  | extending | retracting
  | opening | ejecting | closing
  deriving DecidableEq, Repr

/-- A request at the Flow Arbiter (R146). -/
structure FlowReq where
  phase : FlowPhase
  demand : Nat
  minimum : Nat
  deriving DecidableEq, Repr

/-- The Flow Arbiter. `group` is the station group order, highest first (R148). -/
structure Arbiter where
  req : Five (Option FlowReq)
  grant : Five Nat
  group : List Station
  arbitrations : Nat
  grants : Nat
  revokes : Nat
  yields : Nat
  walkStops : Nat
  deriving DecidableEq, Repr

/-- A valve channel's drive state (R156). The running period began at `periodStart`. -/
structure Channel where
  applied : Nat
  target : Nat
  pending : Nat
  cuts : Nat
  periodStart : Nat
  periodEnd : Timer
  deriving DecidableEq, Repr

/-- A toggle output (R161): its condition as last worked out, its level and its timer. -/
structure ToggleState where
  on : Bool
  level : Bool
  timer : Timer
  deriving DecidableEq, Repr

/-- BCN and HRN. -/
structure Toggles where
  beacon : ToggleState
  horn : ToggleState
  deriving DecidableEq, Repr

/-! ### Packer, payload and tailgate (10) -/

/-- The five states of the packer. -/
inductive PackerState where
  | parked | extending | dwelling | retracting | fault
  deriving DecidableEq, Repr

/-- The causes of a packer Fault (R170), in the order of the codes of 13; Start is not recorded. -/
inductive PackerFault where
  | extendTimeout | retractTimeout | pauseLimit | sensorError | eStop | start
  deriving DecidableEq, Repr

/-- The Packer Controller (R164 to R170). -/
structure Packer where
  state : PackerState
  paused : Bool
  packPending : Bool
  dumps : Nat
  stroke : Nat
  lastStroke : Nat
  /-- Extend Limit or Retract Limit -/
  limitTimer : Timer
  stallTimer : Timer
  dwellTimer : Timer
  pauseTimer : Timer
  cycles : Nat
  stalls : Nat
  autoRequests : Nat
  autoRefused : Nat
  pauses : Nat
  faults : Nat
  lastFault : Option PackerFault
  deriving DecidableEq, Repr

/-- The Payload Accumulator with the retained Fill list, oldest first (R169, R171, R172). -/
structure Payload where
  mass : Nat
  fills : List Nat
  bodyFull : Bool
  deriving DecidableEq, Repr

/-- The five states of the tailgate. -/
inductive TailgateState where
  | closed | opening | ejecting | closing | fault
  deriving DecidableEq, Repr

/-- The retained tailgate marker. -/
inductive TailgateMarker where
  | clear | opening | ejecting | closing
  deriving DecidableEq, Repr

/-- The causes of a tailgate Fault (R175), in the order of the codes of 13; Start is not recorded. -/
inductive TailgateFault where
  | openingTimeout | closingTimeout | pauseLimit | sensorError | eStop | start
  deriving DecidableEq, Repr

/-- The Tailgate Controller (R173 to R175). The run timer of Opening stands as two timers that start,
stop and go on together: to Open Time and to Opening Limit. -/
structure Tailgate where
  state : TailgateState
  paused : Bool
  unloadPending : Bool
  marker : TailgateMarker
  /-- the run timer has reached Open Time -/
  openReached : Bool
  openTimer : Timer
  /-- Opening Limit or Closing Limit -/
  limitTimer : Timer
  ejectTimer : Timer
  pauseTimer : Timer
  unloads : Nat
  pauses : Nat
  faults : Nat
  lastFault : Option TailgateFault
  deriving DecidableEq, Repr

/-! ### Clock, totals and snapshots (11) -/

/-- The Clock (R178). The Totals lie in the totals region of the store. -/
structure Clock where
  seconds : Nat
  valid : Bool
  stepped : Bool
  /-- the next advance of a second -/
  tick : Timer
  stepCount : Nat
  syncSamples : Nat
  syncsSet : Nat
  syncIgnored : Nat
  deriving DecidableEq, Repr

/-- A Snapshot buffer (R183). -/
structure SnapBuf where
  latched : Bool
  bytes : List Byte
  pos : Nat
  deriving DecidableEq, Repr

/-- The pair of Snapshot buffers. -/
structure Snaps where
  status : SnapBuf
  totals : SnapBuf
  deriving DecidableEq, Repr

/-! ### Management Agent (12) -/

/-- A taken request (R185): the manager, the node that sent it, its request tag and what it asks. -/
structure Request where
  mgr : Manager
  src : Byte
  tag : BitVec 4
  body : ReqBody
  deriving DecidableEq, Repr

/-- What the Agent holds the head of its queue for (R185). -/
inductive Hold where
  | none | table | bodyReset
  deriving DecidableEq, Repr

/-- An access of the Deferred Slot (R191): the manager, the request, its resolved address, the node it
reaches, the query tag and the data bytes of its Node Query. -/
structure Access where
  mgr : Manager
  body : ReqBody
  addr : Nat
  node : Byte
  qtag : BitVec 4
  query : List Byte
  deriving DecidableEq, Repr

/-- The result of a Ready slot: the bytes read (none for a confirmed write), or Node Timeout. -/
inductive MirrorResult where
  | data (bytes : List Byte)
  | timeout
  deriving DecidableEq, Repr

/-- The Deferred Slot (R191, R192). -/
inductive Deferred where
  | free
  | querying (a : Access) (t : Timer)
  | requerying (a : Access) (t : Timer)
  | ready (a : Access) (r : MirrorResult) (t : Timer)
  deriving DecidableEq, Repr

/-- The Management Agent. -/
structure Agent where
  queue : List Request
  hold : Hold
  terminalPtr : Nat
  servicePtr : Nat
  bankBase : Nat
  deferred : Deferred
  queryTag : BitVec 4
  notices : BitVec 16
  sendNeeded : Bool
  spacing : Timer
  noticesSent : Nat
  foreignRequests : Nat
  served : Nat
  statusCounts : Vector Nat 9
  strayNodeData : Nat
  deriving DecidableEq, Repr

/-! ### The whole part -/

/-- The state of the part, block by block, and the queue of commands that wait. -/
structure State where
  sys : Sys
  mode : Mode
  /-- the window-visible Retained Store: household, Charge Queue, configuration (written copy), totals -/
  store : Mem
  /-- the configuration copy in force (R193) -/
  cfg : Mem
  chassis : PortState
  body : PortState
  /-- the Chassis Port's Status Buffer (R5) -/
  statusBuffer : Option Frame
  /-- the Body Port's Control Queue (R5) -/
  control : List CtrlFrame
  routes : Vector RouteState 64
  statusTimer : Timer
  slots : Vector Slot 6
  signals : Signals
  scanner : Scanner
  lifts : Tri Lift
  /-- Foreign Commands (R67) -/
  foreignCommands : Nat
  markers : Tri Marker
  tags : Tags
  weigh : Weigh
  zeros : Tri Zero
  table : Table
  billing : Billing
  queue : Queue
  arbiter : Arbiter
  channels : Vector Channel 12
  toggles : Toggles
  packer : Packer
  payload : Payload
  tailgate : Tailgate
  clock : Clock
  snaps : Snaps
  agent : Agent
  /-- the commands that wait, first in, first out -/
  pending : List Instr
  deriving DecidableEq, Repr

/-- Why a step can stop with a fault: never. No rule of the spec gives the part a condition in which
it stops; every refusal, Bad Address or Fault state of the spec is a next state. -/
inductive Fault where
  deriving DecidableEq, Repr

/-- Why a step can be refused: only for want of a meaning. -/
inductive Refusal where
  /-- Raised by `exec` for a command that has no meaning yet; every command has one, so by none. Safe. -/
  | notModelled (mnemonic : String)
  deriving DecidableEq, Repr

/-! ### The state after a Cold Start -/

/-- A port after every start (R2). -/
def PortState.start : PortState :=
  { off := false, waitRecessive := false, txErr := 0, rxErr := 0, tx := none, forward := [],
    recovery := .stopped, received := 0, sent := 0, malformed := 0, unrouted := 0,
    controlOverflow := 0, statusReplaced := 0, offDiscards := 0, busOff := 0 }

/-- A route after every start (R13, R15). -/
def RouteState.start : RouteState := ⟨.stopped, none, 0, 0⟩

/-- A slot after every start (R31). -/
def Slot.start : Slot := ⟨.never, 0, .stopped, .stopped, 0, 0, 0, .none⟩

/-- The Signal Monitor's outputs after every start (R31). -/
def Signals.start : Signals := ⟨false, false, false, false, 0⟩

/-- The scanner after a start at time `t` (R44). -/
def Scanner.start (t : Nat) : Scanner :=
  { pointer := 0, scans := 0, ready := false, nextRead := .running (t + Config.groupTime),
    raw := 0, logical := 0, filtered := 0, published := 0,
    disagree := Vector.replicate 32 0, changeMap := 0, pairErrors := 0,
    pairCounts := Vector.replicate 8 0 }

/-- A station after a start that finds its marker clear (R71, R72). -/
def Lift.start : Lift :=
  { state := .idle, paused := false, wait := .none, sub := .none, chargePending := false,
    record := none, phaseTimer := .stopped, pauseTimer := .stopped, holdTimer := .stopped,
    seqTimer := .stopped, startRefusals := 0, lastRefusal := none, pauses := 0, holdTimeouts := 0,
    faults := 0, lastFault := none }

/-- A clear Lift Marker (R70). -/
def Marker.clear : Marker := ⟨.clear, 0, 0, 0, 0, none⟩

/-- The Tag Associator after every start (R85). -/
def Tags.start : Tags :=
  { queue := [], overrun := false, assigned := Tri.all none, taken := 0, ignored := 0, merged := 0,
    absorbed := 0, dropped := 0, counts := Tri.all ⟨0, 0, 0, 0⟩ }

/-- No run. -/
def Run.empty : Run := ⟨[], 0⟩

/-- A station's weighing state after every start (R104, R106, R107). -/
def WeighStation.start : WeighStation :=
  { latestCount := 0, latestAngle := 0, latestSeq := 0, run := Run.empty, accepted := none,
    fallback := none, silence := .stopped, pendingZero := none, capture := .stopped,
    captureRun := Run.empty, lastResult := .none, lastMean := 0, samples := 0, qualified := 0,
    runsStarted := 0, gaps := 0, stableWindows := 0, nodeLost := 0, unstableGross := 0,
    missingGross := 0, defaultTare := 0, negativeGross := 0, negativeTare := 0 }

/-- The Weigh Engine after every start (R97, R107). -/
def Weigh.start : Weigh := ⟨Tri.all WeighStation.start, 0, 0, false, .stopped, 0, 0⟩

/-- A clear Table Journal (R123). DESIGN CHOICE (log entry 28): its position and next index read 0. -/
def Journal.clear : Journal := ⟨.clear, 0, 0, []⟩

/-- The counts of R125 after every start. -/
def TableCounts.start : TableCounts := ⟨0, 0, 0, 0, 0, 0, 0, 0, 0, 0, 0, 0, 0⟩

/-- The Household Table after a Cold Start (R124). -/
def Table.cold : Table :=
  { state := .closed, journal := Journal.clear, recordCount := 0, checkResult := .none,
    badIndex := 0, staging := List.replicate 32 0, lastResult := .none, waiting := [],
    moveTimer := .stopped, checkTimer := .stopped, counts := TableCounts.start }

/-- The Billing Engine after every start (R127). -/
def Billing.start : Billing := ⟨[], none, 0, 0, 0, 0⟩

/-- The Charge Queue after a Cold Start (R144). -/
def Queue.cold : Queue := ⟨0, 0, 1, Tri.all false, false, 0, 0⟩

/-- The Flow Arbiter after a start, with the group order of R148. -/
def Arbiter.start (group : List Station) : Arbiter :=
  { req := ⟨Tri.all none, none, none⟩, grant := ⟨Tri.all 0, 0, 0⟩, group := group,
    arbitrations := 0, grants := 0, revokes := 0, yields := 0, walkStops := 0 }

/-- A valve channel whose period of `len` µs begins at time `t` (R162). -/
def Channel.start (t len : Nat) : Channel := ⟨0, 0, 0, 0, t, .running (t + len)⟩

/-- Both toggle outputs low with no timer running (R161). -/
def Toggles.start : Toggles := ⟨⟨false, false, .stopped⟩, ⟨false, false, .stopped⟩⟩

/-- The packer after every start (R176). -/
def Packer.start : Packer :=
  { state := .parked, paused := false, packPending := false, dumps := 0, stroke := 0,
    lastStroke := 0, limitTimer := .stopped, stallTimer := .stopped, dwellTimer := .stopped,
    pauseTimer := .stopped, cycles := 0, stalls := 0, autoRequests := 0, autoRefused := 0,
    pauses := 0, faults := 0, lastFault := none }

/-- The tailgate after a start that finds its marker clear (R176). -/
def Tailgate.start : Tailgate :=
  { state := .closed, paused := false, unloadPending := false, marker := .clear,
    openReached := false, openTimer := .stopped, limitTimer := .stopped, ejectTimer := .stopped,
    pauseTimer := .stopped, unloads := 0, pauses := 0, faults := 0, lastFault := none }

/-- The Clock after a Cold Start at time `t` (R178). -/
def Clock.cold (t : Nat) : Clock := ⟨0, false, false, .running (t + Config.second), 0, 0, 0, 0⟩

/-- An unlatched Snapshot buffer of `n` zero bytes (R183). -/
def SnapBuf.empty (n : Nat) : SnapBuf := ⟨false, List.replicate n 0, 0⟩

/-- Both Snapshot buffers after every start. -/
def Snaps.start : Snaps := ⟨SnapBuf.empty 16, SnapBuf.empty 48⟩

/-- The Management Agent after every start (R197, R198). -/
def Agent.start : Agent :=
  { queue := [], hold := .none, terminalPtr := 0, servicePtr := 0, bankBase := 0,
    deferred := .free, queryTag := 0, notices := 0, sendNeeded := false, spacing := .stopped,
    noticesSent := 0, foreignRequests := 0, served := 0, statusCounts := Vector.replicate 9 0,
    strayNodeData := 0 }

/-- The machine right after a Cold Start with NA1 and NA0 low, at time 0. Every store is at its Cold
Start contents, so none lists a byte; the part is Configuring (R193). The Status Period is its
default of 500 ms (R17) and every valve period its default of 1,024 µs (R156). -/
def State.reset : State :=
  { sys := { powered := true, now := 0, startedAt := 0, na := 0, kgood := false, contacts := 0,
             ownNode := 16 }
    mode := ⟨true, false, false⟩
    store := []
    cfg := []
    chassis := PortState.start
    body := PortState.start
    statusBuffer := none
    control := []
    routes := Vector.replicate 64 RouteState.start
    statusTimer := .running (500 * Config.ms)
    slots := Vector.replicate 6 Slot.start
    signals := Signals.start
    scanner := Scanner.start 0
    lifts := Tri.all Lift.start
    foreignCommands := 0
    markers := Tri.all Marker.clear
    tags := Tags.start
    weigh := Weigh.start
    zeros := Tri.all ⟨0, false⟩
    table := Table.cold
    billing := Billing.start
    queue := Queue.cold
    arbiter := Arbiter.start [.sideArm, .rearLeft, .rearRight]
    channels := Vector.replicate 12 (Channel.start 0 1024)
    toggles := Toggles.start
    packer := Packer.start
    payload := ⟨0, [], false⟩
    tailgate := Tailgate.start
    clock := Clock.cold 0
    snaps := Snaps.start
    agent := Agent.start
    pending := [] }

end Sys2Proof.Machine
end

