-- ==== Sys2Proof/Machine/Defaults.lean ====
section
/-! DEFINITION. What a byte of the Retained Store holds after a Cold Start: the default of every
configuration item, laid out as 13 gives the configuration region, and 0 elsewhere. It is what an
unlisted address of a `Mem` reads as. -/

namespace Sys2Proof.Machine

/-- Entry `i` of a table of byte values, 0 beyond it. -/
def nth (l : List Nat) (i : Nat) : Nat := l.getD i 0

/-- Defaults of 62500h–6250Fh: both Default Actions Drop (R7), Status Period 500 ms and Status
Identifier 1C7A0010h (R17). -/
def coldStatusItems (o : Nat) : Nat := nth [0, 0, 0xF4, 0x01, 0x10, 0x00, 0x7A, 0x1C] o

/-- Defaults of slot `k`'s parameter set (R19): Bit Length 8, Freshness Timeout 50; Multiplier and
Divisor 1 for the numeric slots; True Code 1 and False Code 0 for the boolean slots. -/
def coldSlotItems (k o : Nat) : Nat :=
  if o = 2 then 8
  else if o = 3 then 50
  else if k = 0 ∨ k = 4 then (if o = 6 ∨ o = 8 then 1 else 0)
  else if k = 5 then 0
  else if o = 12 then 1 else 0

/-- Defaults of 62588h–6259Bh: Lift Speed Limit 50, Weigh Speed Limit 20 (R27), Capacity Table (R28). -/
def coldLimitItems (o : Nat) : Nat :=
  nth [50, 0, 20, 0, 0x58, 0x02, 40, 0, 0x84, 0x03, 70, 0, 0xB0, 0x04, 100, 0, 0xDC, 0x05, 100, 0] o

/-- Defaults of a station's Lift Parameters (R46); Release Limit 100 for the Side Arm, 300 for a rear
station. -/
def coldLiftItems (k o : Nat) : Nat :=
  if k = 0 then nth [80, 0, 150, 0, 150, 0, 100, 0, 200, 0, 150, 0, 2, 30] o
  else nth [80, 0, 150, 0, 150, 0, 0x2C, 0x01, 200, 0, 150, 0, 2, 30] o

/-- Defaults of a station's Station Table entry (R73, R87): Reader Node 32 + k, Weigh Node 40 + k,
N 16, Zone 250 to 800, Stability Band 400, K 655, Capacity 25,000, Zero Range 2,000, Z0 0. -/
def coldStationItems (k o : Nat) : Nat :=
  nth [32 + k, 40 + k, 16, 0, 0xFA, 0x00, 0x20, 0x03, 0x90, 0x01, 0x8F, 0x02, 0xA8, 0x61, 0xD0, 0x07] o

/-- Defaults of 62850h–6286Bh: the demands, Rotating, Below, the Fixed Order and the half-periods
(R145). -/
def coldFlowItems (o : Nat) : Nat :=
  nth [20, 45, 35, 30, 20, 30, 35, 30, 25, 25, 35, 30, 25, 25, 60, 20, 40, 50, 60, 50, 1, 1,
    0, 1, 2, 3, 50, 25] o

/-- Defaults of 62950h–62967h: packer and payload (R164), tailgate (R173). -/
def coldPackerItems (o : Nat) : Nat :=
  nth [0xB0, 0x04, 40, 10, 150, 0, 150, 0, 3, 90, 0, 0, 0xC0, 0xD4, 0x01, 0x00,
    30, 0, 0x2C, 0x01, 250, 0, 0x2C, 0x01] o

/-- The byte at an address of the Retained Store after a Cold Start (R7, R17, R19, R27, R28, R34,
R46, R73, R87, R108, R126, R144, R145, R156, R164, R173, R178, R182, R185). Reserved bytes of the
configuration region are 0 (log entry 6). -/
def coldByte (a : Nat) : Byte :=
  BitVec.ofNat 8 <|
    if a < 0x62500 then 0
    else if a < 0x62510 then coldStatusItems (a - 0x62500)
    else if a < 0x62588 then coldSlotItems ((a - 0x62510) / 20) ((a - 0x62510) % 20)
    else if a < 0x625C0 then coldLimitItems (a - 0x62588)
    else if a < 0x62620 then (if a = 0x625E0 then 3 else 0)
    else if a < 0x62650 then coldLiftItems ((a - 0x62620) / 16) ((a - 0x62620) % 16)
    else if a < 0x62680 then nth [30, 0, 60, 0, 8] (a - 0x62650)
    else if a < 0x626C8 then coldStationItems ((a - 0x62680) / 24) ((a - 0x62680) % 24)
    else if a < 0x626CC then nth [0, 30, 48] (a - 0x626C8)
    else if a < 0x6270A then (if a % 2 = 1 then 0x40 else 0)
    else if a < 0x62800 then 0
    else if a < 0x62820 then nth [0x14, 0x05, 0xFA, 0x00] (a % 4)
    else if a < 0x62850 then nth [120, 0, 192, 0] (a - 0x62820)
    else if a < 0x6286C then coldFlowItems (a - 0x62850)
    else if a < 0x6289C then nth [4, 8, 0, 1] (a % 4)
    else if a < 0x62950 then 0
    else if a < 0x62990 then coldPackerItems (a - 0x62950)
    else if a < 0x629F0 then nth [2, 1, 2] (a - 0x62990)
    else 0

end Sys2Proof.Machine
end

