-- ==== Sys2Proof/Machine/Update.lean ====
section
/-! DEFINITION. One named replacement for each field of `State`: every operation of the machine
changes the state through these, and Laws/State.lean says what each leaves alone. -/

namespace Sys2Proof.Machine

/-- Replaces `sys`. -/
def State.setSys (s : State) (x : Sys) : State := { s with sys := x }

/-- Replaces `mode`. -/
def State.setMode (s : State) (x : Mode) : State := { s with mode := x }

/-- Replaces `store`. -/
def State.setStore (s : State) (x : Mem) : State := { s with store := x }

/-- Replaces `cfg`. -/
def State.setCfg (s : State) (x : Mem) : State := { s with cfg := x }

/-- Replaces `chassis`. -/
def State.setChassis (s : State) (x : PortState) : State := { s with chassis := x }

/-- Replaces `body`. -/
def State.setBody (s : State) (x : PortState) : State := { s with body := x }

/-- Replaces `statusBuffer`. -/
def State.setStatusBuffer (s : State) (x : Option Frame) : State := { s with statusBuffer := x }

/-- Replaces `control`. -/
def State.setControl (s : State) (x : List CtrlFrame) : State := { s with control := x }

/-- Replaces `routes`. -/
def State.setRoutes (s : State) (x : Vector RouteState 64) : State := { s with routes := x }

/-- Replaces `statusTimer`. -/
def State.setStatusTimer (s : State) (x : Timer) : State := { s with statusTimer := x }

/-- Replaces `slots`. -/
def State.setSlots (s : State) (x : Vector Slot 6) : State := { s with slots := x }

/-- Replaces `signals`. -/
def State.setSignals (s : State) (x : Signals) : State := { s with signals := x }

/-- Replaces `scanner`. -/
def State.setScanner (s : State) (x : Scanner) : State := { s with scanner := x }

/-- Replaces `lifts`. -/
def State.setLifts (s : State) (x : Tri Lift) : State := { s with lifts := x }

/-- Replaces `foreignCommands`. -/
def State.setForeignCommands (s : State) (x : Nat) : State := { s with foreignCommands := x }

/-- Replaces `markers`. -/
def State.setMarkers (s : State) (x : Tri Marker) : State := { s with markers := x }

/-- Replaces `tags`. -/
def State.setTags (s : State) (x : Tags) : State := { s with tags := x }

/-- Replaces `weigh`. -/
def State.setWeigh (s : State) (x : Weigh) : State := { s with weigh := x }

/-- Replaces `zeros`. -/
def State.setZeros (s : State) (x : Tri Zero) : State := { s with zeros := x }

/-- Replaces `table`. -/
def State.setTable (s : State) (x : Table) : State := { s with table := x }

/-- Replaces `billing`. -/
def State.setBilling (s : State) (x : Billing) : State := { s with billing := x }

/-- Replaces `queue`. -/
def State.setQueue (s : State) (x : Queue) : State := { s with queue := x }

/-- Replaces `arbiter`. -/
def State.setArbiter (s : State) (x : Arbiter) : State := { s with arbiter := x }

/-- Replaces `channels`. -/
def State.setChannels (s : State) (x : Vector Channel 12) : State := { s with channels := x }

/-- Replaces `toggles`. -/
def State.setToggles (s : State) (x : Toggles) : State := { s with toggles := x }

/-- Replaces `packer`. -/
def State.setPacker (s : State) (x : Packer) : State := { s with packer := x }

/-- Replaces `payload`. -/
def State.setPayload (s : State) (x : Payload) : State := { s with payload := x }

/-- Replaces `tailgate`. -/
def State.setTailgate (s : State) (x : Tailgate) : State := { s with tailgate := x }

/-- Replaces `clock`. -/
def State.setClock (s : State) (x : Clock) : State := { s with clock := x }

/-- Replaces `snaps`. -/
def State.setSnaps (s : State) (x : Snaps) : State := { s with snaps := x }

/-- Replaces `agent`. -/
def State.setAgent (s : State) (x : Agent) : State := { s with agent := x }

/-- Replaces `pending`. -/
def State.setPending (s : State) (x : List Instr) : State := { s with pending := x }

end Sys2Proof.Machine
end

