-- ==== Sys2Proof/Machine/Ops.lean ====
section
/-! DEFINITION. The named operations over memory, counters, timers and numbers that every block uses. -/

namespace Sys2Proof

/-! ### Numbers of stations and slots -/

/-- A station's number (00, Identifiers). -/
def Station.num : Station → Nat
  | .sideArm => 0
  | .rearLeft => 1
  | .rearRight => 2

/-- The station of a number. -/
def Station.ofNum : Nat → Option Station
  | 0 => some .sideArm
  | 1 => some .rearLeft
  | 2 => some .rearRight
  | _ => none

/-- The Side Arm is the one Side station (04). -/
def Station.isSide : Station → Bool
  | .sideArm => true
  | _ => false

/-- A slot's number in the order of R19. -/
def SlotId.num : SlotId → Nat
  | .roadSpeed => 0
  | .parkBrake => 1
  | .ptoEngaged => 2
  | .reverseSelected => 3
  | .engineSpeed => 4
  | .chassisTime => 5

/-- The slot of a number. -/
def SlotId.ofNum : Nat → Option SlotId
  | 0 => some .roadSpeed
  | 1 => some .parkBrake
  | 2 => some .ptoEngaged
  | 3 => some .reverseSelected
  | 4 => some .engineSpeed
  | 5 => some .chassisTime
  | _ => none

/-- A slot's place in the vector of slots. -/
def SlotId.fin : SlotId → Fin 6
  | .roadSpeed => 0
  | .parkBrake => 1
  | .ptoEngaged => 2
  | .reverseSelected => 3
  | .engineSpeed => 4
  | .chassisTime => 5

end Sys2Proof

namespace Sys2Proof.Machine

/-- The three stations in the order 0, 1, 2. -/
def stations : List Station := [.sideArm, .rearLeft, .rearRight]

/-- The six slots in order. -/
def slotIds : List SlotId :=
  [.roadSpeed, .parkBrake, .ptoEngaged, .reverseSelected, .engineSpeed, .chassisTime]

/-! ### Numbers and bytes -/

/-- Adds with saturation at `top` (00, saturating). -/
def satAdd (top n d : Nat) : Nat := min (n + d) top

/-- One more on a 16-bit saturating count. -/
def bump (n : Nat) : Nat := satAdd 0xFFFF n 1

/-- The `k` bytes of `v`, least significant first (00, little-endian). -/
def leBytes : Nat → Nat → List Byte
  | 0, _ => []
  | k + 1, v => BitVec.ofNat 8 v :: leBytes k (v / 256)

/-- The number that little-endian bytes hold. -/
def ofLe : List Byte → Nat
  | [] => 0
  | b :: bs => b.toNat + 256 * ofLe bs

/-- The signed number that `w` bits hold in two's complement (00). -/
def signed (w v : Nat) : Int := if v < 2 ^ (w - 1) then (v : Int) else (v : Int) - 2 ^ w

/-- The `w` bits that hold a signed number in two's complement. -/
def unsigned (w : Nat) (v : Int) : Nat := (v % (2 ^ w : Nat)).toNat

/-- `n / d` rounded to nearest with ties away from zero (00, Arithmetic terms). -/
def roundDiv (n : Int) (d : Nat) : Int :=
  let q : Nat := (2 * n.natAbs + d) / (2 * d)
  if n < 0 then -(q : Int) else q

/-- Whether bit `i` of a set is set. -/
def hasBit {w : Nat} (m : BitVec w) (i : Nat) : Bool := m.getLsbD i

/-- A set with bit `i` alone. -/
def oneBit (w i : Nat) : BitVec w := BitVec.ofNat w (2 ^ i)

/-- Sets bit `i` of a set to `v`. -/
def putBit {w : Nat} (m : BitVec w) (i : Nat) (v : Bool) : BitVec w :=
  if v then m ||| oneBit w i else m &&& ~~~ oneBit w i

/-- 1 for true and 0 for false, as 13 codes a boolean item. -/
def flagNat (b : Bool) : Nat := if b then 1 else 0

/-! ### Stores of bytes -/

/-- The byte at an address: the listed one, or the Cold Start contents. -/
def Mem.read : Mem → Nat → Byte
  | [], a => coldByte a
  | (k, b) :: rest, a => if a = k then b else if a < k then coldByte a else Mem.read rest a

/-- Writes one byte and keeps the canonical form: a byte equal to the Cold Start contents is not
listed. -/
def Mem.write : Mem → Nat → Byte → Mem
  | [], a, v => if v = coldByte a then [] else [(a, v)]
  | (k, b) :: rest, a, v =>
    if a = k then (if v = coldByte a then rest else (a, v) :: rest)
    else if a < k then (if v = coldByte a then (k, b) :: rest else (a, v) :: (k, b) :: rest)
    else (k, b) :: Mem.write rest a v

/-- `n` bytes from an address on. -/
def Mem.readBytes (m : Mem) (a : Nat) : Nat → List Byte
  | 0 => []
  | n + 1 => Mem.read m a :: Mem.readBytes m (a + 1) n

/-- Writes bytes from an address on. -/
def Mem.writeBytes (m : Mem) (a : Nat) : List Byte → Mem
  | [] => m
  | b :: bs => Mem.writeBytes (Mem.write m a b) (a + 1) bs

/-- The unsigned item of `n` bytes at an address. -/
def Mem.num (m : Mem) (a n : Nat) : Nat := ofLe (Mem.readBytes m a n)

/-- Stores an item of `n` bytes. -/
def Mem.putNum (m : Mem) (a n v : Nat) : Mem := Mem.writeBytes m a (leBytes n v)

/-- The entries of a store that lie from `lo` up to, and not at, `hi`. -/
def Mem.slice (m : Mem) (lo hi : Nat) : Mem :=
  m.filter fun c => decide (lo ≤ c.1) && decide (c.1 < hi)

/-- The canonical form: addresses strictly rising, and no entry equal to the Cold Start contents. -/
def Mem.wf : Mem → Bool
  | [] => true
  | (k, b) :: rest =>
    (b != coldByte k) && rest.all (fun c => decide (k < c.1)) && Mem.wf rest

/-! ### Timers -/

/-- Stops the clock of a running timer, which keeps the time it has left (R50). -/
def Timer.hold (now : Nat) : Timer → Timer
  | .running e => .held (e - now)
  | t => t

/-- Lets a held timer run on for the time it has left (R50). -/
def Timer.resume (now : Nat) : Timer → Timer
  | .held l => .running (now + l)
  | t => t

/-- Whether a timer runs. -/
def Timer.isRunning : Timer → Bool
  | .running _ => true
  | _ => false

/-- The time a timer has left at `now`; 0 when it is stopped. -/
def Timer.left (now : Nat) : Timer → Nat
  | .running e => e - now
  | .held l => l
  | .stopped => 0

/-- The time a running timer expires at. -/
def Timer.due : Timer → Option Nat
  | .running e => some e
  | _ => none

/-- Brings the time base up to `t`; it never goes back. -/
def State.reach (s : State) (t : Nat) : State := s.setSys { s.sys with now := max s.sys.now t }

/-- The present time. -/
def State.now (s : State) : Nat := s.sys.now

/-- An expiry event: when the timer runs, its time has come (log entry 3), and `f` acts, given the
expiry time. When it does not run there is no expiry, and nothing changes. -/
def onExpiry (t : Timer) (s : State) (f : Nat → State → State) : State :=
  match t with
  | .running e => f e (s.reach e)
  | _ => s

/-- The tag time (05, Taking a read): ms since the start. -/
def State.tagTime (s : State) : Nat := (s.sys.now - s.sys.startedAt) / Config.ms

/-! ### Named parts of the state -/

/-- The state of a port. -/
def State.port (s : State) : Port → PortState
  | .chassis => s.chassis
  | .body => s.body

/-- Replaces the state of a port. -/
def State.setPort (s : State) (p : Port) (x : PortState) : State :=
  match p with
  | .chassis => s.setChassis x
  | .body => s.setBody x

/-- The state of a station. -/
def State.lift (s : State) (st : Station) : Lift := s.lifts.get st

/-- Replaces the state of a station. -/
def State.setLift (s : State) (st : Station) (x : Lift) : State := s.setLifts (s.lifts.set st x)

/-- The Lift Marker of a station. -/
def State.marker (s : State) (st : Station) : Marker := s.markers.get st

/-- Replaces the Lift Marker of a station. -/
def State.setMarker (s : State) (st : Station) (x : Marker) : State :=
  s.setMarkers (s.markers.set st x)

/-- The weighing state of a station. -/
def State.scale (s : State) (st : Station) : WeighStation := s.weigh.st.get st

/-- Replaces the weighing state of a station. -/
def State.setScale (s : State) (st : Station) (x : WeighStation) : State :=
  s.setWeigh { s.weigh with st := s.weigh.st.set st x }

/-- The active zero of a station. -/
def State.zero (s : State) (st : Station) : Zero := s.zeros.get st

/-- The state of a slot. -/
def State.slot (s : State) (k : SlotId) : Slot := s.slots[k.fin]

/-- Replaces the state of a slot. -/
def State.setSlot (s : State) (k : SlotId) (x : Slot) : State := s.setSlots (s.slots.set k.fin x)

/-- The state of a route. -/
def State.route (s : State) (i : Fin 64) : RouteState := s.routes[i]

/-- Replaces the state of a route. -/
def State.setRoute (s : State) (i : Fin 64) (x : RouteState) : State := s.setRoutes (s.routes.set i x)

/-- One more frame in a route's dropped count (R15). -/
def dropOn (i : Fin 64) (s : State) : State :=
  s.setRoute i { s.route i with dropped := bump (s.route i).dropped }

/-- The Permit of a requester (R147). -/
def State.permit (s : State) : Requester → Bool
  | .station _ => s.signals.liftPermit
  | .packer => s.signals.packPermit
  | .tailgate => s.signals.tailgatePermit

/-- A requester is masked while its Permit is false (R147). -/
def State.masked (s : State) (r : Requester) : Bool := !s.permit r

/-- The request of a requester. -/
def State.request (s : State) (r : Requester) : Option FlowReq := s.arbiter.req.get r

/-- The grant of a requester. -/
def State.grant (s : State) (r : Requester) : Nat := s.arbiter.grant.get r

/-- The five requesters. -/
def requesters : List Requester :=
  [.station .sideArm, .station .rearLeft, .station .rearRight, .packer, .tailgate]

/-- The Fin values below `n`, in order. -/
def fins (n : Nat) : List (Fin n) := List.finRange n

end Sys2Proof.Machine
end

