-- ==== Sys2Proof/Machine/Params.lean ====
section
/-! DEFINITION. The configuration items as the blocks read them, each at the address and with the
coding that 13 (Frame and Record Formats) gives. The same readings serve the copy in force
(`State.cfg`) and, at a Commit, the written copy. Times are given in microseconds. -/

namespace Sys2Proof.Machine

/-- An item of one byte. -/
def Mem.u8 (c : Mem) (a : Nat) : Nat := (c.read a).toNat

/-- An item of two bytes. -/
def Mem.u16 (c : Mem) (a : Nat) : Nat := c.num a 2

/-- An item of four bytes. -/
def Mem.u32 (c : Mem) (a : Nat) : Nat := c.num a 4

/-! ### Route Table (R7) -/

/-- The Actions of a Route Table entry. -/
inductive RouteAction where
  | drop | forward | translate | tap | tapAndForward | tapAndTranslate
  deriving DecidableEq, Repr

/-- The Action of a code; a code outside the six stands in no enabled entry in force (R7). -/
def RouteAction.ofCode : Nat → RouteAction
  | 1 => .forward
  | 2 => .translate
  | 3 => .tap
  | 4 => .tapAndForward
  | 5 => .tapAndTranslate
  | _ => .drop

/-- Whether the Action taps (R10). -/
def RouteAction.taps : RouteAction → Bool
  | .tap => true
  | .tapAndForward => true
  | .tapAndTranslate => true
  | _ => false

/-- Whether the Action translates the identifier (R10). -/
def RouteAction.translates : RouteAction → Bool
  | .translate => true
  | .tapAndTranslate => true
  | _ => false

/-- Whether the Action offers the frame to the egress port (R10). -/
def RouteAction.offers : RouteAction → Bool
  | .forward => true
  | .translate => true
  | .tapAndForward => true
  | .tapAndTranslate => true
  | _ => false

/-- The address of a Route Table entry. -/
def routeAddr (i : Fin 64) : Nat := 0x62000 + 20 * i.val

/-- The entry takes part in matching. -/
def Mem.routeEnabled (c : Mem) (i : Fin 64) : Bool := hasBit (c.read (routeAddr i)) 0

/-- The port whose received frames the entry can match. -/
def Mem.routeIngress (c : Mem) (i : Fin 64) : Port :=
  if hasBit (c.read (routeAddr i)) 1 then .body else .chassis

/-- The entry's Action. -/
def Mem.routeAction (c : Mem) (i : Fin 64) : RouteAction :=
  .ofCode (c.u8 (routeAddr i + 1))

/-- The entry's Tap Target; a code outside the six slots stands in no tapping entry in force. -/
def Mem.routeTap (c : Mem) (i : Fin 64) : Option SlotId := SlotId.ofNum (c.u8 (routeAddr i + 2))

/-- The entry's Minimum Interval; 0 is no limit. -/
def Mem.routeInterval (c : Mem) (i : Fin 64) : Nat := c.u8 (routeAddr i + 3) * (10 * Config.ms)

/-- A 29-bit identifier item; the bits above it are not part of the item. -/
def Mem.ident (c : Mem) (a : Nat) : BitVec 29 := BitVec.ofNat 29 (c.u32 a)

/-- The entry's Match. -/
def Mem.routeMatch (c : Mem) (i : Fin 64) : BitVec 29 := c.ident (routeAddr i + 4)

/-- The entry's Mask. -/
def Mem.routeMask (c : Mem) (i : Fin 64) : BitVec 29 := c.ident (routeAddr i + 8)

/-- The entry's Translate Mask. -/
def Mem.routeTranslateMask (c : Mem) (i : Fin 64) : BitVec 29 := c.ident (routeAddr i + 12)

/-- The entry's New Bits. -/
def Mem.routeNewBits (c : Mem) (i : Fin 64) : BitVec 29 := c.ident (routeAddr i + 16)

/-- A port's Default Action: Forward, or else Drop (R7). -/
def Mem.defaultForward (c : Mem) : Port → Bool
  | .chassis => c.u8 0x62500 = 1
  | .body => c.u8 0x62501 = 1

/-- The Status Period (R17). -/
def Mem.statusPeriod (c : Mem) : Nat := c.u16 0x62502 * Config.ms

/-- The Status Identifier (R17). -/
def Mem.statusIdentifier (c : Mem) : BitVec 29 := c.ident 0x62504

/-! ### Signal slots, limits and Capacity Table (R19, R27, R28) -/

/-- The address of a slot's parameter set. -/
def slotAddr (k : SlotId) : Nat := 0x62510 + 20 * k.num

/-- Byte Offset. -/
def Mem.byteOffset (c : Mem) (k : SlotId) : Nat := c.u8 (slotAddr k)

/-- Bit Offset. -/
def Mem.bitOffset (c : Mem) (k : SlotId) : Nat := c.u8 (slotAddr k + 1)

/-- Bit Length. -/
def Mem.bitLength (c : Mem) (k : SlotId) : Nat := c.u8 (slotAddr k + 2)

/-- Freshness Timeout. -/
def Mem.freshnessTimeout (c : Mem) (k : SlotId) : Nat := c.u8 (slotAddr k + 3) * (10 * Config.ms)

/-- Hold Time of a slot. -/
def Mem.slotHoldTime (c : Mem) (k : SlotId) : Nat := c.u8 (slotAddr k + 4) * (10 * Config.ms)

/-- Multiplier. -/
def Mem.multiplier (c : Mem) (k : SlotId) : Nat := c.u16 (slotAddr k + 6)

/-- Divisor of a slot. -/
def Mem.slotDivisor (c : Mem) (k : SlotId) : Nat := c.u16 (slotAddr k + 8)

/-- Invalid From of a numeric slot. -/
def Mem.invalidFrom (c : Mem) (k : SlotId) : Nat := c.u32 (slotAddr k + 12)

/-- True Code of a boolean slot. -/
def Mem.trueCode (c : Mem) (k : SlotId) : Nat := c.u32 (slotAddr k + 12)

/-- Time Base of Chassis Time. -/
def Mem.timeBase (c : Mem) : Nat := c.u32 (slotAddr .chassisTime + 12)

/-- False Code of a boolean slot. -/
def Mem.falseCode (c : Mem) (k : SlotId) : Nat := c.u32 (slotAddr k + 16)

/-- Lift Speed Limit, 0.1 km/h. -/
def Mem.liftSpeedLimit (c : Mem) : Nat := c.u16 0x62588

/-- Weigh Speed Limit, 0.1 km/h. -/
def Mem.weighSpeedLimit (c : Mem) : Nat := c.u16 0x6258A

/-- Minimum rpm of a Capacity Table row. -/
def Mem.capacityRpm (c : Mem) (r : Nat) : Nat := c.u16 (0x6258C + 4 * r)

/-- Units of a Capacity Table row. -/
def Mem.capacityUnits (c : Mem) (r : Nat) : Nat := c.u8 (0x6258C + 4 * r + 2)

/-! ### Inputs (R33, R35, R38, R40) -/

/-- The twelve roles of R35. -/
inductive Role where
  | none | stowed | gripped | atTop | lowered | start | eStop | bladeClear | packerHome
  | pressureMax | tailgateClosed | tailgateLocked
  deriving DecidableEq, Repr

/-- A role's code (13). -/
def Role.code : Role → Nat
  | .none => 0
  | .stowed => 1
  | .gripped => 2
  | .atTop => 3
  | .lowered => 4
  | .start => 5
  | .eStop => 6
  | .bladeClear => 7
  | .packerHome => 8
  | .pressureMax => 9
  | .tailgateClosed => 10
  | .tailgateLocked => 11

/-- The Role code of an input. -/
def Mem.roleCode (c : Mem) (i : Nat) : Nat := c.u8 (0x625C0 + i) % 16

/-- The Station field of an input. -/
def Mem.roleStation (c : Mem) (i : Nat) : Nat := c.u8 (0x625C0 + i) / 16 % 4

/-- The Invert setting of an input. -/
def Mem.inverted (c : Mem) (i : Nat) : Bool := hasBit (c.read (0x625C0 + i)) 7

/-- Whether an input has a role that uses no station. -/
def Mem.hasRole (c : Mem) (r : Role) (i : Nat) : Bool := c.roleCode i = r.code

/-- Whether an input has a station role of a station. -/
def Mem.hasStationRole (c : Mem) (r : Role) (st : Station) (i : Nat) : Bool :=
  decide (c.roleCode i = r.code) && decide (c.roleStation i = st.num)

/-- The Debounce Count. -/
def Mem.debounceCount (c : Mem) : Nat := c.u8 0x625E0

/-- The effective count of an input (R33): 1 for an E-Stop-role input. -/
def Mem.effectiveCount (c : Mem) (i : Nat) : Nat :=
  if c.hasRole .eStop i then 1 else c.debounceCount

/-- The Change Mask. -/
def Mem.changeMask (c : Mem) : BitVec 32 := BitVec.ofNat 32 (c.u32 0x625E4)

/-- A Pair Table entry is enabled; a switch reads 1 for on (13). -/
def Mem.pairEnabled (c : Mem) (j : Nat) : Bool := c.u8 (0x625E8 + 4 * j) = 1

/-- Input a of a pair. -/
def Mem.pairA (c : Mem) (j : Nat) : Nat := c.u8 (0x625E8 + 4 * j + 1)

/-- Input b of a pair. -/
def Mem.pairB (c : Mem) (j : Nat) : Nat := c.u8 (0x625E8 + 4 * j + 2)

/-- The function that owns an input's role (R35): a station, the packer or the tailgate. -/
def Mem.roleOwner (c : Mem) (i : Nat) : Option Requester :=
  match c.roleCode i with
  | 1 | 2 | 3 | 4 | 5 => (Station.ofNum (c.roleStation i)).map .station
  | 7 | 8 | 9 => some .packer
  | 10 | 11 => some .tailgate
  | _ => none

/-! ### Lift Parameters (R46) -/

/-- The address of a station's Lift Parameters. -/
def liftAddr (st : Station) : Nat := 0x62620 + 16 * st.num

/-- A limit in 0.1 s. -/
def Mem.tenths (c : Mem) (a : Nat) : Nat := c.u16 a * (100 * Config.ms)

/-- Engage Limit. -/
def Mem.engageLimit (c : Mem) (st : Station) : Nat := c.tenths (liftAddr st)

/-- Raise Limit. -/
def Mem.raiseLimit (c : Mem) (st : Station) : Nat := c.tenths (liftAddr st + 2)

/-- Lower Limit. -/
def Mem.lowerLimit (c : Mem) (st : Station) : Nat := c.tenths (liftAddr st + 4)

/-- Release Limit. -/
def Mem.releaseLimit (c : Mem) (st : Station) : Nat := c.tenths (liftAddr st + 6)

/-- Homing Limit. -/
def Mem.homingLimit (c : Mem) (st : Station) : Nat := c.tenths (liftAddr st + 8)

/-- Dump Time. -/
def Mem.dumpTime (c : Mem) (st : Station) : Nat := c.u16 (liftAddr st + 10) * (10 * Config.ms)

/-- Shake Count. -/
def Mem.shakeCount (c : Mem) (st : Station) : Nat := c.u8 (liftAddr st + 12)

/-- Shake Half-Period. -/
def Mem.shakeHalfPeriod (c : Mem) (st : Station) : Nat := c.u8 (liftAddr st + 13) * (10 * Config.ms)

/-- Pause Limit. -/
def Mem.pauseLimit (c : Mem) : Nat := c.u8 0x62650 * Config.second

/-- Unidentified Action: Tip, or else Hold. -/
def Mem.unidentifiedTip (c : Mem) : Bool := c.u8 0x62651 = 1

/-- Hold Limit. -/
def Mem.holdLimit (c : Mem) : Nat := c.u16 0x62652 * Config.second

/-- Cab Node. -/
def Mem.cabNode (c : Mem) : Nat := c.u8 0x62654

/-! ### Station Table, tags and weighing (R73, R87) -/

/-- The address of a Station Table entry. -/
def stationAddr (st : Station) : Nat := 0x62680 + 24 * st.num

/-- Reader Node. -/
def Mem.readerNode (c : Mem) (st : Station) : Nat := c.u8 (stationAddr st)

/-- Weigh Node. -/
def Mem.weighNode (c : Mem) (st : Station) : Nat := c.u8 (stationAddr st + 1)

/-- Window Length N. -/
def Mem.windowLength (c : Mem) (st : Station) : Nat := c.u8 (stationAddr st + 2)

/-- Zone Start. -/
def Mem.zoneStart (c : Mem) (st : Station) : Nat := c.u16 (stationAddr st + 4)

/-- Zone End. -/
def Mem.zoneEnd (c : Mem) (st : Station) : Nat := c.u16 (stationAddr st + 6)

/-- Stability Band. -/
def Mem.stabilityBand (c : Mem) (st : Station) : Nat := c.u16 (stationAddr st + 8)

/-- Span K. -/
def Mem.span (c : Mem) (st : Station) : Nat := c.u16 (stationAddr st + 10)

/-- Capacity in WU. -/
def Mem.scaleCapacity (c : Mem) (st : Station) : Nat := c.u16 (stationAddr st + 12)

/-- Zero Range. -/
def Mem.zeroRange (c : Mem) (st : Station) : Nat := c.u16 (stationAddr st + 14)

/-- Commissioned Zero Z0. -/
def Mem.commissionedZero (c : Mem) (st : Station) : Int := signed 32 (c.u32 (stationAddr st + 16))

/-- Tag Mode: Rollover, or else Lockout. -/
def Mem.rollover (c : Mem) : Bool := c.u8 0x626C8 = 1

/-- Association Window, in ms of tag time. -/
def Mem.associationWindow (c : Mem) : Nat := c.u8 0x626C9 * 100

/-- Attitude Node. -/
def Mem.attitudeNode (c : Mem) : Nat := c.u8 0x626CA

/-- Tilt Table entry of index `i`, −15 to +15. -/
def Mem.tilt (c : Mem) (i : Int) : Nat := c.u16 (0x626CC + 2 * (i + 15).toNat)

/-! ### Tariffs, bins and billing (R87, R126) -/

/-- The address of a Tariff Table row. -/
def tariffAddr (k : Nat) : Nat := 0x62760 + 20 * k

/-- Lift Fee F, mills. -/
def Mem.liftFee (c : Mem) (k : Nat) : Nat := c.u16 (tariffAddr k)

/-- Rate 1, mills per kg. -/
def Mem.rate1 (c : Mem) (k : Nat) : Nat := c.u16 (tariffAddr k + 2)

/-- Rate 2, mills per kg. -/
def Mem.rate2 (c : Mem) (k : Nat) : Nat := c.u16 (tariffAddr k + 4)

/-- Period Allowance, lifts. -/
def Mem.periodAllowance (c : Mem) (k : Nat) : Nat := c.u16 (tariffAddr k + 6)

/-- Threshold T, 0.1 kg. -/
def Mem.threshold (c : Mem) (k : Nat) : Nat := c.u32 (tariffAddr k + 8)

/-- Per-Lift Cap C, mills. -/
def Mem.perLiftCap (c : Mem) (k : Nat) : Nat := c.u32 (tariffAddr k + 12)

/-- Default Tare of a bin size, WU. -/
def Mem.defaultTare (c : Mem) (b : Nat) : Nat := c.u16 (0x62800 + 4 * b)

/-- Fallback Mass of a bin size, 0.1 kg. -/
def Mem.fallbackMass (c : Mem) (b : Nat) : Nat := c.u16 (0x62800 + 4 * b + 2)

/-- Repeat Interval, s. -/
def Mem.repeatInterval (c : Mem) : Nat := c.u16 0x62820

/-- Notice Level, records. -/
def Mem.noticeLevel (c : Mem) : Nat := c.u16 0x62822

/-! ### Flow and valves (R145, R156, R157) -/

/-- The address of a demand of the Function Table, for the phases a function has. -/
def demandAddr : Requester → FlowPhase → Option Nat
  | .station .sideArm, .engage => some 0x62850
  | .station .sideArm, .raise => some 0x62851
  | .station .sideArm, .dump => some 0x62852
  | .station .sideArm, .lower => some 0x62853
  | .station .sideArm, .release => some 0x62854
  | .station .sideArm, .homing => some 0x62855
  | .station .rearLeft, .raise => some 0x62856
  | .station .rearLeft, .dump => some 0x62857
  | .station .rearLeft, .lower => some 0x62858
  | .station .rearLeft, .homing => some 0x62859
  | .station .rearRight, .raise => some 0x6285A
  | .station .rearRight, .dump => some 0x6285B
  | .station .rearRight, .lower => some 0x6285C
  | .station .rearRight, .homing => some 0x6285D
  | .packer, .extending => some 0x6285E
  | .packer, .retracting => some 0x62860
  | .tailgate, .opening => some 0x62861
  | .tailgate, .ejecting => some 0x62862
  | .tailgate, .closing => some 0x62863
  | _, _ => none

/-- The demand of a function's phase; 0 where the Function Table has no row. -/
def Mem.demand (c : Mem) (r : Requester) (ph : FlowPhase) : Nat :=
  match demandAddr r ph with
  | some a => c.u8 a
  | none => 0

/-- The minimum of a function's phase: Packer Yield Units for Extending, else the demand (R145). -/
def Mem.minimum (c : Mem) (r : Requester) (ph : FlowPhase) : Nat :=
  match r, ph with
  | .packer, .extending => c.u8 0x6285F
  | r, ph => c.demand r ph

/-- Priority Mode: Rotating, or else Fixed. -/
def Mem.rotating (c : Mem) : Bool := c.u8 0x62864 = 1

/-- Packer Place: Above, or else Below the station group. -/
def Mem.packerAbove (c : Mem) : Bool := c.u8 0x62865 = 0

/-- Place `i` of the Fixed Order, highest first: 0 to 2 a station, 3 the packer. -/
def Mem.fixedOrder (c : Mem) (i : Nat) : Nat := c.u8 (0x62866 + i)

/-- Half-period of a toggle output. -/
def Mem.halfPeriod (c : Mem) : Toggle → Nat
  | .beacon => c.u8 0x6286A * (10 * Config.ms)
  | .horn => c.u8 0x6286B * (10 * Config.ms)

/-- A channel's Divisor, µs per step. -/
def Mem.channelDivisor (c : Mem) (ch : Nat) : Nat := c.u8 (0x6286C + 4 * ch)

/-- A channel's Ramp Step. -/
def Mem.rampStep (c : Mem) (ch : Nat) : Nat := c.u8 (0x6286C + 4 * ch + 1)

/-- A channel's Resolution, steps per period. -/
def Mem.resolution (c : Mem) (ch : Nat) : Nat := c.u16 (0x6286C + 4 * ch + 2)

/-- A channel's period: Resolution × Divisor µs (R156). -/
def Mem.channelPeriod (c : Mem) (ch : Nat) : Nat := c.resolution ch * c.channelDivisor ch

/-- The address of a Valve Map entry. -/
def valveAddr (e : Nat) : Nat := 0x6289C + 4 * e

/-- A Valve Map entry is enabled. -/
def Mem.valveEnabled (c : Mem) (e : Nat) : Bool := hasBit (c.read (valveAddr e)) 7

/-- The channel of a Valve Map entry. -/
def Mem.valveChannel (c : Mem) (e : Nat) : Nat := c.u8 (valveAddr e) % 16

/-- The function code of a Valve Map entry: 0 to 2 a station, 3 the packer, 4 the tailgate. -/
def Mem.valveFunction (c : Mem) (e : Nat) : Nat := c.u8 (valveAddr e) / 16 % 8

/-- The phase code of a Valve Map entry (13). -/
def Mem.valvePhase (c : Mem) (e : Nat) : Nat := c.u8 (valveAddr e + 1)

/-- The full duty of a Valve Map entry. -/
def Mem.fullDuty (c : Mem) (e : Nat) : Nat := c.u16 (valveAddr e + 2)

/-! ### Packer, payload and tailgate (R164, R173) -/

/-- Full Stroke, encoder pulses. -/
def Mem.fullStroke (c : Mem) : Nat := c.u16 0x62950

/-- Stall Time. -/
def Mem.stallTime (c : Mem) : Nat := c.u8 0x62952 * (10 * Config.ms)

/-- Dwell Time. -/
def Mem.dwellTime (c : Mem) : Nat := c.u8 0x62953 * (100 * Config.ms)

/-- Extend Limit. -/
def Mem.extendLimit (c : Mem) : Nat := c.tenths 0x62954

/-- Retract Limit. -/
def Mem.retractLimit (c : Mem) : Nat := c.tenths 0x62956

/-- Pack After; 0 is automatic packing off. -/
def Mem.packAfter (c : Mem) : Nat := c.u8 0x62958

/-- Full Level. -/
def Mem.fullLevel (c : Mem) : Nat := c.u8 0x62959

/-- Payload Limit, 0.1 kg. -/
def Mem.payloadLimit (c : Mem) : Nat := c.u32 0x6295C

/-- Open Time. -/
def Mem.openTime (c : Mem) : Nat := c.tenths 0x62960

/-- Opening Limit. -/
def Mem.openingLimit (c : Mem) : Nat := c.tenths 0x62962

/-- Eject Time. -/
def Mem.ejectTime (c : Mem) : Nat := c.tenths 0x62964

/-- Closing Limit. -/
def Mem.closingLimit (c : Mem) : Nat := c.tenths 0x62966

/-! ### Clock, managers and notices (R178, R185, R191, R196) -/

/-- Sync Tolerance, s. -/
def Mem.syncTolerance (c : Mem) : Nat := c.u8 0x62990

/-- A manager's node. -/
def Mem.managerNode (c : Mem) : Manager → Nat
  | .terminal => c.u8 0x62991
  | .service => c.u8 0x62992

/-- A Node List entry is enabled. -/
def Mem.nodeEnabled (c : Mem) (i : Nat) : Bool := c.u8 (0x62994 + 2 * i) = 1

/-- The node number of a Node List entry. -/
def Mem.listNode (c : Mem) (i : Nat) : Nat := c.u8 (0x62994 + 2 * i + 1)

/-- Notice Modes: a set bit for a Pulsed kind. -/
def Mem.noticeModes (c : Mem) : BitVec 16 := BitVec.ofNat 16 (c.u16 0x629B4)

/-- Every node number that a configuration names for another node: Cab Node, Reader Nodes, Weigh
Nodes, Attitude Node, managers and the enabled Node List entries (R193, 13). -/
def Mem.namedNodes (c : Mem) : List Nat :=
  [c.cabNode] ++ stations.map c.readerNode ++ stations.map c.weighNode ++ [c.attitudeNode] ++
    [c.managerNode .terminal, c.managerNode .service] ++
    ((List.range 16).filter c.nodeEnabled).map c.listNode

/-- Configured (R193). -/
def State.configured (s : State) : Bool :=
  !s.mode.configuring && s.mode.committed && !s.cfg.namedNodes.contains s.sys.ownNode.toNat

end Sys2Proof.Machine
end

