-- ==== Sys2Proof/Machine/Flags.lean ====
section
/-! DEFINITION. The flags the part sets: the flags of a Lift Record and a Charge Record (R137), the
notice kinds (R196) and the items of the fault summary (R18), each by its bit position. -/

namespace Sys2Proof.Machine

/-- The flags of a Charge Record, and Hold Timeout of the Lift Record alone (R69, R137). -/
inductive LiftFlag where
  | override | allowanceUsed | estimated | capped | unstableGross | missingGross | defaultTare
  | negativeNet | overCapacity | tiltOutOfRange | tiltUnknown | nodeLost | ambiguousTag | lateTag
  | recordGone | clockStepped | holdTimeout
  deriving DecidableEq, Repr

/-- The bit of a flag, in the order of R137; Hold Timeout is bit 16 (13). -/
def LiftFlag.bit : LiftFlag → Nat
  | .override => 0
  | .allowanceUsed => 1
  | .estimated => 2
  | .capped => 3
  | .unstableGross => 4
  | .missingGross => 5
  | .defaultTare => 6
  | .negativeNet => 7
  | .overCapacity => 8
  | .tiltOutOfRange => 9
  | .tiltUnknown => 10
  | .nodeLost => 11
  | .ambiguousTag => 12
  | .lateTag => 13
  | .recordGone => 14
  | .clockStepped => 15
  | .holdTimeout => 16

/-- A flag set with one flag. -/
def LiftFlag.mask (f : LiftFlag) : BitVec 32 := oneBit 32 f.bit

/-- Whether a flag set carries a flag. -/
def carries (flags : BitVec 32) (f : LiftFlag) : Bool := hasBit flags f.bit

/-- A flag set with the flag when `c` holds, else none. -/
def flagIf (c : Bool) (f : LiftFlag) : BitVec 32 := if c then f.mask else 0

/-- The twelve notice kinds of R196. -/
inductive Notice where
  | chargeLevel | tagOverrun | inputChange | sensorError | stationFault | packerFault
  | tailgateFault | bodyFull | tableCheck | zeroDone | clockStepped | portOff
  deriving DecidableEq, Repr

/-- The bit of a notice kind in the Notice frame (13). -/
def Notice.bit : Notice → Nat
  | .chargeLevel => 0
  | .tagOverrun => 1
  | .inputChange => 2
  | .sensorError => 3
  | .stationFault => 4
  | .packerFault => 5
  | .tailgateFault => 6
  | .bodyFull => 7
  | .tableCheck => 8
  | .zeroDone => 9
  | .clockStepped => 10
  | .portOff => 11

end Sys2Proof.Machine
end

