-- ==== Sys2Proof/Machine/Operands.lean ====
section
/-! DEFINITION. The operand forms of frames (13): the Body Link identifier, the classes with their
data bytes, and the Management Request and Response. -/

namespace Sys2Proof.Machine

/-! ### What a frame carries -/

/-- The data bytes of a frame: at most 8 (01, frame parts). -/
def frameData (data : List Byte) : List Byte := data.take 8

/-- A frame as a port carries it (01, frame parts): at most 8 data bytes, and 11 identifier bits when it
is Standard. -/
def carriedFrame (f : Frame) : Frame :=
  ⟨f.ext, if f.ext then f.id else f.id &&& 0x7FF, frameData f.data⟩

/-! ### The Body Link identifier -/

/-- The ten Body Link classes. -/
inductive BodyClass where
  | weighSample | attitude | tagRead | operatorCommand | operatorReply | managementRequest
  | managementResponse | notice | nodeQuery | nodeData
  deriving DecidableEq, Repr

/-- A class's code. -/
def BodyClass.code : BodyClass → Nat
  | .weighSample => 0x10
  | .attitude => 0x11
  | .tagRead => 0x12
  | .operatorCommand => 0x20
  | .operatorReply => 0x21
  | .managementRequest => 0x28
  | .managementResponse => 0x29
  | .notice => 0x2A
  | .nodeQuery => 0x30
  | .nodeData => 0x31

/-- The class of a code. -/
def BodyClass.ofCode : Nat → Option BodyClass
  | 0x10 => some .weighSample
  | 0x11 => some .attitude
  | 0x12 => some .tagRead
  | 0x20 => some .operatorCommand
  | 0x21 => some .operatorReply
  | 0x28 => some .managementRequest
  | 0x29 => some .managementResponse
  | 0x2A => some .notice
  | 0x30 => some .nodeQuery
  | 0x31 => some .nodeData
  | _ => none

/-- The priority the part sends a class with (R199). -/
def BodyClass.priority : BodyClass → Nat
  | .operatorReply => 2
  | .managementResponse => 3
  | .notice => 3
  | .nodeQuery => 4
  | _ => 0

/-- The minimum data length of a consumed class (R9, R199); none for a class the part sends. -/
def BodyClass.minLength : BodyClass → Option Nat
  | .weighSample => some 6
  | .attitude => some 4
  | .tagRead => some 6
  | .operatorCommand => some 2
  | .managementRequest => some 2
  | .nodeData => some 2
  | _ => none

/-- The class field, bits 25–20. -/
def idClass (id : BitVec 29) : Nat := (id.extractLsb' 20 6).toNat

/-- The destination node, bits 19–12. -/
def idDest (id : BitVec 29) : Byte := id.extractLsb' 12 8

/-- The source node, bits 11–4. -/
def idSource (id : BitVec 29) : Byte := id.extractLsb' 4 8

/-- The request tag, bits 3–0. -/
def idTag (id : BitVec 29) : BitVec 4 := id.extractLsb' 0 4

/-- The identifier of priority, class, destination, source and request tag. -/
def bodyLinkId (prio cls : Nat) (dest src : Byte) (tag : BitVec 4) : BitVec 29 :=
  BitVec.ofNat 3 prio ++ BitVec.ofNat 6 cls ++ dest ++ src ++ tag

/-- A Body Link frame that the part sends (R199): Extended, with its own node as source. -/
def State.bodyFrame (s : State) (c : BodyClass) (dest : Byte) (tag : BitVec 4) (data : List Byte) :
    Frame :=
  ⟨true, bodyLinkId c.priority c.code dest s.sys.ownNode tag, data⟩

/-- The class of a received Body Link frame (R9), by its format and class field alone (R199). -/
def frameClass (f : Frame) : Option BodyClass :=
  if f.ext then BodyClass.ofCode (idClass f.id) else none

/-- Whether a frame is addressed to the part (R9): its own node number or 255. -/
def State.addressed (s : State) (f : Frame) : Bool :=
  idDest f.id == s.sys.ownNode || idDest f.id == 255

/-- The unsigned field of data bytes `at` to `at + n - 1`. -/
def field (data : List Byte) (start n : Nat) : Nat := ofLe ((data.drop start).take n)

/-- Data byte `i`, 0 beyond the data. -/
def byteAt (data : List Byte) (i : Nat) : Byte := data.getD i 0

/-! ### Management Request and Response -/

/-- Reads a Management Request's data bytes (13). A request whose data length is less than its kind
needs is `short`. -/
def parseRequest (data : List Byte) : ReqBody :=
  let kind := byteAt data 0
  let addr : BitVec 16 := BitVec.ofNat 16 (field data 1 2)
  match kind.toNat with
  | 1 => if data.length < 4 then .short kind else .read addr (byteAt data 3)
  | 2 => if data.length < 4 then .short kind else .write addr (byteAt data 3) (data.drop 4)
  | 3 => if data.length < 3 then .short kind else .setPointer addr
  | 4 => if data.length < 2 then .short kind else .readNext (byteAt data 1)
  | 5 => if data.length < 2 then .short kind else .writeNext (byteAt data 1) (data.drop 2)
  | 6 =>
    if data.length < 6 then .short kind
    else .command (byteAt data 1) (BitVec.ofNat 32 (field data 2 4))
  | _ => .unknown kind

/-- A request as a frame carries it (13): no more write bytes than the frame has left, and `short` of a
defined kind, `unknown` of an undefined one. -/
def carriedBody : ReqBody → ReqBody
  | .write addr len bytes => .write addr len (bytes.take 4)
  | .writeNext len bytes => .writeNext len (bytes.take 6)
  | .short kind => if 1 ≤ kind.toNat ∧ kind.toNat ≤ 6 then .short kind else .unknown kind
  | .unknown kind => if 1 ≤ kind.toNat ∧ kind.toNat ≤ 6 then .short kind else .unknown kind
  | body => body

/-- The request whose data bytes are a kind, a code and four zero bytes (13): of an undefined kind or an
undefined command code (R186), or else what those bytes spell. -/
def codedRequest (kind code : Byte) : ReqBody := parseRequest [kind, code, 0, 0, 0, 0]

/-- Byte 0 of the response: the request kind as received, 0 when it was unknown (13). -/
def kindByte : ReqBody → Byte
  | .read .. => 1
  | .write .. => 2
  | .setPointer _ => 3
  | .readNext _ => 4
  | .writeNext .. => 5
  | .command .. => 6
  | .short kind => kind
  | .unknown _ => 0

/-- The nine response statuses of R186. -/
inductive Status where
  | done | deferred | busy | badAddress | badValue | locked | notPermitted | nodeTimeout
  | unknownRequest
  deriving DecidableEq, Repr

/-- A status's code (13). -/
def Status.code : Status → Fin 9
  | .done => 0
  | .deferred => 1
  | .busy => 2
  | .badAddress => 3
  | .badValue => 4
  | .locked => 5
  | .notPermitted => 6
  | .nodeTimeout => 7
  | .unknownRequest => 8

/-- What a served request is answered: a status and the response data (R186). -/
structure Answer where
  status : Status
  data : List Byte
  deriving DecidableEq, Repr

/-- An answer without data. -/
def plain (st : Status) : Answer := ⟨st, []⟩

/-! ### Operator Command and Reply -/

/-- The reply codes of R68. -/
inductive Reply where
  | accepted | busy | notReady | permit | sensorError | notInPosition | queueFull | bodyFull
  | unloading | notInHold | notPermitted | notInFault | badStation | unknownCommand
  deriving DecidableEq, Repr

/-- A reply's code (13). -/
def Reply.code : Reply → Nat
  | .accepted => 0
  | .busy => 1
  | .notReady => 2
  | .permit => 3
  | .sensorError => 4
  | .notInPosition => 5
  | .queueFull => 6
  | .bodyFull => 7
  | .unloading => 8
  | .notInHold => 9
  | .notPermitted => 10
  | .notInFault => 11
  | .badStation => 12
  | .unknownCommand => 13

/-- The reply that tells a sender why a Cycle Start was refused (R47, R68). -/
def Refused.reply : Refused → Reply
  | .notReady => .notReady
  | .permit => .permit
  | .sensorError => .sensorError
  | .notInPosition => .notInPosition
  | .queueFull => .queueFull
  | .bodyFull => .bodyFull
  | .unloading => .unloading
  | .busy => .busy

end Sys2Proof.Machine
end

