-- ==== Sys2Proof/Machine/Transmit.lean ====
section
/-! DEFINITION. The transmit stores, the transmit arbiter, going Off, and the notices: everything by
which a frame leaves the part (R3 to R6, R196). -/

namespace Sys2Proof.Machine

/-! ### The transmit arbiter (R6) -/

/-- Whether the store that the arbiter prefers holds a frame: the Status Buffer of the Chassis Port,
the Control Queue of the Body Port. -/
def State.firstWaits (s : State) : Port → Bool
  | .chassis => s.statusBuffer.isSome
  | .body => !s.control.isEmpty

/-- The arbiter's choice when the port is Active and free (R6); a port that waits for 11 recessive
bits transmits nothing (R4). -/
def chooseTx (p : Port) (s : State) : State :=
  let ps := s.port p
  if ps.off || ps.waitRecessive || ps.tx.isSome then s
  else if s.firstWaits p then s.setPort p { ps with tx := some .first }
  else if !ps.forward.isEmpty then s.setPort p { ps with tx := some .forward }
  else s

/-- The arbiter chooses again after a lost arbitration or an error (R6). -/
def rechooseTx (p : Port) (s : State) : State :=
  chooseTx p (s.setPort p { s.port p with tx := none })

/-! ### Offering frames (R5) -/

/-- Offers a control frame to the Control Queue (R5). -/
def offerControl (f : Frame) (reset : Bool) (s : State) : State :=
  if s.body.off || decide (Config.controlPlaces ≤ s.control.length) then
    s.setBody { s.body with controlOverflow := bump s.body.controlOverflow }
  else chooseTx .body (s.setControl (s.control ++ [⟨f, reset⟩]))

/-- Offers a Body Status frame to the Status Buffer (R4, R5). -/
def offerStatus (f : Frame) (s : State) : State :=
  if s.chassis.off then s
  else
    let s := if s.statusBuffer.isSome then
        s.setChassis { s.chassis with statusReplaced := bump s.chassis.statusReplaced }
      else s
    chooseTx .chassis (s.setStatusBuffer (some f))

/-- Whether a port's Forward Queue takes a frame now (R5). -/
def State.canForward (s : State) (p : Port) : Bool :=
  !(s.port p).off && decide ((s.port p).forward.length < Config.forwardPlaces)

/-- Adds a frame at the tail of a Forward Queue that takes it (R5). -/
def pushForward (p : Port) (f : Frame) (origin : Option (Fin 64)) (s : State) : State :=
  chooseTx p (s.setPort p { s.port p with forward := (s.port p).forward ++ [⟨f, origin⟩] })

/-- One more in a port's Unrouted Drops (R12). -/
def countUnrouted (p : Port) (s : State) : State :=
  s.setPort p { s.port p with unrouted := bump (s.port p).unrouted }

/-! ### Notices (R196) -/

/-- Sends a Notice frame with the Notice Set as it stands to the Terminal node in force, clears the
Pulsed kinds and Send Needed, and starts the spacing timer (R196). -/
def sendNotice (s : State) : State :=
  let f := s.bodyFrame .notice (BitVec.ofNat 8 (s.cfg.managerNode .terminal)) 0
    (leBytes 2 s.agent.notices.toNat)
  let s := offerControl f false s
  s.setAgent { s.agent with
    notices := s.agent.notices &&& ~~~ s.cfg.noticeModes
    sendNeeded := false
    spacing := .running (s.now + Config.spacingTime)
    noticesSent := bump s.agent.noticesSent }

/-- Makes a notice kind pending (R196). -/
def raiseNotice (k : Notice) (s : State) : State :=
  if hasBit s.agent.notices k.bit then s
  else
    let s := s.setAgent { s.agent with
      notices := putBit s.agent.notices k.bit true, sendNeeded := true }
    if s.agent.spacing.isRunning then s else sendNotice s

/-! ### Going Off (R3) -/

/-- Counts the discard of a forwarded frame: in its origin route, or in the port's Unrouted Drops. -/
def discardForwarded (p : Port) (s : State) (f : FwdFrame) : State :=
  match f.origin with
  | some i => dropOn i s
  | none => countUnrouted p s

/-- Empties a route's hold slot; a frame in it counts as dropped (R3, R16). -/
def emptyHold (s : State) (i : Fin 64) : State :=
  if (s.route i).held.isSome then dropOn i (s.setRoute i { s.route i with held := none }) else s

/-- Frames that a port discards when it goes Off: those of its transmit stores. -/
def State.storedFrames (s : State) (p : Port) : Nat :=
  (s.port p).forward.length +
    match p with
    | .chassis => if s.statusBuffer.isSome then 1 else 0
    | .body => s.control.length

/-- Empties the store that the port's arbiter prefers. -/
def clearFirst (p : Port) (s : State) : State :=
  match p with
  | .chassis => s.setStatusBuffer none
  | .body => s.setControl []

/-- A port goes Off (R3): its stores and the hold slots toward it are discarded and counted, Port Off
is raised and the recovery timer starts. The transmit error count stays at 255, the top of its
range. -/
def goOff (p : Port) (s : State) : State :=
  let n := s.storedFrames p
  let fwd := (s.port p).forward
  let s := clearFirst p (s.setPort p { s.port p with
    off := true, tx := none, forward := [], txErr := 255
    offDiscards := satAdd 0xFFFF (s.port p).offDiscards n
    busOff := bump (s.port p).busOff
    recovery := .running (s.now + Config.recoveryTime) })
  let s := fwd.foldl (discardForwarded p) s
  let s := ((fins 64).filter fun i => s.cfg.routeIngress i == p.other).foldl emptyHold s
  raiseNotice .portOff s

/-! ### Transmission events (R3, R4, R6) -/

/-- A frame left its store when its transmission completed (R6). -/
def popSent (p : Port) (sel : TxSel) (s : State) : State :=
  match sel, p with
  | .first, .chassis => s.setStatusBuffer none
  | .first, .body => s.setControl s.control.tail
  | .forward, _ => s.setPort p { s.port p with forward := (s.port p).forward.tail }

/-- A frame is transmitted without error (R3, R6). -/
def frameSent (p : Port) (s : State) : State :=
  match (s.port p).tx with
  | none => s
  | some sel =>
    let s := popSent p sel s
    rechooseTx p (s.setPort p { s.port p with
      sent := bump (s.port p).sent, txErr := (s.port p).txErr - 1 })

/-- The frame in transmission loses arbitration (R6). -/
def lostArbitration (p : Port) (s : State) : State :=
  match (s.port p).tx with
  | none => s
  | some _ => rechooseTx p s

/-- An error is detected while the port is transmitting (R3, R6). -/
def transmitError (p : Port) (s : State) : State :=
  match (s.port p).tx with
  | none => s
  | some _ =>
    if 255 < (s.port p).txErr + 8 then goOff p s
    else rechooseTx p (s.setPort p { s.port p with txErr := (s.port p).txErr + 8 })

/-- An error is detected while the port is receiving (R3); a port in Off receives nothing (R2). -/
def receiveError (p : Port) (s : State) : State :=
  if (s.port p).off then s
  else s.setPort p { s.port p with rxErr := satAdd 255 (s.port p).rxErr 1 }

/-- A frame is received without error: the receive error count falls by one (R3). -/
def receivedWell (p : Port) (s : State) : State :=
  s.setPort p { s.port p with rxErr := (s.port p).rxErr - 1 }

/-- A remote frame is received and acknowledged, not passed on and not counted (R2). -/
def remoteFrame (p : Port) (s : State) : State :=
  if (s.port p).off then s else receivedWell p s

/-- The recovery timer expires (R4): both error counts become 0 and the port is Active again, but it
transmits nothing until it has seen 11 recessive bits. -/
def recoverPort (p : Port) (s : State) : State :=
  onExpiry (s.port p).recovery s fun _ s =>
    s.setPort p { s.port p with
      off := false, waitRecessive := true, txErr := 0, rxErr := 0, recovery := .stopped }

/-- The port sees 11 consecutive recessive bits after its recovery (R4). -/
def recessiveBits (p : Port) (s : State) : State :=
  if (s.port p).waitRecessive then
    chooseTx p (s.setPort p { s.port p with waitRecessive := false })
  else s

/-- The port is error passive while either count is above 127 (R3). -/
def State.errorPassive (s : State) (p : Port) : Bool :=
  decide (127 < (s.port p).txErr) || decide (127 < (s.port p).rxErr)

end Sys2Proof.Machine
end

