-- ==== Sys2Proof/Machine/Flow.lean ====
section
/-! DEFINITION. The Flow Arbiter and the Valve Driver (09), with the pauses that a grant begins and
ends in the three kinds of requester. -/

namespace Sys2Proof.Machine

/-! ### The priority list (R148) -/

/-- A station moved to the bottom of a group order. -/
def moveLowest (st : Station) (group : List Station) : List Station :=
  group.filter (fun x => x != st) ++ [st]

/-- The station at a place of the Fixed Order, if a station stands there. -/
def Mem.fixedStations (c : Mem) : List Station :=
  ((List.range 4).filterMap fun i => Station.ofNum (c.fixedOrder i)).eraseDups

/-- The group order after a start or a successful Commit. A Fixed Order in force names every station
(R145); a station it did not name would stand last. -/
def Mem.groupStart (c : Mem) : List Station :=
  if c.rotating then stations
  else c.fixedStations ++ stations.filter fun st => !c.fixedStations.contains st

/-- The number of stations that stand above the packer. -/
def Mem.packerPlace (c : Mem) : Nat :=
  if c.rotating then (if c.packerAbove then 0 else 3)
  else ((List.range 4).takeWhile fun i => c.fixedOrder i != 3).length

/-- The priority list, highest first (R148). -/
def State.priority (s : State) : List Requester :=
  let k := s.cfg.packerPlace
  [.tailgate] ++ (s.arbiter.group.take k).map .station ++ [.packer] ++
    (s.arbiter.group.drop k).map .station

/-! ### The three steps (R151 to R153) -/

/-- The sum of all grants. -/
def Arbiter.used (a : Arbiter) : Nat :=
  a.grant.st.side + a.grant.st.left + a.grant.st.right + a.grant.packer + a.grant.tailgate

/-- The free capacity under a capacity in force. -/
def Arbiter.free (a : Arbiter) (cap : Nat) : Nat := cap - a.used

/-- The minimum of the packer's request; 0 without one. -/
def Arbiter.packerMin (a : Arbiter) : Nat :=
  match a.req.packer with
  | some q => q.minimum
  | none => 0

/-- What the packer's grant holds above its minimum. -/
def Arbiter.packerSpare (a : Arbiter) : Nat := a.grant.packer - a.packerMin

/-- Whether a requester is waiting: a request present with grant 0. -/
def Arbiter.waiting (a : Arbiter) (r : Requester) : Bool :=
  (a.req.get r).isSome && decide (a.grant.get r = 0)

/-- Gives a requester a new grant and counts what the change is: a Grant from 0 to above 0, a Revoke
from above 0 to 0, a Packer Yield when the packer's is lowered and stays above 0 (R150). -/
def Arbiter.regrant (a : Arbiter) (r : Requester) (g : Nat) : Arbiter :=
  let old := a.grant.get r
  { a with
    grant := a.grant.set r g
    grants := if old = 0 ∧ 0 < g then bump a.grants else a.grants
    revokes := if 0 < old ∧ g = 0 then bump a.revokes else a.revokes
    yields := if r = .packer ∧ 0 < g ∧ g < old then bump a.yields else a.yields }

/-- Takes the whole grant of a requester; its request, if present, waits. -/
def Arbiter.revoke (a : Arbiter) (r : Requester) : Arbiter := a.regrant r 0

/-- Trim, first part: every masked requester loses its grant (R151). -/
def Arbiter.trimMasked (masked : Requester → Bool) (a : Arbiter) : Arbiter :=
  requesters.foldl (fun a r => if masked r then a.revoke r else a) a

/-- Trim, part 1: the packer to its minimum (R151). -/
def Arbiter.trimPacker (cap : Nat) (a : Arbiter) : Arbiter :=
  a.regrant .packer (a.grant.packer - min (a.used - cap) a.packerSpare)

/-- Trim, part 2: whole grants from the bottom (R151). `up` is the priority list, lowest first. -/
def Arbiter.trimWhole (cap : Nat) (a : Arbiter) : List Requester → Arbiter
  | [] => a
  | r :: up => if a.used ≤ cap then a else Arbiter.trimWhole cap (a.revoke r) up

/-- The Trim step (R151). -/
def Arbiter.trim (cap : Nat) (masked : Requester → Bool) (prio : List Requester) (a : Arbiter) :
    Arbiter :=
  Arbiter.trimWhole cap ((a.trimMasked masked).trimPacker cap) prio.reverse

/-- Whether the packer yields to a waiting demand (R152); `below` is the list below the waiting
requester. -/
def Arbiter.packerYields (cap : Nat) (a : Arbiter) (demand : Nat) (below : List Requester) : Bool :=
  decide (0 < a.packerSpare) && below.contains .packer &&
    decide (demand ≤ a.free cap + a.packerSpare)

/-- The least that a request needs free to be granted, and the most it is given (R152). -/
def FlowReq.least (q : FlowReq) (r : Requester) : Nat :=
  if r = .packer then q.minimum else q.demand

/-- The Grant step's walk (R152). -/
def Arbiter.walk (cap : Nat) (masked : Requester → Bool) (a : Arbiter) : List Requester → Arbiter
  | [] => a
  | r :: below =>
    match a.req.get r with
    | none => Arbiter.walk cap masked a below
    | some q =>
      if masked r || !a.waiting r then Arbiter.walk cap masked a below
      else if q.least r ≤ a.free cap then
        Arbiter.walk cap masked (a.regrant r (min q.demand (a.free cap))) below
      else if a.packerYields cap q.demand below then
        let b := a.regrant .packer (a.grant.packer - (q.demand - a.free cap))
        Arbiter.walk cap masked (b.regrant r q.demand) below
      else { a with walkStops := bump a.walkStops }

/-- The Restore step (R153). -/
def Arbiter.restore (cap : Nat) (masked : Requester → Bool) (a : Arbiter) : Arbiter :=
  match a.req.packer with
  | none => a
  | some q =>
    if requesters.any (fun r => !masked r && a.waiting r) || decide (a.grant.packer = 0) then a
    else a.regrant .packer (a.grant.packer + min (a.free cap) (q.demand - a.grant.packer))

/-- One arbitration (R150). -/
def Arbiter.run (cap : Nat) (masked : Requester → Bool) (prio : List Requester) (a : Arbiter) :
    Arbiter :=
  let a := { a with arbitrations := bump a.arbitrations }
  ((a.trim cap masked prio).walk cap masked prio).restore cap masked

/-- A demand changed in place is settled before the three steps (R154). -/
def Arbiter.settle (cap : Nat) (r : Requester) (q : FlowReq) (a : Arbiter) : Arbiter :=
  let old := a.grant.get r
  let a := { a with req := a.req.set r (some q) }
  if old = 0 then a
  else if q.least r ≤ old + a.free cap then a.regrant r (min q.demand (old + a.free cap))
  else a.revoke r

/-! ### Target duties (R157, R158) -/

/-- The function code of a requester in the Valve Map (13). -/
def Requester.code : Requester → Nat
  | .station st => st.num
  | .packer => 3
  | .tailgate => 4

/-- The requester of a Valve Map function code. -/
def Requester.ofCode : Nat → Option Requester
  | 0 => some (.station .sideArm)
  | 1 => some (.station .rearLeft)
  | 2 => some (.station .rearRight)
  | 3 => some .packer
  | 4 => some .tailgate
  | _ => none

/-- The valve phase code that a request's phase drives (13); in Dump the sub-phase chooses (R61). -/
def valvePhaseOf (ph : FlowPhase) (sub : DumpPhase) : Nat :=
  match ph with
  | .engage => 0
  | .raise => 1
  | .dump =>
    match sub with
    | .shakeBack _ => 3
    | _ => 2
  | .lower => 4
  | .release => 5
  | .homing => 6
  | .extending => 7
  | .retracting => 8
  | .opening => 9
  | .ejecting => 10
  | .closing => 11

/-- The Dump sub-phase of a requester. -/
def State.subOf (s : State) : Requester → DumpPhase
  | .station st => (s.lift st).sub
  | _ => .none

/-- The enabled Valve Map entries that name a channel. -/
def Mem.channelEntries (c : Mem) (ch : Nat) : List Nat :=
  (List.range 32).filter fun e => c.valveEnabled e && decide (c.valveChannel e = ch)

/-- The function that owns a channel (R157). -/
def Mem.channelOwner (c : Mem) (ch : Nat) : Option Requester :=
  ((c.channelEntries ch).head?).bind fun e => Requester.ofCode (c.valveFunction e)

/-- The full duty of a channel's entry for a function's valve phase; 0 when none names it (R158). -/
def Mem.phaseDuty (c : Mem) (ch : Nat) (r : Requester) (phase : Nat) : Nat :=
  match (c.channelEntries ch).find? fun e =>
      decide (c.valveFunction e = r.code) && decide (c.valvePhase e = phase) with
  | some e => c.fullDuty e
  | none => 0

/-- A channel's target duty (R158). -/
def State.targetDuty (s : State) (ch : Nat) : Nat :=
  match s.cfg.channelOwner ch with
  | none => 0
  | some r =>
    match s.request r with
    | none => 0
    | some q => s.cfg.phaseDuty ch r (valvePhaseOf q.phase (s.subOf r)) * s.grant r / q.demand

/-- The pending duty toward a target (R159). -/
def pendingDuty (ramp applied target : Nat) : Nat :=
  if applied < target ∧ ramp ≠ 0 then min (applied + ramp) target else target

/-- Gives a channel its target (R159); a target of 0 cuts it at once (R160). -/
def Channel.retarget (ramp target : Nat) (x : Channel) : Channel :=
  if target = 0 then
    { x with
      applied := 0, target := 0, pending := 0
      cuts := if x.applied = 0 then x.cuts else bump x.cuts }
  else { x with target := target, pending := pendingDuty ramp x.applied target }

/-- Works out every channel's target again (R158). -/
def refreshValves (s : State) : State :=
  s.setChannels (Vector.ofFn fun i =>
    (s.channels[i]).retarget (s.cfg.rampStep i.val) (s.targetDuty i.val))

/-- A period end (R159): the applied duty takes the pending duty, which is worked out again. -/
def periodEnd (c : Fin 12) (s : State) : State :=
  onExpiry (s.channels[c]).periodEnd s fun e s =>
    let x := s.channels[c]
    s.setChannels (s.channels.set c { x with
      applied := x.pending
      pending := pendingDuty (s.cfg.rampStep c.val) x.pending x.target
      periodStart := e
      periodEnd := .running (e + s.cfg.channelPeriod c.val) })

/-- The level of a channel's output at the present time: high for the applied duty from the start of
the period (R156). -/
def State.valveHigh (s : State) (c : Fin 12) : Bool :=
  decide (s.now - (s.channels[c]).periodStart < (s.channels[c]).applied * s.cfg.channelDivisor c.val)

/-! ### Pauses (R52, R170, R175) -/

/-- Ends the weigh run of a station (R90). -/
def endRun (st : Station) (s : State) : State :=
  s.setScale st { s.scale st with run := Run.empty }

/-- A station after an arbitration (R52, R53): without a request it is not Paused; with one it is
Paused while its grant is 0. A pause holds its timers, and its end lets them run on. -/
def Lift.paced (now limit : Nat) (request : Bool) (grant : Nat) (l : Lift) : Lift :=
  if !request then { l with paused := false, pauseTimer := .stopped }
  else if 0 < grant then
    { l with
      paused := false, pauseTimer := .stopped
      phaseTimer := l.phaseTimer.resume now, seqTimer := l.seqTimer.resume now }
  else
    { l with
      paused := true
      pauses := if l.paused then l.pauses else bump l.pauses
      pauseTimer := if l.paused then l.pauseTimer else .running (now + limit)
      phaseTimer := l.phaseTimer.hold now, seqTimer := l.seqTimer.hold now }

/-- Tells a station its grant (R146, R52); a pause that begins ends its weigh run. -/
def paceLift (s : State) (st : Station) : State :=
  let l := (s.lift st).paced s.now s.cfg.pauseLimit (s.request (.station st)).isSome
    (s.grant (.station st))
  let s := if l.paused && !(s.lift st).paused then endRun st s else s
  s.setLift st l

/-- The packer after an arbitration (R167, R170). The stall timer runs from its whole Stall Time when
a grant is given in Extending, and stops in a pause. -/
def Packer.paced (now limit stall : Nat) (req : Option FlowReq) (grant : Nat) (p : Packer) : Packer :=
  match req with
  | none => { p with paused := false, pauseTimer := .stopped }
  | some q =>
    if 0 < grant then
      { p with
        paused := false, pauseTimer := .stopped
        limitTimer := p.limitTimer.resume now
        stallTimer := if q.phase = .extending ∧ !p.stallTimer.isRunning then .running (now + stall)
          else p.stallTimer }
    else
      { p with
        paused := true
        pauses := if p.paused then p.pauses else bump p.pauses
        pauseTimer := if p.paused then p.pauseTimer else .running (now + limit)
        limitTimer := p.limitTimer.hold now, stallTimer := .stopped }

/-- Tells the packer its grant. -/
def pacePacker (s : State) : State :=
  s.setPacker (s.packer.paced s.now s.cfg.pauseLimit s.cfg.stallTime (s.request .packer)
    (s.grant .packer))

/-- The tailgate after an arbitration (R175). -/
def Tailgate.paced (now limit : Nat) (request : Bool) (grant : Nat) (t : Tailgate) : Tailgate :=
  if !request then { t with paused := false, pauseTimer := .stopped }
  else if 0 < grant then
    { t with
      paused := false, pauseTimer := .stopped
      openTimer := t.openTimer.resume now, limitTimer := t.limitTimer.resume now
      ejectTimer := t.ejectTimer.resume now }
  else
    { t with
      paused := true
      pauses := if t.paused then t.pauses else bump t.pauses
      pauseTimer := if t.paused then t.pauseTimer else .running (now + limit)
      openTimer := t.openTimer.hold now, limitTimer := t.limitTimer.hold now
      ejectTimer := t.ejectTimer.hold now }

/-- Tells the tailgate its grant. -/
def paceTailgate (s : State) : State :=
  s.setTailgate (s.tailgate.paced s.now s.cfg.pauseLimit (s.request .tailgate).isSome
    (s.grant .tailgate))

/-! ### Requests and arbitrations (R146, R150) -/

/-- An arbitration, then its report: the valve targets and the pauses it begins or ends (R150). -/
def arbitrate (s : State) : State :=
  let s := s.setArbiter (s.arbiter.run s.signals.capacity s.masked s.priority)
  paceTailgate (pacePacker (stations.foldl paceLift (refreshValves s)))

/-- The request of a function's phase (R145). -/
def State.flowReq (s : State) (r : Requester) (ph : FlowPhase) : FlowReq :=
  ⟨ph, s.cfg.demand r ph, s.cfg.minimum r ph⟩

/-- A new request (R146). -/
def newRequest (r : Requester) (ph : FlowPhase) (s : State) : State :=
  arbitrate (s.setArbiter { s.arbiter with
    req := s.arbiter.req.set r (some (s.flowReq r ph)), grant := s.arbiter.grant.set r 0 })

/-- A demand changed in place (R146, R154). -/
def changeDemand (r : Requester) (ph : FlowPhase) (s : State) : State :=
  arbitrate (s.setArbiter (s.arbiter.settle s.signals.capacity r (s.flowReq r ph)))

/-- A request released (R146); a requester without a request has nothing to release. -/
def releaseRequest (r : Requester) (s : State) : State :=
  if (s.request r).isSome then
    arbitrate (s.setArbiter { s.arbiter with
      req := s.arbiter.req.set r none, grant := s.arbiter.grant.set r 0 })
  else s

/-- Replaces the group order (R148); a change of it is followed by an arbitration (R150). -/
def setGroup (group : List Station) (s : State) : State :=
  if group = s.arbiter.group then s else arbitrate (s.setArbiter { s.arbiter with group := group })

/-- Makes a station the lowest of the group, as a Release end in Rotating mode does (R148). -/
def setGroupLowest (st : Station) (s : State) : State :=
  setGroup (moveLowest st s.arbiter.group) s

/-- Set Lowest (R149): the station moves to the bottom, and an arbitration follows. -/
def commandLowest (st : Station) (s : State) : State :=
  arbitrate (s.setArbiter { s.arbiter with group := moveLowest st s.arbiter.group })

/-! ### Beacon and horn (R161) -/

/-- A toggle output after its condition is worked out at `now`: the condition's begin raises it and
starts its half-period, its end lowers it. -/
def ToggleState.follow (now half : Nat) (cond : Bool) (t : ToggleState) : ToggleState :=
  if cond && !t.on then ⟨true, true, .running (now + half)⟩
  else if !cond && t.on then ⟨false, false, .stopped⟩
  else t

/-- The beacon condition: a station out of Idle or the packer out of Parked. -/
def State.beaconOn (s : State) : Bool :=
  stations.any (fun st => (s.lift st).state != .idle) || s.packer.state != .parked

/-- The horn condition: the tailgate in Opening, Ejecting or Closing. -/
def State.hornOn (s : State) : Bool :=
  match s.tailgate.state with
  | .opening | .ejecting | .closing => true
  | _ => false

/-- Both toggle outputs after a handling (R161). -/
def settleToggles (s : State) : State :=
  s.setToggles
    ⟨s.toggles.beacon.follow s.now (s.cfg.halfPeriod .beacon) s.beaconOn,
     s.toggles.horn.follow s.now (s.cfg.halfPeriod .horn) s.hornOn⟩

/-- The toggle output of a pin. -/
def Toggles.get (t : Toggles) : Toggle → ToggleState
  | .beacon => t.beacon
  | .horn => t.horn

/-- Replaces the toggle output of a pin. -/
def Toggles.set (t : Toggles) (k : Toggle) (x : ToggleState) : Toggles :=
  match k with
  | .beacon => { t with beacon := x }
  | .horn => { t with horn := x }

/-- A half-period expiry (R161): the output inverts and its timer starts again. -/
def halfPeriodExpiry (k : Toggle) (s : State) : State :=
  onExpiry (s.toggles.get k).timer s fun e s =>
    let t := s.toggles.get k
    s.setToggles (s.toggles.set k
      { t with level := !t.level, timer := .running (e + s.cfg.halfPeriod k) })

/-- A command's whole handling: its effect, then the toggle outputs (R161). A part without main power
takes no command but a start (log entry 4). -/
def handled (f : State → State) (s : State) : State :=
  if s.sys.powered then settleToggles (f s) else s

end Sys2Proof.Machine
end

