-- ==== Sys2Proof/Machine/Household.lean ====
section
/-! DEFINITION. The Household Table (07): records, search, lookup, counter access, check, edits and
moves. What a move's end answers to the stations, to the Billing Engine and to the manager stands with
those blocks. -/

namespace Sys2Proof.Machine

/-! ### Records (R108) -/

/-- The 32 bytes of the record at a position. -/
def Mem.record (m : Mem) (p : Nat) : List Byte := m.readBytes (32 * p) 32

/-- Writes a record at a position. -/
def Mem.putRecord (m : Mem) (p : Nat) (b : List Byte) : Mem := m.writeBytes (32 * p) b

/-- A record's Tag. -/
def recTag (b : List Byte) : Nat := field b 0 5

/-- A record's Account. -/
def recAccount (b : List Byte) : Nat := field b 5 3

/-- A record's Tariff Class. -/
def recTariff (b : List Byte) : Nat := field b 8 1

/-- A record's Status code. -/
def recStatus (b : List Byte) : Nat := field b 9 1

/-- A record's Bin Size. -/
def recBin (b : List Byte) : Nat := field b 10 1

/-- A record's No Repeat Waiver. -/
def recNoWaiver (b : List Byte) : Bool := hasBit (byteAt b 11) 0

/-- The eight counters of a record. -/
structure Counters where
  allowance : Nat
  mass : Nat
  lifts : Nat
  charge : Nat
  lastTime : Nat
  lastMass : Nat
  refused : Nat
  overrides : Nat
  deriving DecidableEq, Repr

/-- A record's counters. -/
def recCounters (b : List Byte) : Counters :=
  ⟨field b 12 2, field b 14 4, field b 18 2, field b 20 4, field b 24 4, field b 28 2, field b 30 1,
    field b 31 1⟩

/-- The bytes 12 to 31 that hold counters. -/
def Counters.bytes (c : Counters) : List Byte :=
  leBytes 2 c.allowance ++ leBytes 4 c.mass ++ leBytes 2 c.lifts ++ leBytes 4 c.charge ++
    leBytes 4 c.lastTime ++ leBytes 2 c.lastMass ++ leBytes 1 c.refused ++ leBytes 1 c.overrides

/-- Writes the counters of the record at a position. -/
def Mem.putCounters (m : Mem) (p : Nat) (c : Counters) : Mem := m.writeBytes (32 * p + 12) c.bytes

/-- The status of a Status code. -/
def HouseStatus.ofCode : Nat → HouseStatus
  | 0 => .active
  | 1 => .suspended
  | _ => .exempt

/-- The code of a status. -/
def HouseStatus.code : HouseStatus → Nat
  | .active => 0
  | .suspended => 1
  | .exempt => 2

/-- The snapshot of a record (R110). -/
def recSnapshot (b : List Byte) : Snapshot :=
  ⟨recAccount b, recTariff b, .ofCode (recStatus b), recBin b⟩

/-! ### The table's state (R109) -/

/-- Busy: a move or walk runs. -/
def Table.busy (t : Table) : Bool := t.journal.op != .clear

/-- Closed and not Busy. -/
def Table.ready (t : Table) : Bool := t.state == .closed && !t.busy

/-- Closed and Busy. -/
def Table.moving (t : Table) : Bool := t.state == .closed && t.busy

/-- Changes the table's counts. -/
def State.countTable (s : State) (f : TableCounts → TableCounts) : State :=
  s.setTable { s.table with counts := f s.table.counts }

/-! ### Search and lookup (R110) -/

/-- The search by halving among positions `lo` up to, and not at, `hi`. The first argument bounds the
halvings; 17 are enough for 65,535 positions. -/
def Mem.search (m : Mem) (tag : Nat) : Nat → Nat → Nat → Option Nat
  | 0, _, _ => none
  | n + 1, lo, hi =>
    if hi ≤ lo then none
    else
      let mid := (lo + hi) / 2
      let t := recTag (m.record mid)
      if t = tag then some mid
      else if t < tag then Mem.search m tag n (mid + 1) hi
      else Mem.search m tag n lo mid

/-- The position of a tag among the first Record Count records. -/
def State.find (s : State) (tag : Nat) : Option Nat := s.store.search tag 17 0 s.table.recordCount

/-- The result of a lookup. -/
inductive Found where
  | found (snap : Snapshot)
  | notFound
  | unavailable
  deriving DecidableEq, Repr

/-- What a table that is not Busy answers a lookup (R110). -/
def State.lookupResult (s : State) (tag : Nat) : Found :=
  if s.table.state == .closed then
    match s.find tag with
    | some p => .found (recSnapshot (s.store.record p))
    | none => .notFound
  else .unavailable

/-- Counts an answered lookup and its result (R110). -/
def countLookup (r : Found) (s : State) : State :=
  s.countTable fun c =>
    let c := { c with lookups := bump c.lookups }
    match r with
    | .found _ => { c with found := bump c.found }
    | .notFound => { c with notFound := bump c.notFound }
    | .unavailable => { c with unavailable := bump c.unavailable }

/-- A lookup joins the Waiting List (R111). DESIGN CHOICE (log entry 26): it joins behind one that an earlier
lift of the station left there. -/
def waitLookup (st : Station) (tag : Nat) (s : State) : State :=
  (s.setTable { s.table with waiting := s.table.waiting ++ [.lookup st tag] }).countTable fun c =>
    { c with waited := bump c.waited }

/-! ### Counter access (R112) -/

/-- The answer to a counter access. -/
inductive CounterAnswer where
  | found (pos : Nat) (noWaiver : Bool) (c : Counters)
  | gone
  | unavailable
  deriving DecidableEq, Repr

/-- What a table that is not Busy answers a counter access (R112). -/
def State.accessResult (s : State) (tag account : Nat) : CounterAnswer :=
  if s.table.state == .closed then
    match s.find tag with
    | some p =>
      let b := s.store.record p
      if recAccount b = account then .found p (recNoWaiver b) (recCounters b) else .gone
    | none => .gone
  else .unavailable

/-- Counts a counter access and a Gone Answer (R112). -/
def countAccess (r : CounterAnswer) (s : State) : State :=
  s.countTable fun c =>
    let c := { c with accesses := bump c.accesses }
    match r with
    | .gone => { c with gone := bump c.gone }
    | _ => c

/-! ### The check (R117) -/

/-- The first test that a record fails, in the order listed. -/
def Mem.recordFault (m : Mem) (p : Nat) : Option CheckResult :=
  let b := m.record p
  if recTag b = 0 then some .zeroTag
  else if p ≠ 0 ∧ recTag b ≤ recTag (m.record (p - 1)) then some .order
  else if recAccount b = 0 then some .fieldRange
  else if 7 < recTariff b ∨ 2 < recStatus b ∨ 7 < recBin b then some .fieldRange
  else none

/-- The end of a check: its result, its Bad Index and the records it tested. -/
structure CheckEnd where
  result : CheckResult
  badIndex : Nat
  tested : Nat
  deriving DecidableEq, Repr

/-- Tests `n` records from a position on. -/
def Mem.checkFrom (m : Mem) (p : Nat) : Nat → CheckEnd
  | 0 => ⟨.passed, 0, p⟩
  | n + 1 =>
    match m.recordFault p with
    | some r => ⟨r, p, p + 1⟩
    | none => Mem.checkFrom m (p + 1) n

/-- The check of a table (R117). -/
def Mem.check (m : Mem) (count : Nat) : CheckEnd :=
  if Config.maxRecords < count then ⟨.countTooLarge, Config.maxRecords, 0⟩
  else Mem.checkFrom m 0 count

/-- A check ends (R117). -/
def endCheck (s : State) : State :=
  let e := s.store.check s.table.recordCount
  let s := s.setTable { s.table with
    state := if e.result = .passed then .closed else .invalid
    checkResult := e.result, badIndex := e.badIndex, checkTimer := .stopped }
  raiseNotice .tableCheck (s.countTable fun c => { c with checks := bump c.checks })

/-- A check begins (R117): 2 µs for each record it will test. A check that tests none ends at once. -/
def beginCheck (s : State) : State :=
  let n := (s.store.check s.table.recordCount).tested
  let s := s.setTable { s.table with
    state := .checking, checkTimer := .running (s.now + Config.recordTime * n) }
  if n = 0 then endCheck s else s

/-! ### Edits (R118 to R122) -/

/-- The Bad Record test of a staged record (R118). -/
def badRecord (b : List Byte) : Bool :=
  decide (recTag b = 0) || decide (recAccount b = 0) || decide (7 < recTariff b) ||
    decide (2 < recStatus b) || decide (7 < recBin b)

/-- The position of the first record whose Tag is greater, among `n` records from `p` on; the position
after them when there is none (R120). -/
def Mem.firstGreater (m : Mem) (tag p : Nat) : Nat → Nat
  | 0 => p
  | n + 1 => if tag < recTag (m.record p) then p else Mem.firstGreater m tag (p + 1) n

/-- An edit command ends with its Table Result (R118). -/
def endEdit (r : TableResult) (s : State) : State := s.setTable { s.table with lastResult := r }

/-- Update of a found record (R119): the six fields take the staged values. -/
def updateRecord (p : Nat) (s : State) : State :=
  let b := s.table.staging
  let m := s.store.writeBytes (32 * p + 5) ((b.drop 5).take 9)
  (s.setStore m).countTable fun c => { c with updates := bump c.updates }

/-- Whether a record step remains before the move or walk can end. -/
def Table.stepsLeft (t : Table) : Bool :=
  match t.journal.op with
  | .clear => false
  | .insert => decide ((t.journal.pos : Int) ≤ t.journal.next)
  | .delete => decide (t.journal.next + 1 < (t.recordCount : Int))
  | .openPeriod => decide (t.journal.next < (t.recordCount : Int))

/-- The time of the next event of a move or walk after time `t`: 2 µs on, and at once when a Delete or
a walk has no step left (R121, R122). -/
def Table.nextMove (tb : Table) (t : Nat) : Timer :=
  if tb.stepsLeft || tb.journal.op == .insert then .running (t + Config.recordTime) else .running t

/-- A move or walk begins: the journal is written and the table enters Busy (R120 to R123). -/
def beginMove (j : Journal) (s : State) : State :=
  let tb := { s.table with journal := j }
  s.setTable { tb with moveTimer := tb.nextMove s.now }

/-- The record that Open Period leaves (R122). -/
def openedRecord (c : Mem) (b : List Byte) : Counters :=
  { recCounters b with
    allowance := c.periodAllowance (recTariff b)
    mass := 0, lifts := 0, charge := 0, refused := 0, overrides := 0 }

/-- One record step of a move or walk (R120 to R123): the record, then the next index. -/
def moveRecord (s : State) : State :=
  let j := s.table.journal
  let i := j.next.toNat
  match j.op with
  | .clear => s
  | .insert =>
    (s.setStore (s.store.putRecord (i + 1) (s.store.record i))).setTable
      { s.table with journal := { j with next := j.next - 1 } }
  | .delete =>
    (s.setStore (s.store.putRecord i (s.store.record (i + 1)))).setTable
      { s.table with journal := { j with next := j.next + 1 } }
  | .openPeriod =>
    (s.setStore (s.store.putCounters i (openedRecord s.cfg (s.store.record i)))).setTable
      { s.table with journal := { j with next := j.next + 1 } }

/-- The record step that is due (R123). -/
def moveStep (s : State) : State :=
  if s.table.stepsLeft then
    onExpiry s.table.moveTimer s fun e s =>
      let s := moveRecord s
      s.setTable { s.table with moveTimer := s.table.nextMove e }
  else s

/-- The retained update that ends a move or walk (R123), with its count (R125). -/
def finishMove (s : State) : State :=
  let tb := { s.table with journal := Journal.clear, moveTimer := Timer.stopped }
  match s.table.journal.op with
  | .clear => s
  | .insert =>
    ((s.setStore (s.store.putRecord s.table.journal.pos s.table.journal.staged)).setTable
      { tb with recordCount := s.table.recordCount + 1 }).countTable
        fun c => { c with inserts := bump c.inserts }
  | .delete =>
    (s.setTable { tb with recordCount := s.table.recordCount - 1 }).countTable
      fun c => { c with deletes := bump c.deletes }
  | .openPeriod =>
    (s.setTable tb).countTable fun c => { c with periods := bump c.periods }

/-- A start resumes what it finds (R124). -/
def resumeTable (s : State) : State :=
  if s.table.busy then
    s.setTable { s.table with state := .closed, moveTimer := s.table.nextMove s.now }
  else if s.table.state == .checking then beginCheck s
  else s

/-- What an edit command does when it is taken: ends with a Table Result, or begins a move. -/
inductive EditStart where
  | result (r : TableResult)
  | move (j : Journal)
  deriving DecidableEq, Repr

/-- Insert, when it is taken (R120). -/
def State.insertStart (s : State) : EditStart :=
  let b := s.table.staging
  let n := s.table.recordCount
  if badRecord b then .result .badRecord
  else if (s.find (recTag b)).isSome then .result .duplicate
  else if n = Config.maxRecords then .result .full
  else .move ⟨.insert, s.store.firstGreater (recTag b) 0 n, (n : Int) - 1, b⟩

/-- Delete, when it is taken (R121). -/
def State.deleteStart (s : State) : EditStart :=
  match s.find (recTag s.table.staging) with
  | none => .result .notFound
  | some p => .move ⟨.delete, p, (p : Int), []⟩

end Sys2Proof.Machine
end

