-- ==== Sys2Proof/Machine/Weighing.lean ====
section
/-! DEFINITION. The Weigh Engine (06): runs, windows, conversion, the gross and tare results, mass
figures, attitude, node silence and zero capture. -/

namespace Sys2Proof.Machine

/-! ### The Lift Record, as the filling blocks change it (R69) -/

/-- Changes a station's Lift Record, if one is present. -/
def State.onRecord (s : State) (st : Station) (f : LiftRecord → LiftRecord) : State :=
  s.setLift st { s.lift st with record := (s.lift st).record.map f }

/-- Sets a flag in a station's Lift Record, if one is present. -/
def setFlag (st : Station) (flag : LiftFlag) (s : State) : State :=
  s.onRecord st fun r => { r with flags := r.flags ||| flag.mask }

/-! ### Windows -/

/-- The sum of a window. -/
def windowSum (w : List Int) : Int := w.foldl (· + ·) 0

/-- The spread of a window: its largest count less its smallest (R91). -/
def windowSpread : List Int → Nat
  | [] => 0
  | c :: w => (w.foldl max c - w.foldl min c).toNat

/-- What adding a sample to a run did (R89). -/
structure RunStep where
  run : Run
  started : Bool
  gap : Bool
  deriving DecidableEq, Repr

/-- A sample placed in a run that keeps its last `n` counts (R89). -/
def Run.take (n : Nat) (count : Int) (seq : Nat) (r : Run) : RunStep :=
  if r.counts.isEmpty then ⟨⟨[count], seq⟩, true, false⟩
  else if seq = (r.seq + 1) % 256 then ⟨⟨(count :: r.counts).take n, seq⟩, false, false⟩
  else ⟨⟨[count], seq⟩, true, true⟩

/-- The window of a run's last `n` samples, once it holds them. -/
def Run.window (n : Nat) (r : Run) : Option (List Int) :=
  if r.counts.length = n then some r.counts else none

/-! ### Conversion (R98 to R100) -/

/-- A converted mass with the flags and the pitch of its conversion. `low` says that it was clamped
at 0. -/
structure Conversion where
  mass : Nat
  flags : BitVec 32
  pitch : Int
  low : Bool
  deriving DecidableEq, Repr

/-- The tilt index of a pitch (R99). -/
def tiltIndex (pitch : Int) : Int := max (-15) (min 15 (roundDiv pitch 10))

/-- The tilt factor, its flags and the pitch used (R99). -/
def State.tilt (s : State) : Nat × BitVec 32 × Int :=
  if s.weigh.fresh then
    (s.cfg.tilt (tiltIndex s.weigh.pitch),
      flagIf (decide (150 < s.weigh.pitch ∨ s.weigh.pitch < -150)) .tiltOutOfRange, s.weigh.pitch)
  else (16384, LiftFlag.tiltUnknown.mask, 0)

/-- The uncorrected mass of a window's sum (R98). -/
def State.uncorrected (s : State) (st : Station) (sum : Int) : Int :=
  let mean := roundDiv sum (s.cfg.windowLength st)
  roundDiv ((mean - (s.zero st).za) * s.cfg.span st) 65536

/-- A window's sum converted to mass (R98 to R100). -/
def State.convert (s : State) (st : Station) (sum : Int) : Conversion :=
  let (factor, flags, pitch) := s.tilt
  let m := roundDiv (s.uncorrected st sum * factor) 16384
  let cap := s.cfg.scaleCapacity st
  if m < 0 then ⟨0, flags ||| LiftFlag.negativeNet.mask, pitch, true⟩
  else if (cap : Int) < m then ⟨cap, flags ||| LiftFlag.overCapacity.mask, pitch, false⟩
  else ⟨m.toNat, flags, pitch, false⟩

/-- Counts a conversion clamped at 0 in Negative Gross or Negative Tare (R100). -/
def countLow (gross low : Bool) (w : WeighStation) : WeighStation :=
  if !low then w
  else if gross then { w with negativeGross := bump w.negativeGross }
  else { w with negativeTare := bump w.negativeTare }

/-! ### Samples (R88 to R92) -/

/-- A window of the phase: it is accepted when Stable, and otherwise may become the fallback (R91,
R92). -/
def takeWindow (st : Station) (gross : Bool) (win : List Int) (s : State) : State :=
  let w := s.scale st
  if w.accepted.isSome then s
  else
    let spread := windowSpread win
    if spread ≤ s.cfg.stabilityBand st then
      let c := s.convert st (windowSum win)
      s.setScale st (countLow gross c.low { w with
        accepted := some ⟨spread, c.mass, c.flags, c.pitch⟩
        stableWindows := bump w.stableWindows })
    else
      match w.fallback with
      | none => s.setScale st { w with fallback := some ⟨windowSum win, spread⟩ }
      | some f =>
        if spread < f.spread then
          s.setScale st { w with fallback := some ⟨windowSum win, spread⟩ }
        else s

/-- The qualification tests of R89. -/
def State.qualifies (s : State) (st : Station) (angle : Nat) : Bool :=
  !(s.lift st).paused && decide (s.cfg.zoneStart st ≤ angle) && decide (angle ≤ s.cfg.zoneEnd st) &&
    s.signals.weighSpeedOk

/-- A sample of the gross or tare run (R89). -/
def phaseSample (st : Station) (gross : Bool) (count : Int) (angle seq : Nat) (s : State) : State :=
  if s.qualifies st angle then
    let w := s.scale st
    let r := w.run.take (s.cfg.windowLength st) count seq
    let s := s.setScale st { w with
      run := r.run
      qualified := bump w.qualified
      runsStarted := if r.started then bump w.runsStarted else w.runsStarted
      gaps := if r.gap then bump w.gaps else w.gaps }
    match r.run.window (s.cfg.windowLength st) with
    | some win => takeWindow st gross win s
    | none => s
  else endRun st s

/-- A capture ends (R106). -/
def endCapture (st : Station) (r : ZeroResult) (s : State) : State :=
  raiseNotice .zeroDone (s.setScale st { s.scale st with
    capture := .stopped, captureRun := Run.empty, lastResult := r })

/-- A Stable window of the capture run (R106). -/
def captureWindow (st : Station) (win : List Int) (s : State) : State :=
  let mean := roundDiv (windowSum win) (s.cfg.windowLength st)
  let z0 := s.cfg.commissionedZero st
  let range : Int := s.cfg.zeroRange st
  if z0 - range ≤ mean ∧ mean ≤ z0 + range then
    endCapture st .captured (s.setScale st { s.scale st with pendingZero := some mean })
  else endCapture st .outOfRange (s.setScale st { s.scale st with lastMean := mean })

/-- A sample of the capture run (R105): only the sequence test applies. -/
def captureSample (st : Station) (count : Int) (seq : Nat) (s : State) : State :=
  let w := s.scale st
  let n := s.cfg.windowLength st
  let r := (w.captureRun.take n count seq).run
  let s := s.setScale st { w with captureRun := r }
  match r.window n with
  | some win => if windowSpread win ≤ s.cfg.stabilityBand st then captureWindow st win s else s
  | none => s

/-- The silence timer after a sample (R88, R96). -/
def Silence.restart (now : Nat) : Silence → Silence
  | .stopped => .stopped
  | _ => .running (now + Config.silenceTime)

/-- A Weigh Sample of a station (R88). -/
def stationSample (st : Station) (count : Int) (angle seq : Nat) (s : State) : State :=
  let w := s.scale st
  let s := s.setScale st { w with
    latestCount := count, latestAngle := angle, latestSeq := seq
    samples := bump w.samples, silence := w.silence.restart s.now }
  match (s.lift st).state with
  | .raise => phaseSample st true count angle seq s
  | .lower => if (s.lift st).chargePending then s else phaseSample st false count angle seq s
  | .idle => if (s.scale st).capture.isRunning then captureSample st count seq s else s
  | _ => s

/-- The station whose node a node number is. -/
def stationOf (node : Station → Nat) (src : Byte) : Option Station :=
  stations.find? fun st => decide (node st = src.toNat)

/-- One more in Ignored Samples (R88). -/
def ignoreSample (s : State) : State :=
  s.setWeigh { s.weigh with ignored := bump s.weigh.ignored }

/-- A delivered Weigh Sample frame (R88). -/
def weighSample (src : Byte) (count : BitVec 24) (angle : BitVec 16) (seq : Byte) (s : State) :
    State :=
  match stationOf s.cfg.weighNode src with
  | some st => stationSample st (signed 24 count.toNat) angle.toNat seq.toNat s
  | none => ignoreSample s

/-! ### Phases of weighing (R91, R93 to R96) -/

/-- Raise or Lower is entered: no window stands, and the silence timer starts (R91, R96). -/
def enterWeighing (st : Station) (s : State) : State :=
  s.setScale st { s.scale st with
    run := Run.empty, accepted := none, fallback := none
    silence := .running (s.now + Config.silenceTime) }

/-- The phase's weighing ends: the run ends and the silence timer stops (R90, R96). DESIGN CHOICE (log entry
24): the accepted window and the fallback still read as they stand until the next Raise or Lower begins. -/
def leaveWeighing (st : Station) (s : State) : State :=
  s.setScale st { s.scale st with run := Run.empty, silence := .stopped }

/-- A station leaves by Fault: the phase's windows are discarded as well (R95). -/
def discardWeighing (st : Station) (s : State) : State :=
  s.setScale st { s.scale st with
    run := Run.empty, silence := .stopped, accepted := none, fallback := none }

/-- Raise end: the gross result (R93). -/
def fixGross (st : Station) (s : State) : State :=
  let w := s.scale st
  let s := match w.accepted with
    | some a =>
      s.onRecord st fun r => { r with
        gross := some a.mass, grade := .stable, pitch := a.pitch, flags := r.flags ||| a.flags }
    | none =>
      match w.fallback with
      | some f =>
        let c := s.convert st f.sum
        let s := s.setScale st (countLow true c.low
          { w with unstableGross := bump w.unstableGross })
        s.onRecord st fun r => { r with
          gross := some c.mass, grade := .unstable, pitch := c.pitch
          flags := r.flags ||| c.flags ||| LiftFlag.unstableGross.mask }
      | none =>
        let s := s.setScale st { w with missingGross := bump w.missingGross }
        s.onRecord st fun r => { r with
          gross := none, grade := .missing, pitch := 0
          flags := r.flags ||| LiftFlag.missingGross.mask }
  leaveWeighing st s

/-- The bin size of a snapshot, or 0 when it is absent (R94, R102). -/
def binOf : Option Snapshot → Nat
  | some sn => sn.bin
  | none => 0

/-- Lower end: the tare result (R94). -/
def fixTare (st : Station) (s : State) : State :=
  let w := s.scale st
  let s := match w.accepted with
    | some a =>
      s.onRecord st fun r => { r with
        tare := some a.mass, tareSource := .measured, flags := r.flags ||| a.flags }
    | none =>
      let s := s.setScale st { w with defaultTare := bump w.defaultTare }
      s.onRecord st fun r => { r with
        tare := some (s.cfg.defaultTare (binOf r.snapshot)), tareSource := .default
        flags := r.flags ||| LiftFlag.defaultTare.mask }
  leaveWeighing st s

/-- A silence timer expires (R96). -/
def silenceExpiry (st : Station) (s : State) : State :=
  match (s.scale st).silence with
  | .running e =>
    let s := s.reach e
    let w := s.scale st
    setFlag st .nodeLost (s.setScale st { w with
      run := Run.empty, silence := .expired, nodeLost := bump w.nodeLost })
  | _ => s

/-! ### Attitude (R97) -/

/-- A delivered Attitude frame (R88, R97). -/
def attitude (src : Byte) (pitch roll : BitVec 16) (s : State) : State :=
  if s.cfg.attitudeNode = src.toNat then
    s.setWeigh { s.weigh with
      pitch := signed 16 pitch.toNat, roll := signed 16 roll.toNat, fresh := true
      attitudeTimer := .running (s.now + Config.attitudeTime)
      attitudes := bump s.weigh.attitudes }
  else ignoreSample s

/-- The attitude timer expires (R97): the attitude is Stale; pitch and roll are kept. -/
def attitudeExpiry (s : State) : State :=
  onExpiry s.weigh.attitudeTimer s fun _ s =>
    s.setWeigh { s.weigh with fresh := false, attitudeTimer := .stopped }

/-! ### Zeros (R104 to R106) -/

/-- An accepted Cycle Start puts a pending zero in force (R104). -/
def applyPendingZero (st : Station) (s : State) : State :=
  match (s.scale st).pendingZero with
  | none => s
  | some z =>
    let s := s.setZeros (s.zeros.set st { s.zero st with za := z })
    s.setScale st { s.scale st with pendingZero := none }

/-- A running capture is cancelled (R106). -/
def cancelCapture (st : Station) (s : State) : State :=
  if (s.scale st).capture.isRunning then endCapture st .cancelled s else s

/-- The capture timer expires (R106). -/
def captureExpiry (st : Station) (s : State) : State :=
  onExpiry (s.scale st).capture s fun _ s => endCapture st .timeout s

/-- A capture begins (R105). -/
def beginCapture (st : Station) (s : State) : State :=
  s.setScale st { s.scale st with
    capture := .running (s.now + Config.captureTime), captureRun := Run.empty }

/-- A successful Commit: Za is Z0 of the committed configuration, and no zero is pending (R104). -/
def commitZero (s : State) (st : Station) : State :=
  let s := s.setZeros (s.zeros.set st ⟨s.cfg.commissionedZero st, true⟩)
  s.setScale st { s.scale st with pendingZero := none }

/-! ### Mass figures (R101 to R103) -/

/-- All figures 0. -/
def Figures.zero : Figures := ⟨0, 0, 0, 0, 0⟩

/-- The most that a station's billed mass can be: Capacity ÷ 10, rounded down. -/
def Mem.billedLimit (c : Mem) (st : Station) : Nat := c.scaleCapacity st / 10

/-- Net and billed mass of a gross and a tare (R101). -/
def netFigures (c : Mem) (st : Station) (gross tare : Nat) (flags : BitVec 32) : Figures :=
  let net := gross - tare
  ⟨gross, tare, net, min ((net + 5) / 10) (c.billedLimit st),
    flags ||| flagIf (decide (gross < tare)) .negativeNet⟩

/-- Figures from the Fallback Mass of a bin size (R102). -/
def estimatedFigures (c : Mem) (st : Station) (bin tare : Nat) : Figures :=
  ⟨0, tare, 0, min (c.fallbackMass bin) (c.billedLimit st), LiftFlag.estimated.mask⟩

/-- Figures of a lift that reached Lower end (R101, R102). -/
def liftFigures (c : Mem) (st : Station) (r : LiftRecord) : Figures :=
  match r.gross with
  | some g => netFigures c st g (r.tare.getD 0) 0
  | none => estimatedFigures c st (binOf r.snapshot) (r.tare.getD 0)

/-- Figures of an Incomplete record (R103). -/
def incompleteFigures (c : Mem) (st : Station) (gross : Option Nat) (bin : Nat) : Figures :=
  match gross with
  | some g => netFigures c st g (c.defaultTare bin) LiftFlag.defaultTare.mask
  | none => estimatedFigures c st bin 0

/-- Figures of an Aborted record (R103). -/
def abortedFigures (gross : Option Nat) : Figures := { Figures.zero with gross := gross.getD 0 }

end Sys2Proof.Machine
end

