-- ==== Sys2Proof/Machine/TagAssoc.lean ====
section
/-! DEFINITION. The Tag Associator (05): the Tag Queue, the Assigned Tag registers and the assignment
at Engage end. What a late read does to the lift stands with the Lift Sequencer. -/

namespace Sys2Proof.Machine

/-- The time base's value at a tag time (R85). -/
def State.timeOfTag (s : State) (t : Nat) : Nat := s.sys.startedAt + t * Config.ms

/-- Whether an entry is the one of a station and tag. -/
def TagEntry.isFor (st : Station) (tag : Nat) (e : TagEntry) : Bool :=
  e.station == st && decide (e.tag = tag)

/-- Replaces the Tag Queue. -/
def State.setTagQueue (s : State) (q : List TagEntry) : State := s.setTags { s.tags with queue := q }

/-- Replaces a station's Assigned Tag register. -/
def State.setAssigned (s : State) (st : Station) (a : Option AssignedTag) : State :=
  s.setTags { s.tags with assigned := s.tags.assigned.set st a }

/-- Changes a station's counts of R86. -/
def State.countTags (s : State) (st : Station) (f : TagCounts → TagCounts) : State :=
  s.setTags { s.tags with counts := s.tags.counts.set st (f (s.tags.counts.get st)) }

/-- A read merged into its entry (R76). -/
def TagEntry.merge (now strength : Nat) (e : TagEntry) : TagEntry :=
  { e with last := now, count := satAdd 255 e.count 1, strength := strength }

/-- A read that is neither absorbed nor assigned goes to the Tag Queue (R76, R77). -/
def queueRead (st : Station) (tag strength : Nat) (s : State) : State :=
  let q := s.tags.queue
  if q.any (TagEntry.isFor st tag) then
    s.setTags { s.tags with
        queue := q.map fun e => if e.isFor st tag then e.merge s.tagTime strength else e
        merged := bump s.tags.merged }
  else if q.length < Config.tagPlaces then
    s.setTagQueue (q ++ [⟨st, tag, s.tagTime, s.tagTime, 1, strength⟩])
  else
    raiseNotice .tagOverrun (s.setTags { s.tags with
      overrun := true, dropped := bump s.tags.dropped })

/-- Whether a station's register holds a tag. -/
def State.absorbs (s : State) (st : Station) (tag : Nat) : Bool :=
  match s.tags.assigned.get st with
  | some a => decide (a.tag = tag)
  | none => false

/-- An absorbed read (R79). -/
def absorbRead (st : Station) (tag : Nat) (s : State) : State :=
  let s := s.setAssigned st (some ⟨tag, s.tagTime⟩)
  s.setTags { s.tags with absorbed := bump s.tags.absorbed }

/-- Whether a station's lift is open for late association (R82). -/
def State.openForLate (s : State) (st : Station) : Bool :=
  match (s.lift st).state, (s.lift st).record with
  | .raise, some r => r.tag.isNone && !carries r.flags .ambiguousTag
  | _, _ => false

/-- What the Tag Associator answers at Engage end (R80). -/
inductive TagAnswer where
  | assigned (tag : Nat)
  | ambiguous
  | none
  deriving DecidableEq, Repr

/-- The candidates of a station, oldest first read first (R80). -/
def State.candidates (s : State) (st : Station) : List TagEntry :=
  s.tags.queue.filter fun e => e.station == st

/-- The assigned entry leaves the queue and sets the register (R79, R80). -/
def assignEntry (st : Station) (e : TagEntry) (s : State) : State :=
  let s := s.setTagQueue (s.tags.queue.filter fun x => !x.isFor st e.tag)
  let s := s.setAssigned st (some ⟨e.tag, e.last⟩)
  s.countTags st fun c => { c with engage := bump c.engage }

/-- Lockout with more than one candidate (R80): the station's entries are removed. -/
def lockOut (st : Station) (s : State) : State :=
  (s.setTagQueue (s.tags.queue.filter fun x => !(x.station == st))).countTags st
    fun c => { c with ambiguous := bump c.ambiguous }

/-- The Tag Associator's decision at Engage end (R80). -/
def assignTag (st : Station) (s : State) : TagAnswer × State :=
  match s.candidates st with
  | [] => (.none, s.countTags st fun c => { c with noTag := bump c.noTag })
  | [e] => (.assigned e.tag, assignEntry st e s)
  | e :: _ :: _ =>
    if s.cfg.rollover then (.assigned e.tag, assignEntry st e s) else (.ambiguous, lockOut st s)

/-- The register's share of a late assignment (R82). -/
def assignLate (st : Station) (tag : Nat) (s : State) : State :=
  (s.setAssigned st (some ⟨tag, s.tagTime⟩)).countTags st fun c => { c with late := bump c.late }

/-- An entry's expiry (R78): it leaves the queue one Association Window after its last read. -/
def tagEntryExpiry (st : Station) (tag : Nat) (s : State) : State :=
  match s.tags.queue.find? (TagEntry.isFor st tag) with
  | none => s
  | some e =>
    let s := s.reach (s.timeOfTag (e.last + s.cfg.associationWindow))
    s.setTagQueue (s.tags.queue.filter fun x => !x.isFor st tag)

/-- A register empties when its window has passed, unless the station holds a Lift Record (R79). -/
def assignedTagEmptying (st : Station) (s : State) : State :=
  match s.tags.assigned.get st with
  | none => s
  | some a =>
    if (s.lift st).record.isSome then s
    else (s.reach (s.timeOfTag (a.last + s.cfg.associationWindow))).setAssigned st none

/-- A register whose window has passed empties now, when the station holds no Lift Record (R79, R84). -/
def settleAssigned (s : State) (st : Station) : State :=
  match s.tags.assigned.get st with
  | none => s
  | some a =>
    if (s.lift st).record.isNone && decide (a.last + s.cfg.associationWindow ≤ s.tagTime) then
      s.setAssigned st none
    else s

/-- A successful Commit applies the new Association Window (R84). -/
def commitTags (s : State) : State :=
  let s := s.setTagQueue (s.tags.queue.filter fun e =>
    decide (s.tagTime < e.last + s.cfg.associationWindow))
  stations.foldl settleAssigned s

end Sys2Proof.Machine
end

