-- ==== Sys2Proof/Machine/Compaction.lean ====
section
/-! DEFINITION. Role states and pair errors (03) as the functions read them, the Payload Accumulator,
a station's Dump entry with the blade test (04), and the Packer Controller (10). -/

namespace Sys2Proof.Machine

/-! ### Roles, E-Stop and pair errors (R35, R40, R41) -/

/-- The published state of an input. -/
def State.input (s : State) (i : Nat) : Bool := hasBit s.scanner.published i

/-- The state of a role that uses no station; a role given to no input reads inactive (R35). -/
def State.role (s : State) (r : Role) : Bool :=
  (List.range 32).any fun i => s.cfg.hasRole r i && s.input i

/-- The state of a station's role. -/
def State.stationRole (s : State) (r : Role) (st : Station) : Bool :=
  (List.range 32).any fun i => s.cfg.hasStationRole r st i && s.input i

/-- E-Stop is active while any E-Stop-role input is active (R35). -/
def State.eStop (s : State) : Bool := s.role .eStop

/-- Whether a pair error of a function holds (R41). -/
def State.pairErrorOf (s : State) (r : Requester) : Bool :=
  (List.range 8).any fun j =>
    hasBit s.scanner.pairErrors j && (s.cfg.roleOwner (s.cfg.pairA j) == some r)

/-- Scan Ready is true and E-Stop is inactive. -/
def State.scanOk (s : State) : Bool := s.scanner.ready && !s.eStop

/-- Configured is true, Maintenance is off, Scan Ready is true and E-Stop is inactive (R47, R165,
R173). -/
def State.canStart (s : State) : Bool := s.configured && !s.mode.maintenance && s.scanOk

/-! ### Payload and Body Full (R169, R171, R172) -/

/-- The Fill Index of a Fill list (R169). -/
def fillIndex (fills : List Nat) : Nat :=
  if fills.isEmpty then 0 else (2 * fills.foldl (· + ·) 0 + fills.length) / (2 * fills.length)

/-- Whether Body Full's test holds (R172). -/
def State.bodyFullTest (s : State) : Bool :=
  decide (s.cfg.payloadLimit ≤ s.payload.mass) ||
    decide (s.cfg.fullLevel ≤ fillIndex s.payload.fills)

/-- Tests Body Full again (R172); its begin raises the notice. -/
def testBodyFull (s : State) : State :=
  let begins := s.bodyFullTest && !s.payload.bodyFull
  let s := s.setPayload { s.payload with bodyFull := s.bodyFullTest }
  if begins then raiseNotice .bodyFull s else s

/-- The cycle fill of an achieved stroke (R169). -/
def cycleFill (full stroke : Nat) : Nat := if stroke < full then 100 * (full - stroke) / full else 0

/-- A new fill joins the Fill list, which keeps the last four (R169). -/
def addFill (f : Nat) (s : State) : State :=
  let l := s.payload.fills ++ [f]
  testBodyFull (s.setPayload { s.payload with fills := l.drop (l.length - 4) })

/-! ### Lift Marker (R70) -/

/-- The marker that a station's Lift Record gives (R70). -/
def LiftRecord.marker (r : LiftRecord) (f : Furthest) : Marker :=
  match r.snapshot with
  | some sn => ⟨f, r.tag.getD 0, sn.account, sn.tariff, sn.bin, r.gross⟩
  | none => ⟨f, r.tag.getD 0, 0, 0, 0, r.gross⟩

/-- Writes a station's Lift Marker from its Lift Record (R70). -/
def writeMarker (st : Station) (f : Furthest) (s : State) : State :=
  match (s.lift st).record with
  | some r => s.setMarker st (r.marker f)
  | none => s

/-! ### Dump entry (R57, R61, R165) -/

/-- An automatic pack request (R165). The station that raised it stands in Dump, so row 4 cannot
apply: rows 1 to 3 refuse it, and otherwise pack-pending is set. -/
def autoRequest (s : State) : State :=
  let p := { s.packer with autoRequests := bump s.packer.autoRequests }
  if !s.canStart || s.pairErrorOf .packer || s.packer.state == .fault then
    s.setPacker { p with autoRefused := bump p.autoRefused }
  else s.setPacker { p with packPending := true }

/-- A Dump entry counts in dumps-since-pack and may raise an automatic request (R61, R165). -/
def countDump (s : State) : State :=
  let s := s.setPacker { s.packer with dumps := satAdd 255 s.packer.dumps 1 }
  if s.cfg.packAfter ≠ 0 ∧ s.cfg.packAfter ≤ s.packer.dumps then autoRequest s else s

/-- The sub-phase that Dump begins in (R61). -/
def Mem.firstSub (c : Mem) (st : Station) : DumpPhase :=
  if c.shakeCount st = 0 then .dumpUp else .shakeUp 1

/-- The length of a sub-phase (R61). -/
def Mem.subLength (c : Mem) (st : Station) : DumpPhase → Nat
  | .none => 0
  | .shakeUp _ => c.shakeHalfPeriod st
  | .shakeBack _ => c.shakeHalfPeriod st
  | .dumpUp => c.dumpTime st

/-- A station enters Dump (R61). -/
def enterDump (st : Station) (s : State) : State :=
  let s := s.onRecord st fun r => { r with reachedDump := true }
  let s := writeMarker st .dumped s
  let sub := s.cfg.firstSub st
  let s := s.setLift st { s.lift st with
    state := .dump, wait := .none, holdTimer := .stopped, sub := sub
    seqTimer := .running (s.now + s.cfg.subLength st sub) }
  newRequest (.station st) .dump (countDump s)

/-- The blade condition of R57. -/
def State.bladeOk (s : State) : Bool :=
  s.role .bladeClear && s.packer.state != .extending && s.packer.state != .dwelling

/-- The blade test of an admitted station in Hold (R57). -/
def bladeTest (st : Station) (s : State) : State :=
  if s.bladeOk then enterDump st s else s.setLift st { s.lift st with wait := .blade }

/-- A station's Blade wait tests again (R57). -/
def retestBlade (s : State) (st : Station) : State :=
  if (s.lift st).state == .hold && (s.lift st).wait == .blade then bladeTest st s else s

/-- Every Blade wait tests again, as at a change of packer state (R57). -/
def bladeTests (s : State) : State := stations.foldl retestBlade s

/-! ### The compaction cycle (R165 to R168) -/

/-- The four conditions of row 4 of R165. -/
def State.packReady (s : State) : Bool :=
  s.packer.state == .parked && s.signals.packPermit &&
    stations.all (fun st => (s.lift st).state != .dump) && s.tailgate.state == .closed

/-- The packer's home position (R168). -/
def State.packerHome (s : State) : Bool := s.role .packerHome && s.role .bladeClear

/-- The packer enters Parked (R168); `serve` tests pack-pending (R166). -/
def enterParked (serve : State → State) (s : State) : State :=
  let s := s.setPacker { s.packer with state := .parked, limitTimer := .stopped }
  serve (bladeTests (releaseRequest .packer s))

/-- The packer enters Retracting (R168). -/
def enterRetracting (serve : State → State) (s : State) : State :=
  let s := bladeTests (s.setPacker { s.packer with
    state := .retracting, dwellTimer := .stopped, limitTimer := .stopped, stallTimer := .stopped })
  if s.packerHome then enterParked serve s
  else
    newRequest .packer .retracting (s.setPacker { s.packer with
      limitTimer := .running (s.now + s.cfg.retractLimit) })

/-- The packer enters Dwelling (R168). -/
def enterDwelling (serve : State → State) (s : State) : State :=
  let s := s.setPacker { s.packer with
    state := .dwelling, dwellTimer := .running (s.now + s.cfg.dwellTime) }
  if s.cfg.dwellTime = 0 then enterRetracting serve s else s

/-- Extending ends by Full Stroke or by a Stall (R167). -/
def endExtending (serve : State → State) (stall : Bool) (s : State) : State :=
  let s := s.setPacker { s.packer with
    lastStroke := s.packer.stroke, limitTimer := .stopped, stallTimer := .stopped }
  let s := addFill (cycleFill s.cfg.fullStroke s.packer.stroke) s
  let s := releaseRequest .packer s
  enterDwelling serve (s.setPacker { s.packer with
    cycles := bump s.packer.cycles
    stalls := if stall then bump s.packer.stalls else s.packer.stalls })

/-- Extending begins (R167). -/
def beginExtending (serve : State → State) (s : State) : State :=
  let s := newRequest .packer .extending (s.setPacker { s.packer with
    state := .extending, stroke := 0, dumps := 0
    limitTimer := .running (s.now + s.cfg.extendLimit), stallTimer := .stopped })
  if s.role .pressureMax then endExtending serve true s else s

/-- Serves pack-pending when its four conditions hold (R166). A pack that ends in the handling that
begins it comes back to Parked and tests again; the number bounds these returns. -/
def servePending : Nat → State → State
  | 0, s => s
  | n + 1, s =>
    if s.packer.packPending && s.packReady then
      beginExtending (servePending n) (s.setPacker { s.packer with packPending := false })
    else s

/-- Tests pack-pending (R166). Serving it clears it, and only a station in Dump can set it again in
the same handling, which stops the test; so one return is enough. -/
def servePack (s : State) : State := servePending 2 s

/-- A Pack command (R165). -/
def pack (s : State) : Reply × State :=
  if !s.canStart then (.notReady, s)
  else if s.pairErrorOf .packer then (.sensorError, s)
  else if s.packer.state == .fault then (.busy, s)
  else if s.packReady then (.accepted, beginExtending servePack s)
  else (.accepted, s.setPacker { s.packer with packPending := true })

/-- Clears pack-pending without a pack (R166). -/
def clearPackPending (s : State) : State := s.setPacker { s.packer with packPending := false }

/-- A pulse on ENC (R167). -/
def encoderPulse (s : State) : State :=
  if s.packer.state == .extending then
    let s := s.setPacker { s.packer with
      stroke := satAdd 65535 s.packer.stroke 1
      stallTimer := if s.packer.stallTimer.isRunning then .running (s.now + s.cfg.stallTime)
        else s.packer.stallTimer }
    if s.cfg.fullStroke ≤ s.packer.stroke then endExtending servePack false s else s
  else s

/-- The packer enters Fault, other than from a start (R170), but for the blade tests that the change of
its state calls for. -/
def haltPacker (cause : PackerFault) (s : State) : State :=
  let s := releaseRequest .packer (s.setPacker { s.packer with
    state := .fault, paused := false, packPending := false, limitTimer := .stopped
    stallTimer := .stopped, dwellTimer := .stopped, pauseTimer := .stopped })
  let s := s.setPacker { s.packer with faults := bump s.packer.faults, lastFault := some cause }
  raiseNotice .packerFault s

/-- The packer enters Fault by itself, and every Blade wait tests again (R57, R170). -/
def packerFault (cause : PackerFault) (s : State) : State := bladeTests (haltPacker cause s)

/-- Packer Recover (R170). -/
def packerRecover (s : State) : Reply × State :=
  if s.packer.state != .fault then (.notInFault, s)
  else if !s.scanOk then (.notReady, s)
  else if s.pairErrorOf .packer then (.sensorError, s)
  else (.accepted, enterRetracting servePack s)

/-- The packer in motion (R41). -/
def State.packerMoving (s : State) : Bool :=
  match s.packer.state with
  | .extending | .dwelling | .retracting => true
  | _ => false

/-- The packer after an event of its inputs (R36, R167, R168). -/
def packerInputs (s : State) : State :=
  match s.packer.state with
  | .extending => if s.role .pressureMax then endExtending servePack true s else s
  | .retracting => if s.packerHome then enterParked servePack s else s
  | _ => s

/-- The stall timer expires (R167). -/
def stallExpiry (s : State) : State :=
  onExpiry s.packer.stallTimer s fun _ s => endExtending servePack true s

/-- The Extend Limit or Retract Limit timer of a packer phase expires (R167, R168). -/
def packerLimitExpiry (phase : PackerState) (cause : PackerFault) (s : State) : State :=
  if s.packer.state = phase then
    onExpiry s.packer.limitTimer s fun _ s => packerFault cause s
  else s

/-- The Dwell timer expires (R168). -/
def dwellExpiry (s : State) : State :=
  onExpiry s.packer.dwellTimer s fun _ s => enterRetracting servePack s

/-- The packer's pause timer expires (R170). -/
def packerPauseExpiry (s : State) : State :=
  onExpiry s.packer.pauseTimer s fun _ s => packerFault .pauseLimit s

/-- At Scan Ready the packer takes its start state from Packer Home (R176). A Fault from a start is
neither counted nor recorded (R170), and raises the notice. -/
def packerStart (s : State) : State :=
  if !s.role .packerHome && s.configured && s.tailgate.marker == .clear then
    raiseNotice .packerFault (s.setPacker { s.packer with
      state := .fault, packPending := false })
  else s

end Sys2Proof.Machine
end

