-- ==== Sys2Proof/Machine/Unloading.lean ====
section
/-! DEFINITION. The Tailgate Controller (10), but for what it asks of the Billing Engine. -/

namespace Sys2Proof.Machine

/-- The home position that Closing ends at: Tailgate Closed and Tailgate Locked active (R174). -/
def State.tailgateShut (s : State) : Bool := s.role .tailgateClosed && s.role .tailgateLocked

/-- Both tailgate inputs inactive (R174). -/
def State.tailgateOpen (s : State) : Bool := !s.role .tailgateClosed && !s.role .tailgateLocked

/-- Writes the tailgate's marker. -/
def setTailgateMarker (m : TailgateMarker) (s : State) : State :=
  s.setTailgate { s.tailgate with marker := m }

/-- The tailgate enters Closed (R174); entering it tests pack-pending (R166). -/
def enterClosed (s : State) : State :=
  let s := releaseRequest .tailgate (s.setTailgate { s.tailgate with limitTimer := .stopped })
  servePack (s.setTailgate { s.tailgate with state := .closed, marker := .clear })

/-- The tailgate enters Closing and tests its inputs (R174). -/
def enterClosing (s : State) : State :=
  let s := s.setTailgate { s.tailgate with
    state := .closing, unloadPending := false, openTimer := .stopped, limitTimer := .stopped
    ejectTimer := .stopped }
  if s.tailgateShut then enterClosed s
  else
    newRequest .tailgate .closing (s.setTailgate { s.tailgate with
      limitTimer := .running (s.now + s.cfg.closingLimit) })

/-- The tailgate enters Ejecting (R174). -/
def enterEjecting (s : State) : State :=
  changeDemand .tailgate .ejecting (setTailgateMarker .ejecting (s.setTailgate { s.tailgate with
    state := .ejecting, openReached := false, openTimer := .stopped, limitTimer := .stopped
    ejectTimer := .running (s.now + s.cfg.ejectTime) }))

/-- Tests the end of Opening (R174). -/
def openingTest (s : State) : State :=
  if s.tailgate.state == .opening && s.tailgate.openReached && s.tailgateOpen then enterEjecting s
  else s

/-- The tailgate enters Opening with its run timer at 0 (R174). -/
def enterOpening (s : State) : State :=
  let now := s.now
  let s := s.setTailgate { s.tailgate with
    state := .opening
    openReached := decide (s.cfg.openTime = 0)
    openTimer := if s.cfg.openTime = 0 then .stopped else .running (now + s.cfg.openTime)
    limitTimer := .running (now + s.cfg.openingLimit) }
  openingTest (newRequest .tailgate .opening s)

/-- The run timer reaches Open Time (R174). -/
def openTimeReached (s : State) : State :=
  onExpiry s.tailgate.openTimer s fun _ s =>
    openingTest (s.setTailgate { s.tailgate with openReached := true, openTimer := .stopped })

/-- The tailgate after an event of its inputs (R36, R174). -/
def tailgateInputs (s : State) : State :=
  match s.tailgate.state with
  | .opening => openingTest s
  | .closing => if s.tailgateShut then enterClosed s else s
  | _ => s

/-- The tailgate in motion (R41). -/
def State.tailgateMoving (s : State) : Bool :=
  match s.tailgate.state with
  | .opening | .ejecting | .closing => true
  | _ => false

/-- The tailgate's commit is reported (R174): an Unload is counted, and an Unload Pending tailgate
enters Closing. -/
def reportUnload (s : State) : State :=
  let s := s.setTailgate { s.tailgate with unloads := bump s.tailgate.unloads }
  if s.tailgate.unloadPending then enterClosing s else s

/-! ### The Charge Queue's reservations (R139) -/

/-- Whether a holder holds a reservation. -/
def Queue.holds (q : Queue) : Holder → Bool
  | .station st => q.heldSt.get st
  | .tailgate => q.heldTailgate

/-- Reserved: the number of holders that hold a reservation. -/
def Queue.reserved (q : Queue) : Nat :=
  flagNat q.heldSt.side + flagNat q.heldSt.left + flagNat q.heldSt.right + flagNat q.heldTailgate

/-- Takes or gives up a holder's reservation. -/
def Queue.setHeld (q : Queue) (h : Holder) (b : Bool) : Queue :=
  match h with
  | .station st => { q with heldSt := q.heldSt.set st b }
  | .tailgate => { q with heldTailgate := b }

/-- Whether a reservation is granted (R139). -/
def Queue.grants (q : Queue) (h : Holder) : Bool :=
  decide (q.count + q.reserved < Config.queueSlots) && !q.holds h

/-- A holder takes a reservation. -/
def reserve (h : Holder) (s : State) : State := s.setQueue (s.queue.setHeld h true)

/-- A holder returns its reservation. -/
def unreserve (h : Holder) (s : State) : State := s.setQueue (s.queue.setHeld h false)

/-! ### Unload (R173) -/

/-- An Unload command (R173). -/
def unload (s : State) : Reply × State :=
  if !s.canStart then (.notReady, s)
  else if s.tailgate.state != .closed then (.busy, s)
  else if s.pairErrorOf .tailgate then (.sensorError, s)
  else if !s.signals.tailgatePermit then (.permit, s)
  else if !(stations.all (fun st => (s.lift st).state == .idle) && s.packer.state == .parked) then
    (.busy, s)
  else if !s.queue.grants .tailgate then (.queueFull, s)
  else (.accepted, enterOpening (setTailgateMarker .opening (reserve .tailgate s)))

end Sys2Proof.Machine
end

