-- ==== Sys2Proof/Machine/Timekeeping.lean ====
section
/-! DEFINITION. The Clock, the Totals and the Snapshot buffers (11). -/

namespace Sys2Proof.Machine

/-! ### Totals (R182) -/

/-- The twelve totals, in the order of their words. -/
inductive Total where
  | liftsStarted | charged | repeated | exempt | unidentified | refused | aborted | incomplete
  | unload | tippedMass | chargeTotal | clockSteps
  deriving DecidableEq, Repr

/-- The word number of a total. -/
def Total.index : Total → Nat
  | .liftsStarted => 0
  | .charged => 1
  | .repeated => 2
  | .exempt => 3
  | .unidentified => 4
  | .refused => 5
  | .aborted => 6
  | .incomplete => 7
  | .unload => 8
  | .tippedMass => 9
  | .chargeTotal => 10
  | .clockSteps => 11

/-- The address of a total's word (13). -/
def totalAddr (t : Total) : Nat := 0x63000 + 4 * t.index

/-- A total's value. -/
def State.total (s : State) (t : Total) : Nat := s.store.num (totalAddr t) 4

/-- Raises a total, saturating. -/
def addTotal (t : Total) (n : Nat) (s : State) : State :=
  s.setStore (s.store.putNum (totalAddr t) 4 (satAdd 0xFFFFFFFF (s.total t) n))

/-- Clear Totals: all twelve totals become 0. -/
def clearTotals (s : State) : State := s.setStore (s.store.writeBytes 0x63000 (List.replicate 48 0))

/-! ### The Clock (R178 to R181) -/

/-- The value after the next second: after 4,294,967,295 it is 1 (R178). -/
def nextSecond (n : Nat) : Nat := if n = 0xFFFFFFFF then 1 else n + 1

/-- The seconds count advances (R178). -/
def secondAdvance (s : State) : State :=
  onExpiry s.clock.tick s fun e s =>
    s.setClock { s.clock with
      seconds := nextSecond s.clock.seconds, tick := .running (e + Config.second) }

/-- The step of R181. -/
def clockStep (s : State) : State :=
  let s := s.setClock { s.clock with stepCount := bump s.clock.stepCount, stepped := true }
  raiseNotice .clockStepped (addTotal .clockSteps 1 s)

/-- The magnitude of the difference of two counts. -/
def apart (a b : Nat) : Nat := (a - b) + (b - a)

/-- Set Clock with a value other than 0 (R179). -/
def setClockTo (v : Nat) (s : State) : State :=
  let old := s.clock
  let s := s.setClock { old with seconds := v }
  if !old.valid then s.setClock { s.clock with valid := true, syncsSet := bump old.syncsSet }
  else if s.cfg.syncTolerance < apart v old.seconds then clockStep s
  else s

/-- One more in Sync Ignored. -/
def ignoreSync (s : State) : State :=
  s.setClock { s.clock with syncIgnored := bump s.clock.syncIgnored }

/-- A synchronisation sample (R180). -/
def syncSample (v : Nat) (s : State) : State :=
  let s := s.setClock { s.clock with syncSamples := bump s.clock.syncSamples }
  if v = 0 then ignoreSync s
  else if !s.clock.valid then
    s.setClock { s.clock with seconds := v, valid := true, syncsSet := bump s.clock.syncsSet }
  else if apart v s.clock.seconds ≤ s.cfg.syncTolerance then ignoreSync s
  else clockStep (s.setClock { s.clock with seconds := v })

/-! ### States as codes (R18, 13) -/

/-- A station state's code. -/
def StationState.code : StationState → Nat
  | .idle => 0
  | .engage => 1
  | .raise => 2
  | .hold => 3
  | .dump => 4
  | .lower => 5
  | .release => 6
  | .homing => 7
  | .fault => 8

/-- A packer state's code. -/
def PackerState.code : PackerState → Nat
  | .parked => 0
  | .extending => 1
  | .dwelling => 2
  | .retracting => 3
  | .fault => 4

/-- A tailgate state's code. -/
def TailgateState.code : TailgateState → Nat
  | .closed => 0
  | .opening => 1
  | .ejecting => 2
  | .closing => 3
  | .fault => 4

/-- A table state's code. -/
def TableState.code : TableState → Nat
  | .closed => 0
  | .opened => 1
  | .checking => 2
  | .invalid => 3

/-- A slot state's code. -/
def SlotState.code : SlotState → Nat
  | .never => 0
  | .fresh => 1
  | .holding => 2
  | .degraded => 3

/-- Bits put together: each value at its shift. -/
def packBits (l : List (Nat × Nat)) : Nat := l.foldl (fun a p => a + p.1 * 2 ^ p.2) 0

/-- The fault summary of the Body Status frame, bits 0 to 9 in the order of R18. -/
def State.faultSummary (s : State) : Nat :=
  packBits [
    (flagNat (stations.any fun st => (s.lift st).state == .fault), 0),
    (flagNat (s.packer.state == .fault), 1),
    (flagNat (s.tailgate.state == .fault), 2),
    (flagNat s.eStop, 3),
    (flagNat (s.scanner.pairErrors != 0), 4),
    (flagNat s.body.off, 5),
    (flagNat (s.table.state != .closed), 6),
    (flagNat (decide (s.queue.count + s.queue.reserved = Config.queueSlots)), 7),
    (flagNat (!s.clock.valid), 8),
    (flagNat (!s.configured), 9)]

/-- Bytes 0 to 2 of the Body Status frame and of the Status snapshot (13). -/
def State.stateBytes (s : State) : List Byte :=
  [BitVec.ofNat 8 (packBits [((s.lift .sideArm).state.code, 0), ((s.lift .rearLeft).state.code, 4)]),
   BitVec.ofNat 8 (packBits [((s.lift .rearRight).state.code, 0), (s.packer.state.code, 4),
     (flagNat s.payload.bodyFull, 7)]),
   BitVec.ofNat 8 s.tailgate.state.code]

/-! ### Snapshots (R183, R184) -/

/-- The 16 bytes of the Status snapshot (13). -/
def State.statusBytes (s : State) : List Byte :=
  s.stateBytes ++
    [BitVec.ofNat 8 (packBits [(s.table.state.code, 0), (flagNat s.table.busy, 2)]),
     BitVec.ofNat 8 s.queue.reserved] ++
    leBytes 2 s.queue.count ++ [BitVec.ofNat 8 (fillIndex s.payload.fills)] ++
    leBytes 4 s.payload.mass ++
    leBytes 2 (packBits (slotIds.map fun k => ((s.slot k).state.code, 2 * k.num))) ++
    [BitVec.ofNat 8 (packBits [(flagNat s.tags.overrun, 0), (flagNat s.clock.valid, 1),
       (flagNat s.clock.stepped, 2), (flagNat s.configured, 3), (flagNat s.mode.maintenance, 4)]), 0]

/-- The 48 bytes of the Totals snapshot. -/
def State.totalsBytes (s : State) : List Byte := s.store.readBytes 0x63000 48

/-- Latches an Unlatched buffer (R183). -/
def SnapBuf.latch (bytes : List Byte) (b : SnapBuf) : SnapBuf :=
  if b.latched then b else ⟨true, bytes, 0⟩

/-- The word at a buffer's read position (R184). -/
def SnapBuf.word (b : SnapBuf) : List Byte := (b.bytes.drop (4 * b.pos)).take 4

/-- A buffer after a word is taken; after its last word it is Unlatched and keeps no copy (R184). -/
def SnapBuf.advance (b : SnapBuf) : SnapBuf :=
  if b.bytes.length ≤ 4 * (b.pos + 1) then ⟨false, List.replicate b.bytes.length 0, 0⟩
  else { b with pos := b.pos + 1 }

/-- One read of the Snapshot Port: the word it takes, and the buffers after it (R184). -/
def Snaps.take (p : Snaps) : List Byte × Snaps :=
  if p.status.latched then (p.status.word, { p with status := p.status.advance })
  else if p.totals.latched then (p.totals.word, { p with totals := p.totals.advance })
  else (List.replicate 4 0, p)

end Sys2Proof.Machine
end

