-- ==== Sys2Proof/Machine/Charging.lean ====
section
/-! DEFINITION. The Billing Engine and the Charge Queue (08), with the Release phase of a station that
a commit report begins (R63, R64). -/

namespace Sys2Proof.Machine

/-! ### Release (R63, R64) -/

/-- The end condition of Release. -/
def State.releaseDone (s : State) (st : Station) : Bool :=
  !s.stationRole .gripped st && s.stationRole .stowed st

/-- Release ends (R64). -/
def endRelease (st : Station) (s : State) : State :=
  let s := releaseRequest (.station st) (s.setLift st { s.lift st with phaseTimer := .stopped })
  let s := if s.cfg.rotating then setGroupLowest st s else s
  s.setLift st { s.lift st with state := .idle }

/-- A station enters Release and tests its end (R63). -/
def enterRelease (st : Station) (s : State) : State :=
  let s := s.setLift st { s.lift st with
    state := .release, chargePending := false
    phaseTimer := .running (s.now + s.cfg.releaseLimit st) }
  let s := if st.isSide then newRequest (.station st) .release s else s
  if s.releaseDone st then endRelease st s else s

/-- The commit of a station's record is reported (R63, R129): its Lift Record is emptied, its register
may empty (R79), and a Charge Pending station enters Release. -/
def reportStation (st : Station) (s : State) : State :=
  let s := settleAssigned (s.setLift st { s.lift st with record := none }) st
  if (s.lift st).state == .lower && (s.lift st).chargePending then enterRelease st s else s

/-! ### Outcomes and prices (R128 to R135) -/

/-- The eight outcomes, in the order of their codes. -/
inductive Outcome where
  | charged | repeated | exempt | unidentified | refused | aborted | incomplete | unload
  deriving DecidableEq, Repr

/-- An outcome's code (13). -/
def Outcome.code : Outcome → Nat
  | .charged => 0
  | .repeated => 1
  | .exempt => 2
  | .unidentified => 3
  | .refused => 4
  | .aborted => 5
  | .incomplete => 6
  | .unload => 7

/-- The total that counts an outcome (R182). -/
def Outcome.total : Outcome → Total
  | .charged => .charged
  | .repeated => .repeated
  | .exempt => .exempt
  | .unidentified => .unidentified
  | .refused => .refused
  | .aborted => .aborted
  | .incomplete => .incomplete
  | .unload => .unload

/-- The tipped outcomes (R134, R171). -/
def Outcome.tipped : Outcome → Bool
  | .refused | .aborted | .unload => false
  | _ => true

/-- A household as a request carries it: its tag, its account, its tariff class and its status. -/
structure Household where
  tag : Nat
  account : Nat
  tariff : Nat
  status : HouseStatus
  deriving DecidableEq, Repr

/-- The household of a Lift Record's snapshot. -/
def LiftRecord.household (r : LiftRecord) : Option Household :=
  r.snapshot.map fun sn => ⟨r.tag.getD 0, sn.account, sn.tariff, sn.status⟩

/-- The household of a marker, priced as for status Active (R128). -/
def Marker.household (m : Marker) : Option Household :=
  if m.account = 0 then none else some ⟨m.tag, m.account, m.tariff, .active⟩

/-- The household that a request carries. -/
def BillKind.household : BillKind → Option Household
  | .charge r => r.household
  | .fault r _ => r.household
  | .start m _ => m.household
  | .unload => none

/-- Whether a request makes a counter access, and for which household (R129 step 2). -/
def BillKind.access : BillKind → Option Household
  | .charge r => r.household
  | .fault r inc => if inc then r.household else none
  | .start m inc => if inc then m.household else none
  | .unload => none

/-- The mass figures of a station's request (R101 to R103). -/
def BillKind.figures (c : Mem) (st : Station) : BillKind → Figures
  | .charge r => liftFigures c st r
  | .fault r inc =>
    if inc then incompleteFigures c st r.gross (binOf r.snapshot) else abortedFigures r.gross
  | .start m inc => if inc then incompleteFigures c st m.gross m.bin else abortedFigures m.gross
  | .unload => Figures.zero

/-- The repeat test on a Found record's counters (R131). -/
def State.isRepeat (s : State) (k : Counters) : Bool :=
  decide (s.cfg.repeatInterval ≠ 0) && s.clock.valid && decide (k.lastTime ≠ 0) &&
    decide (k.lastTime ≤ s.clock.seconds) &&
    decide (s.clock.seconds - k.lastTime ≤ s.cfg.repeatInterval)

/-- The mass charge of R132: the band split at the Threshold, each band priced and rounded alone. -/
def massCharge (threshold r1 r2 period m : Nat) : Nat :=
  let m1 := if period < threshold then min m (threshold - period) else 0
  (m1 * r1 + 5) / 10 + ((m - m1) * r2 + 5) / 10

/-- A price: the charge, with the marks Allowance Used and Capped. -/
structure Price where
  charge : Nat
  allowanceUsed : Bool
  capped : Bool
  deriving DecidableEq, Repr

/-- No charge. -/
def Price.zero : Price := ⟨0, false, false⟩

/-- The price of a Charged, Repeat or Incomplete lift (R132, R133). -/
def State.price (s : State) (tariff m : Nat) : CounterAnswer → Price
  | .found _ noWaiver k => go k.mass (s.isRepeat k && !noWaiver) (decide (0 < k.allowance))
  | _ => go 0 false false
where
  /-- The price from the period mass, the repeat waiver and the allowance. -/
  go (period : Nat) (waived allowance : Bool) : Price :=
    let c := s.cfg
    let fee := if waived || allowance then 0 else c.liftFee tariff
    let sum := fee + massCharge (c.threshold tariff) (c.rate1 tariff) (c.rate2 tariff) period m
    let cap := c.perLiftCap tariff
    let capped := decide (cap ≠ 0) && decide (cap < sum)
    ⟨if capped then cap else sum, !waived && allowance, capped⟩

/-- The outcome of a request (R128), after the counter access. -/
def State.outcome (s : State) (k : BillKind) (a : Option CounterAnswer) : Outcome :=
  match k with
  | .charge r =>
    if r.admission = .refused then .refused
    else
      match r.snapshot with
      | none => .unidentified
      | some sn =>
        if sn.status = .exempt then .exempt
        else
          match a with
          | some (.found _ _ c) => if s.isRepeat c then .repeated else .charged
          | _ => .charged
  | .fault _ inc => if inc then .incomplete else .aborted
  | .start _ inc => if inc then .incomplete else .aborted
  | .unload => .unload

/-- Whether an outcome of a household is priced (R133, R134): Charged, Repeat, and Incomplete unless
the status is Exempt. -/
def Outcome.priced (o : Outcome) (h : Household) : Bool :=
  match o with
  | .charged | .repeated => true
  | .incomplete => h.status != .exempt
  | _ => false

/-- The charge of a station's request (R132 to R134). -/
def State.charge (s : State) (o : Outcome) (k : BillKind) (m : Nat) (a : Option CounterAnswer) :
    Price :=
  match k.household, a with
  | some h, some ans => if o.priced h then s.price h.tariff m ans else Price.zero
  | _, _ => Price.zero

/-- The counters after a charged lift or an Exempt one (R135). -/
def State.chargedCounters (s : State) (m : Nat) (p : Price) (override : Bool) (k : Counters) :
    Counters :=
  { k with
    mass := satAdd 0xFFFFFFFF k.mass m
    lifts := satAdd 0xFFFF k.lifts 1
    charge := satAdd 0xFFFFFFFF k.charge p.charge
    lastTime := if s.clock.valid then s.clock.seconds else k.lastTime
    lastMass := m
    allowance := if p.allowanceUsed then k.allowance - 1 else k.allowance
    overrides := if override then satAdd 255 k.overrides 1 else k.overrides }

/-- The new counters of a Found record by the outcome (R135). -/
def State.newCounters (s : State) (o : Outcome) (m : Nat) (p : Price) (override : Bool)
    (k : Counters) : Counters :=
  match o with
  | .charged | .repeated | .incomplete | .exempt => s.chargedCounters m p override k
  | .refused => { k with refused := satAdd 255 k.refused 1 }
  | _ => k

/-! ### The Charge Record (R136 to R138) -/

/-- A Charge Record, but for its Sequence and its last flag. -/
structure ChargeRecord where
  account : Nat
  station : Nat
  tag : Nat
  outcome : Outcome
  flags : BitVec 32
  gross : Nat
  tare : Nat
  net : Nat
  billed : Nat
  charge : Nat
  deriving DecidableEq, Repr

/-- Whether a request's lift carries Override: its admission is Overridden (R137). -/
def BillKind.override : BillKind → Bool
  | .charge r => r.admission == .overridden
  | .fault r _ => r.admission == .overridden
  | _ => false

/-- The weighing and tag flags of R137, which a record takes from its lift. -/
def carriedFlags : BitVec 32 :=
  LiftFlag.unstableGross.mask ||| LiftFlag.missingGross.mask ||| LiftFlag.defaultTare.mask |||
    LiftFlag.negativeNet.mask ||| LiftFlag.overCapacity.mask ||| LiftFlag.tiltOutOfRange.mask |||
    LiftFlag.tiltUnknown.mask ||| LiftFlag.nodeLost.mask ||| LiftFlag.ambiguousTag.mask |||
    LiftFlag.lateTag.mask

/-- The flags that a request carries into the record (R137): the weighing and tag flags of its copy of the
Lift Record, and Override, which follows the admission. -/
def BillKind.liftFlags (k : BillKind) : BitVec 32 :=
  let f : BitVec 32 := match k with
    | .charge r => r.flags
    | .fault r _ => r.flags
    | _ => 0
  (f &&& carriedFlags) ||| flagIf k.override .override

/-- The tag that a request carries. -/
def BillKind.tag : BillKind → Nat
  | .charge r => r.tag.getD 0
  | .fault r _ => r.tag.getD 0
  | .start m _ => m.tag
  | .unload => 0

/-- The account that a request carries (R136). -/
def BillKind.account (k : BillKind) : Nat :=
  match k.household with
  | some h => h.account
  | none => 0

/-- The record of a station's request (R136), from the mass figures `g` of step 1 of R129. -/
def State.liftRecordOf (s : State) (st : Station) (k : BillKind) (g : Figures)
    (a : Option CounterAnswer) : ChargeRecord :=
  let o := s.outcome k a
  let p := s.charge o k g.billed a
  let gone := match a with
    | some .gone => true
    | some .unavailable => true
    | _ => false
  { account := k.account, station := st.num, tag := k.tag, outcome := o
    flags := k.liftFlags ||| g.flags ||| flagIf p.allowanceUsed .allowanceUsed |||
      flagIf p.capped .capped ||| flagIf gone .recordGone
    gross := g.gross, tare := g.tare, net := g.net, billed := g.billed, charge := p.charge }

/-- The Unload record (R138). -/
def State.unloadRecord (s : State) : ChargeRecord :=
  { account := 0, station := 3, tag := 0, outcome := .unload, flags := 0, gross := 0, tare := 0
    net := 0, billed := min s.payload.mass 0xFFFF, charge := s.payload.mass }

/-- The 32 bytes of a Charge Record (13). -/
def ChargeRecord.bytes (r : ChargeRecord) (seq time : Nat) (last : Bool) : List Byte :=
  leBytes 4 seq ++ leBytes 4 time ++ leBytes 3 r.account ++ leBytes 1 r.station ++
    leBytes 5 r.tag ++ leBytes 1 r.outcome.code ++
    leBytes 2 (r.flags ||| flagIf last .clockStepped).toNat ++ leBytes 2 r.gross ++
    leBytes 2 r.tare ++ leBytes 2 r.net ++ leBytes 2 r.billed ++ leBytes 4 r.charge

/-! ### Commit (R129, R140) -/

/-- The address of a Charge Queue slot. -/
def slotBase (i : Nat) : Nat := 0x60000 + 32 * i

/-- The number after a Sequence Number: after 4,294,967,295 it is 1 (R140). -/
def nextSeq (n : Nat) : Nat := if n = 0xFFFFFFFF then 1 else n + 1

/-- The Charge Level condition (R141). -/
def State.chargeLevel (s : State) : Bool := decide (s.cfg.noticeLevel ≤ s.queue.count)

/-- Writes a record at the tail and moves the queue's items (R140). With a valid clock a pending Clock
Stepped mark is carried and cleared; with an invalid one the flag reads as Clock Unset (R137). -/
def commitRecord (h : Holder) (r : ChargeRecord) (s : State) : State :=
  let q := s.queue
  let last := !s.clock.valid || s.clock.stepped
  let time := if s.clock.valid then s.clock.seconds else 0
  let slot := (q.head + q.count) % Config.queueSlots
  let s := s.setStore (s.store.writeBytes (slotBase slot) (r.bytes q.nextSeq time last))
  let s := if s.clock.valid then s.setClock { s.clock with stepped := false } else s
  s.setQueue { q.setHeld h false with
    count := q.count + 1, nextSeq := nextSeq q.nextSeq, commits := bump q.commits }

/-- What a commit does to the holder's retained marker (R140). -/
def commitMarker (h : Holder) (s : State) : State :=
  match h with
  | .station st => s.setMarker st Marker.clear
  | .tailgate => setTailgateMarker .closing s

/-- A committed record goes to the Payload Accumulator (R129 step 6, R171). -/
def handPayload (r : ChargeRecord) (s : State) : State :=
  if r.outcome = .unload then testBodyFull (s.setPayload { s.payload with mass := 0, fills := [] })
  else if r.outcome.tipped then
    testBodyFull (s.setPayload { s.payload with
      mass := satAdd 0xFFFFFFFF s.payload.mass r.billed })
  else s

/-- A committed record goes to the Totals (R182). -/
def handTotals (r : ChargeRecord) (s : State) : State :=
  let s := addTotal r.outcome.total 1 s
  let s := if r.outcome.tipped then addTotal .tippedMass r.billed s else s
  if r.outcome = .unload then s else addTotal .chargeTotal r.charge s

/-- The write-back of the counters after a Found answer (R135). -/
def writeBack (k : BillKind) (r : ChargeRecord) (p : Price) (a : Option CounterAnswer) (s : State) :
    State :=
  match a with
  | some (.found pos _ c) =>
    s.setStore (s.store.putCounters pos (s.newCounters r.outcome r.billed p k.override c))
  | _ => s

/-- The report of a commit to its holder (R63, R129 step 7, R174). -/
def report (h : Holder) (s : State) : State :=
  match h with
  | .station st => reportStation st s
  | .tailgate => reportUnload s

/-- Counts a served request and its Record Gone, Table Unavailable and Capped answers (R143). -/
def countServed (a : Option CounterAnswer) (capped : Bool) (s : State) : State :=
  let b := s.billing
  s.setBilling { b with
    served := bump b.served
    recordGone := if a = some .gone then bump b.recordGone else b.recordGone
    unavailable := if a = some .unavailable then bump b.unavailable else b.unavailable
    capped := if capped then bump b.capped else b.capped }

/-- The mass figures of a request (R129 step 1); an Unload request takes its own by R138. -/
def BillReq.figures (c : Mem) (q : BillReq) : Figures :=
  match q.holder with
  | .station st => q.kind.figures c st
  | .tailgate => Figures.zero

/-- The record that a request commits. -/
def State.recordOf (s : State) (q : BillReq) (g : Figures) (a : Option CounterAnswer) :
    ChargeRecord :=
  match q.holder with
  | .station st => s.liftRecordOf st q.kind g a
  | .tailgate => s.unloadRecord

/-- Completes the request at the head (R129 steps 3 to 7), given its mass figures and the answer to its
counter access. -/
def completeRequest (q : BillReq) (g : Figures) (a : Option CounterAnswer) (s : State) : State :=
  let r := s.recordOf q g a
  let p := s.charge r.outcome q.kind r.billed a
  let below := !s.chargeLevel
  let s := s.setBilling { s.billing with list := s.billing.list.tail, waiting := none }
  let s := writeBack q.kind r p a s
  let s := commitMarker q.holder (commitRecord q.holder r s)
  let s := if below && s.chargeLevel then raiseNotice .chargeLevel s else s
  let s := handTotals r (handPayload r s)
  report q.holder (countServed a p.capped s)

/-- The counter access of a request is answered and the request completed (R112, R129). -/
def answerCounter (q : BillReq) (g : Figures) (h : Household) (s : State) : State :=
  let a := s.accessResult h.tag h.account
  completeRequest q g (some a) (countAccess a s)

/-- Serves the request at the head (R129): its mass figures, then its counter access. A counter access
that meets a Busy table waits, and the engine with it. -/
def serveHead (q : BillReq) (s : State) : State :=
  let g := q.figures s.cfg
  match q.kind.access with
  | none => completeRequest q g none s
  | some h =>
    if s.table.moving then
      (s.setBilling { s.billing with waiting := some g }).setTable
        { s.table with waiting := s.table.waiting ++ [.counter] }
    else answerCounter q g h s

/-- Serves the Request List from its head while the engine is Free (R127). The number bounds the
requests served; the list holds no more. -/
def serveRequests : Nat → State → State
  | 0, s => s
  | n + 1, s =>
    match s.billing.waiting, s.billing.list with
    | none, q :: _ => serveRequests n (serveHead q s)
    | _, _ => s

/-- Serves what stands in the Request List. -/
def serveBilling (s : State) : State := serveRequests s.billing.list.length s

/-- A request joins the tail of the Request List and is served as the list allows (R127). -/
def makeRequest (q : BillReq) (s : State) : State :=
  serveBilling (s.setBilling { s.billing with list := s.billing.list ++ [q] })

/-- The waiting counter access is served when the table leaves Busy (R111), and its request goes on
(R127). The requests behind it wait until the whole Waiting List has been served. -/
def serveCounter (s : State) : State :=
  match s.billing.waiting, s.billing.list with
  | some g, q :: _ =>
    match q.kind.access with
    | some h => answerCounter q g h s
    | none => s
  | _, _ => s

/-- Release (R142): the number of records removed, and the state after. -/
def releaseRecords (n : Nat) (s : State) : Nat × State :=
  let k := min n s.queue.count
  (k, s.setQueue { s.queue with
    head := (s.queue.head + k) % Config.queueSlots, count := s.queue.count - k
    released := satAdd 0xFFFF s.queue.released k })

end Sys2Proof.Machine
end

