-- ==== Sys2Proof/Machine/Lifts.lean ====
section
/-! DEFINITION. The Lift Sequencer (04): lookups, Hold, Raise, Engage, Cycle Start, Lower, Fault and
Homing, with the tailgate's requests to the Billing Engine (10). -/

namespace Sys2Proof.Machine

/-! ### Hold (R56) -/

/-- Admission in Hold (R56): the lookup, the status, the identity, and at last the blade test. -/
def decideHold (st : Station) (s : State) : State :=
  let wait (w : WaitKind) : State := s.setLift st { s.lift st with wait := w }
  let enter : State := bladeTest st (s.onRecord st fun r => { r with admission := .admitted })
  match (s.lift st).record with
  | none => s
  | some r =>
    if r.lookupPending then wait .lookup
    else
      match r.snapshot with
      | some sn => if sn.status = .suspended then wait .status else enter
      | none => if s.cfg.unidentifiedTip then enter else wait .identity

/-- A station enters Hold (R56). -/
def enterHold (st : Station) (s : State) : State :=
  decideHold st (s.setLift st { s.lift st with
    state := .hold, holdTimer := .running (s.now + s.cfg.holdLimit) })

/-! ### Lookups (R54, R56, R110) -/

/-- Whether a lift takes the answer to a lookup of a tag: it asked for it, it has not been answered,
and no charge or fault request has been made (R54). -/
def LiftRecord.awaits (r : LiftRecord) (tag : Nat) : Bool :=
  r.lookupPending && !r.requested && r.tag == some tag

/-- A lookup's answer reaches its station (R54, R56). -/
def deliverLookup (st : Station) (tag : Nat) (res : Found) (s : State) : State :=
  match (s.lift st).record with
  | none => s
  | some r =>
    if r.awaits tag then
      let s := s.onRecord st fun r => { r with lookupPending := false }
      let s := match res with
        | .found sn =>
          writeMarker st (s.marker st).furthest (s.onRecord st fun r => { r with snapshot := some sn })
        | _ => s
      if (s.lift st).state == .hold && (s.lift st).wait == .lookup then decideHold st s else s
    else s

/-- A table that is not Busy answers a lookup and counts it (R110). -/
def answerLookup (st : Station) (tag : Nat) (s : State) : State :=
  let r := s.lookupResult tag
  deliverLookup st tag r (countLookup r s)

/-- A station asks for the lookup of its tag (R54, R110). -/
def askLookup (st : Station) (tag : Nat) (s : State) : State :=
  let s := s.onRecord st fun r => { r with lookupPending := true }
  if s.table.moving then waitLookup st tag s else answerLookup st tag s

/-- Serves one entry of the Waiting List (R111). -/
def serveWaiting (s : State) (w : Waiting) : State :=
  match w with
  | .lookup st tag => answerLookup st tag s
  | .counter => serveCounter s

/-- A move or walk ends: its retained update, then the Waiting List in arrival order, and only then, when
the Billing Engine's access was on it, the requests that the engine brings the table next (R111, R127). -/
def completeMove (s : State) : State :=
  let s := finishMove s
  let l := s.table.waiting
  let s := l.foldl serveWaiting (s.setTable { s.table with waiting := [] })
  if l.contains .counter then serveBilling s else s

/-! ### Raise and Engage (R54, R55) -/

/-- Raise ends (R55). -/
def endRaise (st : Station) (s : State) : State :=
  let s := writeMarker st .raised (fixGross st s)
  let s := releaseRequest (.station st) (s.setLift st { s.lift st with phaseTimer := .stopped })
  enterHold st s

/-- A station enters Raise (R51, R55). Its end condition is tested at entry (R36). -/
def enterRaise (st : Station) (s : State) : State :=
  let s := enterWeighing st (s.setLift st { s.lift st with
    state := .raise, phaseTimer := .running (s.now + s.cfg.raiseLimit st) })
  let s := if (s.request (.station st)).isSome then changeDemand (.station st) .raise s
    else newRequest (.station st) .raise s
  if s.stationRole .atTop st then endRaise st s else s

/-- Engage ends (R54). -/
def endEngage (st : Station) (s : State) : State :=
  let (a, s) := assignTag st s
  let s := match a with
    | .assigned tag =>
      askLookup st tag (s.onRecord st fun r => { r with tag := some tag, source := .engage })
    | .ambiguous => setFlag st .ambiguousTag s
    | .none => s
  enterRaise st (writeMarker st .engaged s)

/-- A station enters Engage (R54); a running Zero Capture is cancelled as it leaves Idle (R106). -/
def enterEngage (st : Station) (s : State) : State :=
  let s := cancelCapture st (s.setLift st { s.lift st with state := .engage })
  if st.isSide then
    let s := newRequest (.station st) .engage (s.setLift st { s.lift st with
      phaseTimer := .running (s.now + s.cfg.engageLimit st) })
    if s.stationRole .gripped st then endEngage st s else s
  else endEngage st s

/-! ### Cycle Start (R47, R48) -/

/-- The start position of a station (R47 test 5). -/
def State.inPosition (s : State) (st : Station) : Bool :=
  s.stationRole .stowed st && (s.stationRole .gripped st != st.isSide)

/-- The first test of R47 that an Idle station fails. -/
def State.startRefusal (s : State) (st : Station) : Option Refused :=
  if !(s.configured && !s.mode.maintenance) then some .notReady
  else if !s.scanOk then some .notReady
  else if !s.signals.liftPermit then some .permit
  else if s.pairErrorOf (.station st) then some .sensorError
  else if !s.inPosition st then some .notInPosition
  else if !s.queue.grants (.station st) then some .queueFull
  else if s.payload.bodyFull then some .bodyFull
  else if s.tailgate.state != .closed then some .unloading
  else none

/-- A new Lift Record (R48 step 2, R69). -/
def LiftRecord.fresh (liftNo start : Nat) : LiftRecord :=
  { liftNo := liftNo, start := start, tag := none, source := .none, snapshot := none, gross := none
    grade := .none, tare := none, tareSource := .none, pitch := 0, flags := 0, admission := .pending
    reachedDump := false, lookupPending := false, requested := false }

/-- An accepted Cycle Start (R48). The Lifts Started total is raised before the record takes it. -/
def acceptStart (st : Station) (s : State) : State :=
  let s := addTotal .liftsStarted 1 (reserve (.station st) s)
  let r := LiftRecord.fresh (s.total .liftsStarted) s.clock.seconds
  let s := writeMarker st .started (s.setLift st { s.lift st with record := some r })
  enterEngage st (applyPendingZero st s)

/-- A Cycle Start at a station (R47): why it was refused, or none when it was accepted. -/
def cycleStart (st : Station) (s : State) : Option Refused × State :=
  if (s.lift st).state != .idle then (some .busy, s)
  else
    match s.startRefusal st with
    | some r =>
      (some r, s.setLift st { s.lift st with
        startRefusals := bump (s.lift st).startRefusals, lastRefusal := some r })
    | none => (none, acceptStart st s)

/-! ### Late association (R74, R82) -/

/-- A read assigned late (R55, R82). -/
def lateRead (st : Station) (tag : Nat) (s : State) : State :=
  let s := assignLate st tag s
  askLookup st tag (s.onRecord st fun r => { r with
    tag := some tag, source := .late, flags := r.flags ||| LiftFlag.lateTag.mask })

/-- A delivered Tag Read (R74). -/
def tagRead (src : Byte) (tag : BitVec 40) (strength : Byte) (s : State) : State :=
  match stationOf s.cfg.readerNode src with
  | none => s.setTags { s.tags with ignored := bump s.tags.ignored }
  | some st =>
    if tag = 0 then s.setTags { s.tags with ignored := bump s.tags.ignored }
    else
      let s := s.setTags { s.tags with taken := bump s.tags.taken }
      if s.absorbs st tag.toNat then absorbRead st tag.toNat s
      else if s.openForLate st then lateRead st tag.toNat s
      else queueRead st tag.toNat strength.toNat s

/-! ### Lower (R62) -/

/-- Lower's movement ends (R62): the tare, the release of the flow, the charge request. The station is
Charge Pending before the request is served, since the report may come in the same handling. -/
def endLower (st : Station) (s : State) : State :=
  let s := fixTare st s
  let s := releaseRequest (.station st) (s.setLift st { s.lift st with phaseTimer := .stopped })
  let s := s.setLift st { s.lift st with chargePending := true }
  match (s.lift st).record with
  | none => s
  | some r =>
    makeRequest ⟨.station st, .charge r⟩ (s.onRecord st fun r => { r with requested := true })

/-- A station enters Lower from Dump or from Hold (R51, R62). -/
def enterLower (st : Station) (s : State) : State :=
  let s := enterWeighing st (s.setLift st { s.lift st with
    state := .lower, wait := .none, sub := .none, holdTimer := .stopped, seqTimer := .stopped
    phaseTimer := .running (s.now + s.cfg.lowerLimit st) })
  let s := if (s.request (.station st)).isSome then changeDemand (.station st) .lower s
    else newRequest (.station st) .lower s
  if s.stationRole .lowered st then endLower st s else s

/-- The sub-phase after one of Dump's; none after Dump Up (R61). -/
def nextSub (count : Nat) : DumpPhase → Option DumpPhase
  | .shakeUp k => some (.shakeBack k)
  | .shakeBack k => some (if k < count then .shakeUp (k + 1) else .dumpUp)
  | _ => none

/-- The sequence timer ends a sub-phase (R61); a station that leaves Dump tests pack-pending (R166). DESIGN
CHOICE (log entry 10): the whole entry into Lower comes before that test. -/
def sequenceExpiry (st : Station) (s : State) : State :=
  onExpiry (s.lift st).seqTimer s fun _ s =>
    match nextSub (s.cfg.shakeCount st) (s.lift st).sub with
    | some sub =>
      refreshValves (s.setLift st { s.lift st with
        sub := sub, seqTimer := .running (s.now + s.cfg.subLength st sub) })
    | none => servePack (enterLower st s)

/-! ### Return, Override and the hold timer (R58 to R60) -/

/-- A station in Hold is taken through a Return (R58). -/
def takeReturn (st : Station) (s : State) : State :=
  enterLower st (s.onRecord st fun r => { r with admission := .refused })

/-- Return (R58). -/
def returnLift (st : Station) (s : State) : Reply × State :=
  if (s.lift st).state != .hold then (.notInHold, s) else (.accepted, takeReturn st s)

/-- Override (R59). -/
def overrideLift (st : Station) (s : State) : Reply × State :=
  if (s.lift st).state != .hold then (.notInHold, s)
  else
    match (s.lift st).wait with
    | .status | .identity =>
      (.accepted, bladeTest st (s.onRecord st fun r => { r with
        admission := .overridden, flags := r.flags ||| LiftFlag.override.mask }))
    | _ => (.notPermitted, s)

/-- The hold timer expires (R60). -/
def holdExpiry (st : Station) (s : State) : State :=
  onExpiry (s.lift st).holdTimer s fun _ s =>
    let s := s.setLift st { s.lift st with holdTimeouts := bump (s.lift st).holdTimeouts }
    takeReturn st (setFlag st .holdTimeout s)

/-! ### Fault, Recover and Homing (R65, R66) -/

/-- A station in motion (R41). -/
def State.stationMoving (s : State) (st : Station) : Bool :=
  match (s.lift st).state with
  | .idle | .fault => false
  | _ => true

/-- The fault request of a station whose reservation is still its own (R65). -/
def faultRequest (st : Station) (s : State) : State :=
  match (s.lift st).record with
  | none => s
  | some r =>
    if r.requested then s
    else
      makeRequest ⟨.station st, .fault r r.reachedDump⟩
        (s.onRecord st fun r => { r with requested := true })

/-- The weighing of a station that faults (R65, R90, R95). -/
def faultWeighing (old : StationState) (st : Station) (s : State) : State :=
  if old == .raise || old == .lower then discardWeighing st s else endRun st s

/-- A station enters Fault, other than from a start (R65), but for the test of pack-pending that its
leaving Dump calls for. -/
def haltStation (st : Station) (cause : StationFault) (s : State) : State :=
  let old := (s.lift st).state
  let s := releaseRequest (.station st) (s.setLift st { s.lift st with
    state := .fault, paused := false, wait := .none, sub := .none, chargePending := false
    phaseTimer := .stopped, pauseTimer := .stopped, holdTimer := .stopped, seqTimer := .stopped })
  let s := faultRequest st (faultWeighing old st s)
  let s := s.setLift st { s.lift st with
    faults := bump (s.lift st).faults, lastFault := some cause }
  raiseNotice .stationFault s

/-- A station enters Fault by itself; one that leaves Dump so tests pack-pending (R65, R166). -/
def stationFault (st : Station) (cause : StationFault) (s : State) : State :=
  if (s.lift st).state == .dump then servePack (haltStation st cause s) else haltStation st cause s

/-- The cause of a phase timer's expiry (R50). -/
def StationState.timeout : StationState → Option StationFault
  | .engage => some .engageTimeout
  | .raise => some .raiseTimeout
  | .lower => some .lowerTimeout
  | .release => some .releaseTimeout
  | .homing => some .homingTimeout
  | _ => none

/-- A phase timer expires (R50). -/
def phaseExpiry (st : Station) (s : State) : State :=
  onExpiry (s.lift st).phaseTimer s fun _ s =>
    match (s.lift st).state.timeout with
    | some cause => stationFault st cause s
    | none => s

/-- A station's pause timer expires (R53). -/
def pauseExpiry (st : Station) (s : State) : State :=
  onExpiry (s.lift st).pauseTimer s fun _ s => stationFault st .pauseLimit s

/-- The home position of a station (R66). -/
def State.atHome (s : State) (st : Station) : Bool :=
  s.stationRole .stowed st && !(st.isSide && s.stationRole .gripped st)

/-- Homing ends (R66). -/
def endHoming (st : Station) (s : State) : State :=
  let s := releaseRequest (.station st) (s.setLift st { s.lift st with phaseTimer := .stopped })
  s.setLift st { s.lift st with state := .idle }

/-- A station enters Homing (R66): one already at home enters Idle at once and requests nothing. -/
def enterHoming (st : Station) (s : State) : State :=
  let s := s.setLift st { s.lift st with state := .homing }
  if s.atHome st then endHoming st s
  else
    newRequest (.station st) .homing (s.setLift st { s.lift st with
      phaseTimer := .running (s.now + s.cfg.homingLimit st) })

/-- Recover (R66). -/
def recover (st : Station) (s : State) : Reply × State :=
  if (s.lift st).state != .fault then (.notInFault, s)
  else if !s.scanOk then (.notReady, s)
  else if s.pairErrorOf (.station st) then (.sensorError, s)
  else (.accepted, enterHoming st s)

/-- A station after an event of its inputs (R36): it tests the end condition of its phase. -/
def stationInputs (st : Station) (s : State) : State :=
  match (s.lift st).state with
  | .engage => if s.stationRole .gripped st then endEngage st s else s
  | .raise => if s.stationRole .atTop st then endRaise st s else s
  | .lower =>
    if s.stationRole .lowered st && !(s.lift st).chargePending then endLower st s else s
  | .release => if s.releaseDone st then endRelease st s else s
  | .homing => if s.atHome st then endHoming st s else s
  | _ => s

/-! ### The tailgate's requests and Fault (R174, R175) -/

/-- Whether an Unload request of the tailgate waits at the Billing Engine. -/
def State.unloadWaits (s : State) : Bool := s.billing.list.any fun q => q.holder == .tailgate

/-- The eject timer ends (R174). The tailgate is Unload Pending before its request is served, since the
report may come in the same handling. -/
def ejectExpiry (s : State) : State :=
  onExpiry s.tailgate.ejectTimer s fun _ s =>
    let s := releaseRequest .tailgate (s.setTailgate { s.tailgate with ejectTimer := .stopped })
    makeRequest ⟨.tailgate, .unload⟩ (s.setTailgate { s.tailgate with unloadPending := true })

/-- The tailgate enters Fault, other than from a start (R175). -/
def tailgateFault (cause : TailgateFault) (s : State) : State :=
  let request := s.tailgate.state == .ejecting && !s.tailgate.unloadPending
  let s := releaseRequest .tailgate (s.setTailgate { s.tailgate with
    state := .fault, paused := false, unloadPending := false, openReached := false
    openTimer := .stopped, limitTimer := .stopped, ejectTimer := .stopped, pauseTimer := .stopped })
  let s := s.setTailgate { s.tailgate with
    faults := bump s.tailgate.faults, lastFault := some cause }
  let s := raiseNotice .tailgateFault s
  if request then makeRequest ⟨.tailgate, .unload⟩ s else s

/-- Opening Limit or Closing Limit runs out (R174). -/
def tailgateLimitExpiry (phase : TailgateState) (cause : TailgateFault) (s : State) : State :=
  if s.tailgate.state = phase then
    onExpiry s.tailgate.limitTimer s fun _ s => tailgateFault cause s
  else s

/-- The tailgate's pause timer expires (R175). -/
def tailgatePauseExpiry (s : State) : State :=
  onExpiry s.tailgate.pauseTimer s fun _ s => tailgateFault .pauseLimit s

/-- Tailgate Recover (R175). -/
def tailgateRecover (s : State) : Reply × State :=
  if s.tailgate.state != .fault then (.notInFault, s)
  else if !s.scanOk then (.notReady, s)
  else if s.pairErrorOf .tailgate then (.sensorError, s)
  else if s.unloadWaits then (.busy, s)
  else if s.queue.heldTailgate then (.accepted, enterOpening s)
  else (.accepted, enterClosing (setTailgateMarker .closing s))

/-! ### Operator commands (R67, R68) -/

/-- The codes of the operator commands (13). -/
inductive OpCode where
  | cycleStart | returnLift | override | recover | pack | unload | packerRecover | tailgateRecover
  deriving DecidableEq, Repr

/-- A command's code. -/
def OpCode.code : OpCode → Byte
  | .cycleStart => 1
  | .returnLift => 2
  | .override => 3
  | .recover => 4
  | .pack => 5
  | .unload => 6
  | .packerRecover => 7
  | .tailgateRecover => 8

/-- Answers an operator command with one Operator Reply to the Cab Node, which sent it (R67). -/
def sendReply (code : Byte) (tag : BitVec 4) (station : Byte) (r : Reply) (s : State) : State :=
  let cab := BitVec.ofNat 8 s.cfg.cabNode
  offerControl (s.bodyFrame .operatorReply cab tag [code, station, BitVec.ofNat 8 r.code]) false s

/-- Serves a command and answers it. -/
def served (code : OpCode) (tag : BitVec 4) (station : Byte) (p : Reply × State) : State :=
  sendReply code.code tag station p.1 p.2

/-- Serves a station command: a station field above 2 is answered Bad Station (R67). -/
def stationCommand (code : OpCode) (tag : BitVec 4) (station : Byte)
    (f : Station → State → Reply × State) (s : State) : State :=
  match Station.ofNum station.toNat with
  | none => served code tag station (.badStation, s)
  | some st => served code tag station (f st s)

/-- The Cycle Start command's reply: the station's own for the Side Arm, Not Permitted for a Rear
station (R67). -/
def operatorStart (st : Station) (s : State) : Reply × State :=
  if st.isSide then
    match cycleStart st s with
    | (none, s) => (.accepted, s)
    | (some r, s) => (r.reply, s)
  else (.notPermitted, s)

end Sys2Proof.Machine
end

