-- ==== Sys2Proof/Machine/Router.lean ====
section
/-! DEFINITION. The Signal Monitor (02) and the Frame Router's matching, taps, rate limits and Body
Status frame (01). -/

namespace Sys2Proof.Machine

/-! ### Values in force (R25, R26) -/

/-- The Degraded value of a slot (R25); Chassis Time has none and reads 0 (R26). A boolean is 1 for
set, engaged or selected. -/
def degradedValue : SlotId → Nat
  | .roadSpeed => 65535
  | .parkBrake => 0
  | .ptoEngaged => 0
  | .reverseSelected => 1
  | .engineSpeed => 0
  | .chassisTime => 0

/-- Whether a slot gives its last valid value: Fresh or Holding. -/
def Slot.live (x : Slot) : Bool := x.state == .fresh || x.state == .holding

/-- A slot's value in force. -/
def State.inForce (s : State) (k : SlotId) : Nat :=
  if (s.slot k).live then (s.slot k).value else degradedValue k

/-! ### Permits and capacity (R27, R28) -/

/-- The capacity that the Capacity Table gives an engine speed: the Units of the highest row met. -/
def Mem.capacityAt (c : Mem) (rpm : Nat) : Nat :=
  if c.capacityRpm 3 ≤ rpm then c.capacityUnits 3
  else if c.capacityRpm 2 ≤ rpm then c.capacityUnits 2
  else if c.capacityRpm 1 ≤ rpm then c.capacityUnits 1
  else if c.capacityRpm 0 ≤ rpm then c.capacityUnits 0
  else 0

/-- The outputs that the slots give now (R27, R28). -/
def State.outputs (s : State) : Signals :=
  let pto := decide (s.inForce .ptoEngaged = 1)
  let speed := s.inForce .roadSpeed
  { liftPermit := pto && decide (speed ≤ s.cfg.liftSpeedLimit) &&
      decide (s.inForce .reverseSelected = 0)
    packPermit := pto
    tailgatePermit := decide (s.inForce .parkBrake = 1) && decide (speed ≤ 1)
    weighSpeedOk := (s.slot .roadSpeed).live && decide (speed ≤ s.cfg.weighSpeedLimit)
    capacity := if pto then s.cfg.capacityAt (s.inForce .engineSpeed) else 0 }

/-- Whether a change of outputs reaches the Flow Arbiter: a Permit or the capacity changed (R29). -/
def Signals.flowDiffers (a b : Signals) : Bool :=
  a.liftPermit != b.liftPermit || a.packPermit != b.packPermit ||
    a.tailgatePermit != b.tailgatePermit || a.capacity != b.capacity

/-- Works the outputs out again and hands a change on as one event (R29). A Pack Permit that becomes
true tests pack-pending (R166). DESIGN CHOICE (log entry 10): the arbitration for the change comes
first. -/
def resignal (s : State) : State :=
  let old := s.signals
  let new := s.outputs
  let s := s.setSignals new
  let s := if old.flowDiffers new then arbitrate s else s
  if new.packPermit && !old.packPermit then servePack s else s

/-! ### Taps (R20 to R23) -/

/-- The raw field of a tap, when it is present (R20). -/
def Mem.rawField (c : Mem) (k : SlotId) (data : List Byte) : Option Nat :=
  let start := 8 * c.byteOffset k + c.bitOffset k
  let len := c.bitLength k
  if start + len ≤ 8 * data.length then some (ofLe data / 2 ^ start % 2 ^ len) else none

/-- The value of a numeric field (R21, R22); none when it is Not Available. -/
def Mem.numericValue (c : Mem) (k : SlotId) (raw : Nat) : Option Nat :=
  if c.invalidFrom k ≠ 0 ∧ c.invalidFrom k ≤ raw then none
  else some (min (raw * c.multiplier k / c.slotDivisor k) 65535)

/-- The value of a boolean field (R21, R22). -/
def Mem.booleanValue (c : Mem) (k : SlotId) (raw : Nat) : Option Nat :=
  if raw = c.trueCode k then some 1 else if raw = c.falseCode k then some 0 else none

/-- The value of a raw field by the slot's kind (R21, R22). -/
def Mem.slotValue (c : Mem) (k : SlotId) (raw : Nat) : Option Nat :=
  match k with
  | .roadSpeed | .engineSpeed => c.numericValue k raw
  | .chassisTime => some ((raw + c.timeBase) % 2 ^ 32)
  | _ => c.booleanValue k raw

/-- A rejected tap (R21). -/
def rejectTap (k : SlotId) (cause : RejectCause) (s : State) : State :=
  s.setSlot k { s.slot k with rejected := bump (s.slot k).rejected, cause := cause }

/-- A valid tap (R23). -/
def validTap (k : SlotId) (v : Nat) (s : State) : State :=
  let s := s.setSlot k { s.slot k with
    state := .fresh, value := v, hold := .stopped
    fresh := .running (s.now + s.cfg.freshnessTimeout k), updates := bump (s.slot k).updates }
  let s := if k = .chassisTime then syncSample v s else s
  resignal s

/-- A tap into a slot (R11, R20 to R23). -/
def tap (k : SlotId) (data : List Byte) (s : State) : State :=
  match s.cfg.rawField k data with
  | none => rejectTap k .short s
  | some raw =>
    match s.cfg.slotValue k raw with
    | none => rejectTap k .notAvailable s
    | some v => validTap k v s

/-! ### Ageing (R24, R25) -/

/-- A slot enters Degraded (R25). -/
def degrade (k : SlotId) (s : State) : State :=
  resignal (s.setSlot k { s.slot k with
    state := .degraded, value := 0, fresh := .stopped, hold := .stopped
    degrades := bump (s.slot k).degrades })

/-- A freshness timer expires (R24). -/
def freshnessExpiry (k : SlotId) (s : State) : State :=
  onExpiry (s.slot k).fresh s fun _ s =>
    if s.cfg.slotHoldTime k = 0 then degrade k s
    else
      resignal (s.setSlot k { s.slot k with
        state := .holding, fresh := .stopped, hold := .running (s.now + s.cfg.slotHoldTime k) })

/-- A slot's hold timer expires (R25). -/
def slotHoldExpiry (k : SlotId) (s : State) : State :=
  onExpiry (s.slot k).hold s fun _ s => degrade k s

/-! ### Routing (R8, R10, R12 to R14) -/

/-- Whether an entry matches a frame received on a port (R8). -/
def Mem.routeMatches (c : Mem) (p : Port) (f : Frame) (i : Fin 64) : Bool :=
  c.routeEnabled i && (c.routeIngress i == p) && f.ext &&
    ((f.id ^^^ c.routeMatch i) &&& c.routeMask i == 0)

/-- The first enabled entry that matches (R8). -/
def Mem.findRoute (c : Mem) (p : Port) (f : Frame) : Option (Fin 64) :=
  (fins 64).find? (c.routeMatches p f)

/-- The frame as an entry's Action sends it (R10). -/
def Mem.translated (c : Mem) (i : Fin 64) (f : Frame) : Frame :=
  if (c.routeAction i).translates then
    let m := c.routeTranslateMask i
    { f with id := (f.id &&& ~~~ m) ||| (c.routeNewBits i &&& m) }
  else f

/-- A frame takes its port's Default Action (R12). -/
def defaultAction (p : Port) (f : Frame) (s : State) : State :=
  if s.cfg.defaultForward p && s.canForward p.other then pushForward p.other f none s
  else countUnrouted p s

/-- Offers a frame of a route that is not limited (R10). -/
def offerFrame (i : Fin 64) (p : Port) (f : Frame) (s : State) : State :=
  if s.canForward p then pushForward p f (some i) s else dropOn i s

/-- Offers a frame of a limited route (R13). -/
def offerLimited (i : Fin 64) (p : Port) (f : Frame) (s : State) : State :=
  let r := s.route i
  if (s.port p).off then dropOn i s
  else if r.timing.isRunning then
    let s := if r.held.isSome then dropOn i s else s
    s.setRoute i { s.route i with held := some f }
  else if s.canForward p then
    pushForward p f (some i) (s.setRoute i { r with
      timing := .running (s.now + s.cfg.routeInterval i) })
  else dropOn i s

/-- A matched frame's way toward its egress port (R10). -/
def forwardRouted (i : Fin 64) (p : Port) (f : Frame) (s : State) : State :=
  let f := s.cfg.translated i f
  if s.cfg.routeInterval i = 0 then offerFrame i p f s else offerLimited i p f s

/-- A frame receives the Action of the entry that it matches (R10, R11). -/
def applyRoute (i : Fin 64) (p : Port) (f : Frame) (s : State) : State :=
  let a := s.cfg.routeAction i
  let s := s.setRoute i { s.route i with matched := bump (s.route i).matched }
  let s := match a.taps, s.cfg.routeTap i with
    | true, some k => tap k f.data s
    | _, _ => s
  if a.offers then forwardRouted i p.other f s
  else if a = .drop then dropOn i s
  else s

/-- Steps 2 and 3 of R8. -/
def routeFrame (p : Port) (f : Frame) (s : State) : State :=
  if s.mode.configuring then defaultAction p f s
  else
    match s.cfg.findRoute p f with
    | some i => applyRoute i p f s
    | none => defaultAction p f s

/-- A limited route's interval expires (R14). -/
def routeExpiry (i : Fin 64) (s : State) : State :=
  onExpiry (s.route i).timing s fun e s =>
    let r := s.route i
    let p := (s.cfg.routeIngress i).other
    let s := s.setRoute i { r with timing := .stopped, held := none }
    match r.held with
    | none => s
    | some f =>
      if s.canForward p then
        pushForward p f (some i) (s.setRoute i { s.route i with
          timing := .running (e + s.cfg.routeInterval i) })
      else dropOn i s

/-- Configuration Open acts on a route (R16): its hold slot is emptied and it becomes Open. -/
def openRoute (s : State) (i : Fin 64) : State :=
  let s := emptyHold s i
  s.setRoute i { s.route i with timing := .stopped }

/-- A successful Commit sets every route's counts to 0 (R15, R16). -/
def clearRouteCounts (s : State) : State :=
  s.setRoutes (s.routes.map fun r => { r with matched := 0, dropped := 0 })

/-! ### Body Status (R17, R18) -/

/-- The Body Status frame as it is formed now (R18). -/
def State.statusFrame (s : State) : Frame :=
  ⟨true, s.cfg.statusIdentifier,
    s.stateBytes ++ leBytes 2 (min (s.payload.mass / 100) 0xFFFF) ++
      [BitVec.ofNat 8 (fillIndex s.payload.fills)] ++ leBytes 2 s.faultSummary⟩

/-- The status timer expires (R17). -/
def statusExpiry (s : State) : State :=
  onExpiry s.statusTimer s fun e s =>
    let s := offerStatus s.statusFrame s
    s.setStatusTimer (.running (e + s.cfg.statusPeriod))

end Sys2Proof.Machine
end

