-- ==== Sys2Proof/Machine/Scanning.lean ====
section
/-! DEFINITION. The Input Scanner (03): sampling, debounce, the Change Map, pair errors, E-Stop, and
the hand-on of one group read's changes to the functions. -/

namespace Sys2Proof.Machine

/-! ### Sampling and debounce (R32, R33) -/

/-- The group of an input. -/
def groupOf (i : Fin 32) : Nat := i.val / 8

/-- The logical sample of a raw sample (R32). -/
def Mem.logicalOf (c : Mem) (i : Fin 32) (closed : Bool) : Bool := closed != c.inverted i.val

/-- One input's filter step (R33): the filtered state and the disagreement count after a logical
sample. -/
def filterStep (effective : Nat) (filtered logical : Bool) (count : Nat) : Bool × Nat :=
  if logical = filtered then (filtered, 0)
  else if effective ≤ count + 1 then (logical, 0)
  else (filtered, count + 1)

/-- One input of the group that a read samples (R32, R33). -/
def sampleInput (c : Mem) (lines : Byte) (x : Scanner) (i : Fin 32) : Scanner :=
  let closed := hasBit lines (i.val % 8)
  let logical := c.logicalOf i closed
  let r := filterStep (c.effectiveCount i.val) (hasBit x.filtered i.val) logical x.disagree[i]
  { x with
    raw := putBit x.raw i.val closed
    logical := putBit x.logical i.val logical
    filtered := putBit x.filtered i.val r.1
    disagree := x.disagree.set i r.2 }

/-- The inputs of a group, in order. -/
def groupInputs (g : Nat) : List (Fin 32) := (fins 32).filter fun i => groupOf i = g

/-- A group read's samples, and the group pointer and full-scan count after it (R32). -/
def sampleGroup (c : Mem) (lines : Byte) (x : Scanner) : Scanner :=
  let x := (groupInputs x.pointer).foldl (sampleInput c lines) x
  let full := x.pointer == 3
  { x with
    pointer := (x.pointer + 1) % 4
    scans := if full && decide (x.scans < c.debounceCount) then x.scans + 1 else x.scans }

/-! ### Change Map (R37, R38) -/

/-- Sets the Change Map bits of changed inputs; a bit under the Change Mask that goes from clear to
set raises Input Change (R37, R38). DESIGN CHOICE (log entry 10): the bits of one event raise it once. -/
def recordChanges (changed : BitVec 32) (s : State) : State :=
  let fresh := changed &&& ~~~ s.scanner.changeMap &&& s.cfg.changeMask
  let s := s.setScanner { s.scanner with changeMap := s.scanner.changeMap ||| changed }
  if fresh = 0 then s else raiseNotice .inputChange s

/-! ### Pair errors (R40) -/

/-- Whether a pair's error condition holds (R40). -/
def State.pairHolds (s : State) (j : Fin 8) : Bool :=
  s.cfg.pairEnabled j.val && s.input (s.cfg.pairA j.val) && s.input (s.cfg.pairB j.val)

/-- The pair errors that hold now. -/
def State.pairsNow (s : State) : BitVec 8 :=
  (fins 8).foldl (fun m j => putBit m j.val (s.pairHolds j)) 0

/-- Evaluates the pairs again (R40): each pair error that begins is counted, and Sensor Error is made
pending once for the event. Answers the pair errors that began. -/
def evaluatePairs (s : State) : BitVec 8 × State :=
  let now := s.pairsNow
  let begun := now &&& ~~~ s.scanner.pairErrors
  let counts := Vector.ofFn fun j : Fin 8 =>
    if hasBit begun j.val then bump s.scanner.pairCounts[j] else s.scanner.pairCounts[j]
  let s := s.setScanner { s.scanner with pairErrors := now, pairCounts := counts }
  (begun, if begun = 0 then s else raiseNotice .sensorError s)

/-- Whether a pair error of a function is among those that began. -/
def Mem.begunFor (c : Mem) (begun : BitVec 8) (r : Requester) : Bool :=
  (List.range 8).any fun j => hasBit begun j && (c.roleOwner (c.pairA j) == some r)

/-- Every function in motion whose pair error begins enters Fault with Sensor Error (R41). -/
def haltPairs (begun : BitVec 8) (s : State) : State :=
  let c := s.cfg
  let s := stations.foldl (fun s st =>
    if c.begunFor begun (.station st) && s.stationMoving st then haltStation st .sensorError s
    else s) s
  let s := if c.begunFor begun .packer && s.packerMoving then haltPacker .sensorError s else s
  if c.begunFor begun .tailgate && s.tailgateMoving then tailgateFault .sensorError s else s

/-! ### E-Stop (R42) -/

/-- Every function in motion enters Fault with E-Stop (R42). -/
def haltAll (s : State) : State :=
  let s := stations.foldl (fun s st =>
    if s.stationMoving st then haltStation st .eStop s else s) s
  let s := if s.packerMoving then haltPacker .eStop s else s
  if s.tailgateMoving then tailgateFault .eStop s else s

/-- What the pair errors that begin and an E-Stop that becomes active do together (R41, R42): they clear
pack-pending (R166), then every function that they name enters Fault, the pair errors' first (R36).
Only then do the tests follow that a Fault calls for: the Blade waits at a change of the packer's state
(R57), and pack-pending at a station's leaving Dump (R166). So no function acts on another's Fault before
its own. -/
def haltFunctions (begun : BitVec 8) (stop : Bool) (s : State) : State :=
  let old := s
  let s := if stop || s.cfg.begunFor begun .packer then clearPackPending s else s
  let s := haltPairs begun s
  let s := if stop then haltAll s else s
  let s := if s.packer.state != old.packer.state then bladeTests s else s
  if stations.any fun st => (old.lift st).state == .dump && (s.lift st).state != .dump then servePack s
  else s

/-! ### One event of published changes (R36) -/

/-- Whether some changed input is owned by a function. -/
def Mem.touches (c : Mem) (changed : BitVec 32) (r : Requester) : Bool :=
  (List.range 32).any fun i => hasBit changed i && (c.roleOwner i == some r)

/-- Whether a role's input is among the changed ones. -/
def Mem.roleChanged (c : Mem) (changed : BitVec 32) (r : Role) : Bool :=
  (List.range 32).any fun i => hasBit changed i && c.hasRole r i

/-- Whether a station's Start input changed to active (R36). -/
def State.startPressed (s : State) (changed : BitVec 32) (st : Station) : Bool :=
  (List.range 32).any fun i => hasBit changed i && s.cfg.hasStationRole .start st i && s.input i

/-- A function's own pair error or an E-Stop that began in the same group read: its phase end is not
acted on (R41, R42). -/
def barred (begun : BitVec 8) (stop : Bool) (c : Mem) (r : Requester) : Bool :=
  stop || c.begunFor begun r

/-- A station's share of the event: its Start, then the end condition of its phase, then its Blade wait
(R36, R57). A Start is tested on the state in which the event finds the station. -/
def stationEvent (changed : BitVec 32) (begun : BitVec 8) (stop : Bool) (s : State) (st : Station) :
    State :=
  let s := if s.startPressed changed st then (cycleStart st s).2 else s
  let s := if s.cfg.touches changed (.station st) && !barred begun stop s.cfg (.station st) then
      stationInputs st s
    else s
  if s.cfg.roleChanged changed .bladeClear && !barred begun stop s.cfg (.station st) then
    retestBlade s st
  else s

/-- One group read's published changes, handed on together (R36): the Change Map, the pair check, the
E-Stop action, then the owners. -/
def publish (new : BitVec 32) (s : State) : State :=
  let old := s.scanner.published
  let changed := old ^^^ new
  if changed = 0 then s
  else
    let stopBefore := s.eStop
    let s := s.setScanner { s.scanner with published := new }
    let (begun, s) := evaluatePairs (recordChanges changed s)
    let stop := !stopBefore && s.eStop
    let s := haltFunctions begun stop s
    let s := stations.foldl (stationEvent changed begun stop) s
    let s := if s.cfg.touches changed .packer && !barred begun stop s.cfg .packer then packerInputs s
      else s
    if s.cfg.touches changed .tailgate && !barred begun stop s.cfg .tailgate then tailgateInputs s
    else s

/-- Scan Ready (R34): all filtered states are published as one event. The Change Map is not set, no
Cycle Start is given, pair errors begin, an active E-Stop acts, and the packer takes its start state. -/
def becomeReady (s : State) : State :=
  let s := s.setScanner { s.scanner with published := s.scanner.filtered, ready := true }
  let (begun, s) := evaluatePairs s
  packerStart (haltFunctions begun s.eStop s)

/-- A group read (R32 to R36). -/
def groupRead (lines : Byte) (s : State) : State :=
  onExpiry s.scanner.nextRead s fun e s =>
    let full := s.scanner.pointer == 3
    let x := { sampleGroup s.cfg lines s.scanner with nextRead := Timer.running (e + Config.groupTime) }
    let s := s.setScanner x
    if x.ready then publish x.filtered s
    else if full && decide (s.cfg.debounceCount ≤ x.scans) then becomeReady s
    else s

/-! ### Commit (R43) -/

/-- The inputs whose Invert setting differs between two configurations. -/
def invertChanges (old new : Mem) : BitVec 32 :=
  (fins 32).foldl (fun m i => putBit m i.val (old.inverted i.val != new.inverted i.val)) 0

/-- A successful Commit acts on the scanner (R43). `old` is the copy that was in force; `s` holds the
new one. DEDUCED (log entry 27): R43 presumes that no function is in motion, but a Recover needs no
Configured; a pair error that begins then faults a function in motion by R41 and R66, as E-Stop does. -/
def commitScanner (old : Mem) (s : State) : State :=
  let flip := invertChanges old s.cfg
  let stopBefore := (s.setCfg old).eStop
  let maskBefore := old.changeMask
  let x := s.scanner
  let s := s.setScanner { x with
    disagree := Vector.replicate 32 0
    logical := x.logical ^^^ flip, filtered := x.filtered ^^^ flip
    published := if x.ready then x.published ^^^ flip else x.published
    scans := if x.ready then x.scans else min x.scans s.cfg.debounceCount }
  if x.ready then
    let newlyMasked := s.scanner.changeMap &&& s.cfg.changeMask &&& ~~~ maskBefore
    let s := recordChanges flip s
    let s := if newlyMasked = 0 then s else raiseNotice .inputChange s
    let (begun, s) := evaluatePairs s
    haltFunctions begun (!stopBefore && s.eStop) s
  else s

end Sys2Proof.Machine
end

