-- ==== Sys2Proof/Machine/ControlArea.lean ====
section
/-! DEFINITION. The Control Area as it is read (13): every item at its address, worked out at the moment
of the read. The Snapshot Port, whose read takes a word, stands with the Management Agent. -/

namespace Sys2Proof.Machine

/-- An item: its first address or offset, its bytes and its value. -/
structure Item where
  start : Nat
  size : Nat
  value : Nat
  deriving DecidableEq, Repr

/-- The byte of an item, little-endian. -/
def Item.byte (x : Item) (a : Nat) : Byte := BitVec.ofNat 8 (x.value / 256 ^ (a - x.start))

/-- The byte at an address of a table of items; an address that holds no item reads zero (R188). -/
def itemByte (l : List Item) (a : Nat) : Byte :=
  match l.find? fun x => decide (x.start ≤ a) && decide (a < x.start + x.size) with
  | some x => x.byte a
  | none => 0

/-- Counts of 2 bytes each, one after another. -/
def countItems (start : Nat) : List Nat → List Item
  | [] => []
  | n :: l => ⟨start, 2, n⟩ :: countItems (start + 2) l

/-- Items of one byte, one after another. -/
def byteItems (start : Nat) : List Nat → List Item
  | [] => []
  | n :: l => ⟨start, 1, n⟩ :: byteItems (start + 1) l

/-- The code of an optional item: 0 for none, else 1 and on. -/
def codeOr {α : Type} (f : α → Nat) : Option α → Nat
  | none => 0
  | some a => f a

/-- Paused and its reason: 1 for Permit, 2 for Flow (R52, R170, R175). -/
def State.pausedCode (s : State) (r : Requester) (paused : Bool) : Nat :=
  if !paused then 0 else if s.masked r then 1 else 2

/-! ### Ports and routes -/

/-- The items of a port's block (0040h, 0060h). DESIGN CHOICE (log entry 24): the status timer's time left
(R17) is in whole milliseconds, a part of one rounded down. -/
def portItems (s : State) (p : Port) : List Item :=
  let x := s.port p
  byteItems 0 [flagNat x.off, x.txErr, x.rxErr] ++
    countItems 4 [x.received, x.sent, x.malformed, x.unrouted, x.controlOverflow, x.statusReplaced,
      x.offDiscards, x.busOff,
      match p with
      | .chassis => s.statusTimer.left s.now / Config.ms
      | .body => 0]

/-- The items of a route entry. -/
def routeItems (r : RouteState) : List Item := countItems 0 [r.matched, r.dropped]

/-- A byte of the routes' counts at 0100h. -/
def routeByte (s : State) (o : Nat) : Byte :=
  match s.routes[o / 4]? with
  | some r => itemByte (routeItems r) (o % 4)
  | none => 0

/-! ### Signal Monitor and Input Scanner -/

/-- A rejection cause's code. -/
def RejectCause.code : RejectCause → Nat
  | .none => 0
  | .short => 1
  | .notAvailable => 2

/-- The items of a signal slot's block. -/
def slotItems (s : State) (k : SlotId) : List Item :=
  let x := s.slot k
  [⟨0, 1, x.state.code⟩, ⟨1, 1, x.cause.code⟩, ⟨2, 2, x.updates⟩, ⟨4, 4, s.inForce k⟩,
    ⟨8, 4, x.value⟩, ⟨0xC, 2, x.rejected⟩, ⟨0xE, 2, x.degrades⟩]

/-- A byte of the slots' blocks at 0200h. -/
def slotByte (s : State) (o : Nat) : Byte :=
  match SlotId.ofNum (o / 16) with
  | some k => itemByte (slotItems s k) (o % 16)
  | none => 0

/-- The Signal Monitor's outputs at 0260h. -/
def signalItems (s : State) : List Item :=
  byteItems 0x260 [flagNat s.signals.liftPermit, flagNat s.signals.packPermit,
    flagNat s.signals.tailgatePermit, flagNat s.signals.weighSpeedOk, s.signals.capacity]

/-- The Input Scanner's items (R45). -/
def scannerItems (s : State) : List Item :=
  let x := s.scanner
  [⟨0x280, 4, x.raw.toNat⟩, ⟨0x284, 4, x.published.toNat⟩, ⟨0x288, 4, x.changeMap.toNat⟩,
    ⟨0x28C, 1, flagNat x.ready⟩, ⟨0x28D, 1, flagNat s.eStop⟩, ⟨0x28E, 1, x.pairErrors.toNat⟩] ++
    countItems 0x290 x.pairCounts.toList

/-! ### Stations (R69) -/

/-- A wait kind's code. -/
def WaitKind.code : WaitKind → Nat
  | .none => 0
  | .lookup => 1
  | .status => 2
  | .identity => 3
  | .blade => 4

/-- A sub-phase's code and its shake index. -/
def DumpPhase.code : DumpPhase → Nat × Nat
  | .none => (0, 0)
  | .shakeUp k => (1, k)
  | .shakeBack k => (2, k)
  | .dumpUp => (3, 0)

/-- A refusal's code as Last Refusal; Busy is not recorded. -/
def Refused.code : Refused → Nat
  | .notReady => 1
  | .permit => 2
  | .sensorError => 3
  | .notInPosition => 4
  | .queueFull => 5
  | .bodyFull => 6
  | .unloading => 7
  | .busy => 0

/-- A station fault's code. -/
def StationFault.code : StationFault → Nat
  | .engageTimeout => 1
  | .raiseTimeout => 2
  | .lowerTimeout => 3
  | .releaseTimeout => 4
  | .homingTimeout => 5
  | .pauseLimit => 6
  | .sensorError => 7
  | .eStop => 8
  | .start => 9

/-- An admission's code. -/
def Admission.code : Admission → Nat
  | .pending => 0
  | .admitted => 1
  | .overridden => 2
  | .refused => 3

/-- An association source's code. -/
def TagSource.code : TagSource → Nat
  | .none => 0
  | .engage => 1
  | .late => 2

/-- A gross grade's code. -/
def Grade.code : Grade → Nat
  | .none => 0
  | .stable => 1
  | .unstable => 2
  | .missing => 3

/-- A tare source's code. -/
def TareSource.code : TareSource → Nat
  | .none => 0
  | .measured => 1
  | .default => 2

/-- A furthest phase's code. -/
def Furthest.code : Furthest → Nat
  | .clear => 0
  | .started => 1
  | .engaged => 2
  | .raised => 3
  | .dumped => 4

/-- The Lift Record's items in a station's block; none while no record is present, so they read zero. -/
def recordItems : Option LiftRecord → List Item
  | none => []
  | some r =>
    [⟨0x11, 1, r.admission.code⟩, ⟨0x12, 1, flagNat r.reachedDump⟩, ⟨0x13, 1, r.source.code⟩,
      ⟨0x14, 4, r.liftNo⟩, ⟨0x18, 4, r.start⟩, ⟨0x1C, 4, r.flags.toNat⟩, ⟨0x20, 5, r.tag.getD 0⟩,
      ⟨0x25, 1, flagNat r.snapshot.isSome⟩,
      ⟨0x26, 1, codeOr Snapshot.tariff r.snapshot⟩,
      ⟨0x27, 1, codeOr (fun sn => sn.status.code) r.snapshot⟩,
      ⟨0x28, 4, codeOr Snapshot.account r.snapshot⟩, ⟨0x2C, 1, codeOr Snapshot.bin r.snapshot⟩,
      ⟨0x2D, 1, r.grade.code⟩, ⟨0x2E, 2, r.gross.getD 0⟩, ⟨0x30, 2, r.tare.getD 0⟩,
      ⟨0x32, 1, r.tareSource.code⟩, ⟨0x34, 2, unsigned 16 r.pitch⟩]

/-- The Lift Marker's items in a station's block. -/
def markerItems (m : Marker) : List Item :=
  [⟨0x36, 1, m.furthest.code⟩, ⟨0x37, 1, m.tariff⟩, ⟨0x38, 5, m.tag⟩, ⟨0x3D, 1, m.bin⟩,
    ⟨0x3E, 1, flagNat m.gross.isSome⟩, ⟨0x40, 4, m.account⟩, ⟨0x44, 2, m.gross.getD 0⟩]

/-- The items of a station's block (0300h + 50h × s). -/
def liftItems (s : State) (st : Station) : List Item :=
  let l := s.lift st
  byteItems 0 [l.state.code, s.pausedCode (.station st) l.paused, l.wait.code, l.sub.code.1,
      l.sub.code.2, flagNat l.chargePending, flagNat l.record.isSome,
      codeOr Refused.code l.lastRefusal] ++
    countItems 8 [l.startRefusals, l.pauses, l.holdTimeouts, l.faults] ++
    [⟨0x10, 1, codeOr StationFault.code l.lastFault⟩] ++ recordItems l.record ++
    markerItems (s.marker st)

/-- A byte of the stations' blocks at 0300h. -/
def liftByte (s : State) (o : Nat) : Byte :=
  match Station.ofNum (o / 0x50) with
  | some st => itemByte (liftItems s st) (o % 0x50)
  | none => itemByte [⟨0xF0, 2, s.foreignCommands⟩] o

/-! ### Tag Associator (R86) -/

/-- The items of a station's Tag Associator block. -/
def tagStationItems (s : State) (st : Station) : List Item :=
  let c := s.tags.counts.get st
  (match s.tags.assigned.get st with
    | some a => [⟨0, 5, a.tag⟩, ⟨8, 4, min (s.tagTime - a.last) 0xFFFFFFFF⟩]
    | none => []) ++ countItems 0xC [c.engage, c.late, c.ambiguous, c.noTag]

/-- The items of a Tag Queue place. -/
def tagEntryItems (s : State) (e : TagEntry) : List Item :=
  [⟨0, 5, e.tag⟩, ⟨5, 1, e.station.num⟩, ⟨6, 1, e.count⟩, ⟨7, 1, e.strength⟩,
    ⟨8, 4, min (s.tagTime - e.first) 0xFFFFFFFF⟩, ⟨0xC, 4, min (s.tagTime - e.last) 0xFFFFFFFF⟩]

/-- A byte of the Tag Associator's range at 0400h. -/
def tagByte (s : State) (o : Nat) : Byte :=
  if o < 0x10 then
    itemByte ([⟨0, 1, s.tags.queue.length⟩, ⟨1, 1, flagNat s.tags.overrun⟩] ++
      countItems 2 [s.tags.taken, s.tags.ignored, s.tags.merged, s.tags.absorbed, s.tags.dropped]) o
  else if o < 0x80 then
    match Station.ofNum ((o - 0x10) / 0x20) with
    | some st => itemByte (tagStationItems s st) ((o - 0x10) % 0x20)
    | none => 0
  else
    match s.tags.queue[(o - 0x80) / 0x10]? with
    | some e => itemByte (tagEntryItems s e) ((o - 0x80) % 0x10)
    | none => 0

/-! ### Weigh Engine (R107) -/

/-- The silence timer's code. -/
def Silence.code : Silence → Nat
  | .stopped => 0
  | .running _ => 1
  | .expired => 2

/-- A zero result's code. -/
def ZeroResult.code : ZeroResult → Nat
  | .none => 0
  | .captured => 1
  | .outOfRange => 2
  | .timeout => 3
  | .cancelled => 4

/-- The items of a station's Weigh Engine block (R107). DESIGN CHOICE (log entry 24): the Run item shows the
run of a Raise or Lower only, so it reads 0 during a capture. -/
def weighItems (s : State) (st : Station) : List Item :=
  let w := s.scale st
  [⟨0, 4, unsigned 32 w.latestCount⟩, ⟨4, 2, w.latestAngle⟩, ⟨6, 1, w.latestSeq⟩,
    ⟨7, 1, w.run.counts.length⟩, ⟨8, 1, w.run.seq⟩, ⟨9, 1, flagNat w.accepted.isSome⟩,
    ⟨0xA, 2, codeOr Accepted.mass w.accepted⟩, ⟨0xC, 4, codeOr Accepted.spread w.accepted⟩,
    ⟨0x10, 1, flagNat w.fallback.isSome⟩, ⟨0x11, 1, w.silence.code⟩,
    ⟨0x12, 1, flagNat (s.zero st).defined⟩, ⟨0x13, 1, flagNat w.pendingZero.isSome⟩,
    ⟨0x14, 4, codeOr Fallback.spread w.fallback⟩,
    ⟨0x18, 4, unsigned 32 (s.cfg.commissionedZero st)⟩, ⟨0x1C, 4, unsigned 32 (s.zero st).za⟩,
    ⟨0x20, 4, unsigned 32 (w.pendingZero.getD 0)⟩, ⟨0x24, 1, flagNat w.capture.isRunning⟩,
    ⟨0x25, 1, w.lastResult.code⟩, ⟨0x28, 4, unsigned 32 w.lastMean⟩] ++
    countItems 0x2C [w.samples, w.qualified, w.runsStarted, w.gaps, w.stableWindows, w.nodeLost,
      w.unstableGross, w.missingGross, w.defaultTare, w.negativeGross, w.negativeTare]

/-- A byte of the Weigh Engine's range at 0500h. -/
def weighByte (s : State) (o : Nat) : Byte :=
  match Station.ofNum (o / 0x50) with
  | some st => itemByte (weighItems s st) (o % 0x50)
  | none =>
    itemByte [⟨0xF0, 2, unsigned 16 s.weigh.pitch⟩, ⟨0xF2, 2, unsigned 16 s.weigh.roll⟩,
      ⟨0xF4, 1, flagNat s.weigh.fresh⟩, ⟨0xF6, 2, s.weigh.ignored⟩, ⟨0xF8, 2, s.weigh.attitudes⟩] o

/-! ### Household Table, Billing Engine and Charge Queue (R125, R143) -/

/-- A journal operation's code. -/
def JournalOp.code : JournalOp → Nat
  | .clear => 0
  | .insert => 1
  | .delete => 2
  | .openPeriod => 3

/-- A Check Result's code. -/
def CheckResult.code : CheckResult → Nat
  | .none => 0
  | .passed => 1
  | .countTooLarge => 2
  | .zeroTag => 3
  | .order => 4
  | .fieldRange => 5

/-- A Last Table Result's code. -/
def TableResult.code : TableResult → Nat
  | .none => 0
  | .done => 1
  | .badRecord => 2
  | .duplicate => 3
  | .full => 4
  | .notFound => 5

/-- The Household Table's items. -/
def tableItems (s : State) : List Item :=
  let t := s.table
  let c := t.counts
  byteItems 0x600 [t.state.code, flagNat t.busy, t.journal.op.code, t.checkResult.code] ++
    [⟨0x604, 2, t.journal.pos⟩, ⟨0x606, 2, unsigned 16 t.journal.next⟩, ⟨0x608, 2, t.badIndex⟩,
      ⟨0x60A, 1, t.lastResult.code⟩, ⟨0x60B, 1, t.waiting.length⟩] ++
    countItems 0x60C [c.lookups, c.found, c.notFound, c.unavailable, c.waited, c.accesses, c.gone,
      c.opens, c.checks, c.inserts, c.updates, c.deletes, c.periods]

/-- A holder's code in the Request List. -/
def Holder.code : Holder → Nat
  | .station st => st.num + 1
  | .tailgate => 4

/-- The Billing Engine's and the Charge Queue's items. -/
def queueItems (s : State) : List Item :=
  let q := s.queue
  let b := s.billing
  [⟨0x680, 1, q.head⟩, ⟨0x681, 1, q.reserved⟩, ⟨0x682, 2, q.count⟩, ⟨0x684, 2, s.cfg.noticeLevel⟩,
    ⟨0x686, 1, flagNat s.chargeLevel⟩,
    ⟨0x687, 1, packBits [(flagNat q.heldSt.side, 0), (flagNat q.heldSt.left, 1),
      (flagNat q.heldSt.right, 2), (flagNat q.heldTailgate, 3)]⟩,
    ⟨0x688, 2, q.commits⟩, ⟨0x68A, 2, q.released⟩, ⟨0x68C, 1, b.list.length⟩,
    ⟨0x68D, 1, flagNat b.waiting.isSome⟩] ++
    byteItems 0x68E ((b.list.map fun r => r.holder.code).take 4) ++
    countItems 0x692 [b.served, b.recordGone, b.unavailable, b.capped]

/-! ### Flow Arbiter and Valve Driver (R163) -/

/-- A phase's number among a function's phases in the Function Table. -/
def phaseNumber : Requester → FlowPhase → Nat
  | .station .sideArm, .engage => 1
  | .station .sideArm, .raise => 2
  | .station .sideArm, .dump => 3
  | .station .sideArm, .lower => 4
  | .station .sideArm, .release => 5
  | .station .sideArm, .homing => 6
  | .station _, .raise => 1
  | .station _, .dump => 2
  | .station _, .lower => 3
  | .station _, .homing => 4
  | .packer, .extending => 1
  | .packer, .retracting => 2
  | .tailgate, .opening => 1
  | .tailgate, .ejecting => 2
  | .tailgate, .closing => 3
  | _, _ => 0

/-- The items of a requester's block. -/
def requesterItems (s : State) (r : Requester) : List Item :=
  let q := s.request r
  byteItems 0 [flagNat q.isSome, codeOr (fun x => phaseNumber r x.phase) q, codeOr FlowReq.demand q,
    codeOr FlowReq.minimum q, s.grant r, flagNat (s.masked r), flagNat (s.arbiter.waiting r)]

/-- The items of a valve channel's block. -/
def channelItems (s : State) (i : Nat) (x : Channel) : List Item :=
  [⟨0, 1, codeOr (fun r => r.code + 1) (s.cfg.channelOwner i)⟩, ⟨2, 2, x.applied⟩,
    ⟨4, 2, x.target⟩, ⟨6, 2, x.pending⟩, ⟨8, 2, x.cuts⟩]

/-- The single items of the Flow Arbiter and the toggle outputs. -/
def flowItems (s : State) : List Item :=
  let a := s.arbiter
  byteItems 0x28 (s.priority.map Requester.code) ++ byteItems 0x2D (a.group.map Station.num) ++
    byteItems 0x30 [s.signals.capacity, a.free s.signals.capacity] ++
    countItems 0x32 [a.arbitrations, a.grants, a.revokes, a.yields, a.walkStops] ++
    byteItems 0x3C [flagNat s.toggles.beacon.level, flagNat s.toggles.horn.level]

/-- A byte of the range at 0700h. -/
def flowByte (s : State) (o : Nat) : Byte :=
  if o < 0x28 then
    match Requester.ofCode (o / 8) with
    | some r => itemByte (requesterItems s r) (o % 8)
    | none => 0
  else if o < 0x40 then itemByte (flowItems s) o
  else
    match s.channels[(o - 0x40) / 0x10]? with
    | some x => itemByte (channelItems s ((o - 0x40) / 0x10) x) ((o - 0x40) % 0x10)
    | none => 0

/-! ### Packer, payload, tailgate and Clock (R177, R178) -/

/-- A packer fault's code. -/
def PackerFault.code : PackerFault → Nat
  | .extendTimeout => 1
  | .retractTimeout => 2
  | .pauseLimit => 3
  | .sensorError => 4
  | .eStop => 5
  | .start => 6

/-- A tailgate fault's code. -/
def TailgateFault.code : TailgateFault → Nat
  | .openingTimeout => 1
  | .closingTimeout => 2
  | .pauseLimit => 3
  | .sensorError => 4
  | .eStop => 5
  | .start => 6

/-- The tailgate marker's code. -/
def TailgateMarker.code : TailgateMarker → Nat
  | .clear => 0
  | .opening => 1
  | .ejecting => 2
  | .closing => 3

/-- The items of the packer, the payload and the tailgate. -/
def packerItems (s : State) : List Item :=
  let p := s.packer
  let t := s.tailgate
  byteItems 0x800 [p.state.code, s.pausedCode .packer p.paused, flagNat p.packPending, p.dumps] ++
    [⟨0x804, 2, p.stroke⟩, ⟨0x806, 2, p.lastStroke⟩, ⟨0x808, 1, s.payload.fills.length⟩] ++
    byteItems 0x809 (s.payload.fills.take 4) ++
    [⟨0x80D, 1, fillIndex s.payload.fills⟩, ⟨0x80E, 1, codeOr PackerFault.code p.lastFault⟩] ++
    countItems 0x810 [p.cycles, p.stalls, p.autoRequests, p.autoRefused, p.pauses, p.faults] ++
    [⟨0x820, 4, s.payload.mass⟩, ⟨0x824, 1, flagNat s.payload.bodyFull⟩] ++
    byteItems 0x828 [t.state.code, s.pausedCode .tailgate t.paused, flagNat t.unloadPending,
      t.marker.code, flagNat s.queue.heldTailgate, codeOr TailgateFault.code t.lastFault] ++
    countItems 0x82E [t.unloads, t.pauses, t.faults]

/-- The Clock's items. -/
def clockItems (s : State) : List Item :=
  let c := s.clock
  [⟨0x880, 4, c.seconds⟩, ⟨0x884, 1, flagNat c.valid⟩, ⟨0x885, 1, flagNat c.stepped⟩,
    ⟨0x886, 1, s.cfg.syncTolerance⟩] ++
    countItems 0x888 [c.stepCount, c.syncSamples, c.syncsSet, c.syncIgnored]

/-! ### Management Agent -/

/-- The Deferred Slot's code. -/
def Deferred.code : Deferred → Nat
  | .free => 0
  | .querying .. => 1
  | .requerying .. => 2
  | .ready .. => 3

/-- The Management Agent's items. -/
def agentItems (s : State) : List Item :=
  let g := s.agent
  [⟨0x8C0, 2, g.notices.toNat⟩, ⟨0x8C2, 2, s.cfg.noticeModes.toNat⟩, ⟨0x8C4, 1, g.deferred.code⟩,
    ⟨0x8C5, 1, g.queryTag.toNat⟩] ++
    countItems 0x8C6 [g.noticesSent, g.foreignRequests, g.served] ++
    countItems 0x8CC g.statusCounts.toList ++ [⟨0x8DE, 2, g.strayNodeData⟩]

/-- The mode byte (0000h). -/
def State.modeByte (s : State) : Nat :=
  packBits [(flagNat s.mode.configuring, 0), (flagNat s.configured, 1),
    (flagNat s.mode.maintenance, 2)]

/-- The items of 0000h to 002Fh but for the Snapshot Port. -/
def headItems (s : State) : List Item :=
  [⟨0, 1, s.modeByte⟩, ⟨1, 1, s.sys.ownNode.toNat⟩, ⟨2, 2, s.agent.bankBase⟩,
    ⟨8, 2, s.table.recordCount⟩, ⟨0xC, 4, s.queue.nextSeq⟩, ⟨0x10, 32, ofLe s.table.staging⟩]

/-! ### The whole area -/

/-- The byte at a Control Area address, 0000h to 0FFFh, other than a Snapshot Port byte (13). -/
def State.controlByte (s : State) (a : Nat) : Byte :=
  if a < 0x40 then itemByte (headItems s) a
  else if a < 0x60 then itemByte (portItems s .chassis) (a - 0x40)
  else if a < 0x80 then itemByte (portItems s .body) (a - 0x60)
  else if a < 0x100 then 0
  else if a < 0x200 then routeByte s (a - 0x100)
  else if a < 0x260 then slotByte s (a - 0x200)
  else if a < 0x280 then itemByte (signalItems s) a
  else if a < 0x300 then itemByte (scannerItems s) a
  else if a < 0x400 then liftByte s (a - 0x300)
  else if a < 0x500 then tagByte s (a - 0x400)
  else if a < 0x600 then weighByte s (a - 0x500)
  else if a < 0x680 then itemByte (tableItems s) a
  else if a < 0x700 then itemByte (queueItems s) a
  else if a < 0x800 then flowByte s (a - 0x700)
  else if a < 0x880 then itemByte (packerItems s) a
  else if a < 0x8C0 then itemByte (clockItems s) a
  else if a < 0x900 then itemByte (agentItems s) a
  else 0

/-- The byte at a Queue Area offset (R143): record `k` from the head, zero at or beyond Count. -/
def State.queueByte (s : State) (o : Nat) : Byte :=
  let k := o / 32
  if k < s.queue.count then
    s.store.read (slotBase ((s.queue.head + k) % Config.queueSlots) + o % 32)
  else 0

end Sys2Proof.Machine
end

