-- ==== Sys2Proof/Machine/Checks.lean ====
section
/-! DEFINITION. Commit (R194): the checks of the written copy, item by item in the order of 13, and
what each block does at a successful Commit. -/

namespace Sys2Proof.Machine

/-- One check: the 16-bit index that a failure reports (13), and whether it passes. -/
structure Check where
  index : Nat
  pass : Bool
  deriving DecidableEq, Repr

/-- The failing check of a Commit: Check Item and index. -/
structure Failure where
  item : Nat
  index : Nat
  deriving DecidableEq, Repr

/-- The first check of a block that fails. -/
def firstFailure (item : Nat) (l : List Check) : Option Failure :=
  (l.find? fun c => !c.pass).map fun c => ⟨item, c.index⟩

/-- A value within a range, both ends included. -/
def within (lo hi n : Nat) : Bool := decide (lo ≤ n) && decide (n ≤ hi)

/-- A check that reports index 0. -/
def single (b : Bool) : Check := ⟨0, b⟩

/-! ### Items 1 to 3: routes, status, signals (R7, R17, R19, R27, R28) -/

/-- An identifier item within its range (R7, R17). -/
def Mem.identPass (c : Mem) (a : Nat) : Bool := within 0 0x1FFFFFFF (c.u32 a)

/-- A Route Table entry that is enabled: its Action, the Tap Target of one that taps, and the identifier
items that its Action uses within the range of R7, as R200 has Commit report them. DEDUCED (log entry
12). -/
def Mem.routePass (c : Mem) (i : Fin 64) : Bool :=
  let a := routeAddr i
  !c.routeEnabled i ||
    (within 0 5 (c.u8 (a + 1)) && (!(c.routeAction i).taps || (c.routeTap i).isSome) &&
      c.identPass (a + 4) && c.identPass (a + 8) &&
      (!(c.routeAction i).translates || (c.identPass (a + 12) && c.identPass (a + 16))))

/-- Check Item 1. -/
def Mem.checkRoutes (c : Mem) : List Check := (fins 64).map fun i => ⟨i.val, c.routePass i⟩

/-- Check Item 2. -/
def Mem.checkStatus (c : Mem) : List Check :=
  [single (within 0 1 (c.u8 0x62500)), single (within 0 1 (c.u8 0x62501)),
    single (within 100 2000 (c.u16 0x62502)), single (c.identPass 0x62504)]

/-- The checks of a slot by its kind (R19). -/
def Mem.slotKindPass (c : Mem) (k : SlotId) : Bool :=
  match k with
  | .roadSpeed | .engineSpeed => decide (c.multiplier k ≠ 0) && decide (c.slotDivisor k ≠ 0)
  | .chassisTime => true
  | _ =>
    decide (c.trueCode k ≠ c.falseCode k) && decide (c.trueCode k < 2 ^ c.bitLength k) &&
      decide (c.falseCode k < 2 ^ c.bitLength k)

/-- A slot's parameter set (R19). -/
def Mem.slotPass (c : Mem) (k : SlotId) : Bool :=
  within 0 7 (c.byteOffset k) && within 0 7 (c.bitOffset k) && within 1 32 (c.bitLength k) &&
    decide (8 * c.byteOffset k + c.bitOffset k + c.bitLength k ≤ 64) &&
    decide (c.u8 (slotAddr k + 3) ≠ 0) && c.slotKindPass k

/-- A Capacity Table row (R28). DESIGN CHOICE (log entry 25): of two rows that do not rise, the later one
fails. -/
def Mem.capacityPass (c : Mem) (r : Nat) : Bool :=
  within 0 100 (c.capacityUnits r) &&
    (r == 0 || decide (c.capacityRpm (r - 1) < c.capacityRpm r))

/-- Check Item 3. DESIGN CHOICE (log entry 25): a slot's fault is reported with the slot's number. -/
def Mem.checkSignals (c : Mem) : List Check :=
  (slotIds.map fun k => ⟨k.num, c.slotPass k⟩) ++
    [single (within 0 300 c.liftSpeedLimit), single (within 0 300 c.weighSpeedLimit)] ++
    (List.range 4).map fun r => ⟨r, c.capacityPass r⟩

/-! ### Item 4: inputs (R33, R35, R40) -/

/-- The roles that use a station. -/
def usesStation (code : Nat) : Bool := within 1 5 code

/-- Whether two inputs have one and the same role, which at most one input may have: any role but None
and E-Stop, and for a station role the same station. -/
def Mem.sameRole (c : Mem) (i j : Nat) : Bool :=
  decide (c.roleCode i = c.roleCode j) && decide (c.roleCode i ≠ Role.none.code) &&
    decide (c.roleCode i ≠ Role.eStop.code) &&
    (!usesStation (c.roleCode i) || decide (c.roleStation i = c.roleStation j))

/-- An Input Role Table entry: a listed role, a listed station, and no role that an earlier input
has (R35). -/
def Mem.rolePass (c : Mem) (i : Nat) : Bool :=
  within 0 11 (c.roleCode i) && (!usesStation (c.roleCode i) || within 0 2 (c.roleStation i)) &&
    !(List.range i).any (c.sameRole i)

/-- Whether some input has a station's role. -/
def Mem.hasStation (c : Mem) (r : Role) (st : Station) : Bool :=
  (List.range 32).any (c.hasStationRole r st)

/-- A station has its four required roles (R35). -/
def Mem.stationRolesPass (c : Mem) (st : Station) : Bool :=
  c.hasStation .stowed st && c.hasStation .gripped st && c.hasStation .atTop st &&
    c.hasStation .lowered st

/-- The required roles that use no station (R35). -/
def Mem.plainRolesPass (c : Mem) : Bool :=
  [Role.eStop, .bladeClear, .packerHome, .tailgateClosed, .tailgateLocked].all fun r =>
    (List.range 32).any (c.hasRole r)

/-- A Pair Table entry (R40). -/
def Mem.pairPass (c : Mem) (j : Nat) : Bool :=
  !c.pairEnabled j ||
    (within 0 31 (c.pairA j) && within 0 31 (c.pairB j) && decide (c.pairA j ≠ c.pairB j) &&
      (c.roleOwner (c.pairA j)).isSome)

/-- Check Item 4. -/
def Mem.checkInputs (c : Mem) : List Check :=
  ((List.range 32).map fun i => ⟨i, c.rolePass i⟩) ++
    (stations.map fun st => ⟨32 + st.num, c.stationRolesPass st⟩) ++
    [⟨35, c.plainRolesPass⟩, single (within 1 15 c.debounceCount)] ++
    (List.range 8).map fun j => ⟨j, c.pairPass j⟩

/-! ### Items 5 to 7: lifts, tags, weighing, tariffs (R46, R73, R87, R126) -/

/-- A station's Lift Parameters (R46). -/
def Mem.liftPass (c : Mem) (st : Station) : Bool :=
  let a := liftAddr st
  within 1 600 (c.u16 a) && within 1 600 (c.u16 (a + 2)) && within 1 600 (c.u16 (a + 4)) &&
    within 1 600 (c.u16 (a + 6)) && within 1 600 (c.u16 (a + 8)) &&
    within 10 1000 (c.u16 (a + 10)) && within 0 7 (c.shakeCount st) &&
    within 10 255 (c.u8 (a + 13))

/-- Check Item 5. -/
def Mem.checkLifts (c : Mem) : List Check :=
  (stations.map fun st => ⟨st.num, c.liftPass st⟩) ++
    [single (within 1 255 (c.u8 0x62650)), single (within 0 1 (c.u8 0x62651)),
      single (within 1 600 (c.u16 0x62652)), single (within 0 254 c.cabNode)]

/-- A station's Station Table entry (R73, R87). -/
def Mem.stationPass (c : Mem) (st : Station) : Bool :=
  within 0 254 (c.readerNode st) && within 0 254 (c.weighNode st) &&
    [8, 16, 32, 64].contains (c.windowLength st) && within 0 1800 (c.zoneStart st) &&
    within 0 1800 (c.zoneEnd st) && decide (c.zoneStart st < c.zoneEnd st) &&
    decide (c.stabilityBand st ≠ 0) && decide (c.span st ≠ 0) && decide (c.scaleCapacity st ≠ 0) &&
    decide (-8388608 ≤ c.commissionedZero st ∧ c.commissionedZero st ≤ 8388607)

/-- Check Item 6 (R73, R87). A Tilt Table entry has its index −15 to +15 (13). DESIGN CHOICE (log entry 25):
the response's index field holds it in two's complement. -/
def Mem.checkStations (c : Mem) : List Check :=
  (stations.map fun st => ⟨st.num, c.stationPass st⟩) ++
    [single (within 0 1 (c.u8 0x626C8)), single (within 5 255 (c.u8 0x626C9)),
      single (within 0 254 c.attitudeNode)] ++
    (List.range 31).map fun i =>
      ⟨unsigned 16 ((i : Int) - 15), within 16384 20000 (c.tilt ((i : Int) - 15))⟩

/-- Check Item 7; every value of a Tariff Table or Bin Size Table item is in its range. -/
def Mem.checkTariffs (c : Mem) : List Check :=
  [single (within 0 600 c.repeatInterval), single (within 1 256 c.noticeLevel)]

/-! ### Item 8: flow and valves (R145, R156, R157) -/

/-- The addresses of the demands, in the order of the layout; Packer Yield Units stands among them. -/
def demandAddrs : List Nat := (List.range 20).map (0x62850 + ·)

/-- A demand is 1 to 100, and Packer Yield Units 1 to the Pack Units (R145). -/
def Mem.demandPass (c : Mem) (a : Nat) : Bool :=
  if a = 0x6285F then within 1 (c.u8 0x6285E) (c.u8 a) else within 1 100 (c.u8 a)

/-- The Fixed Order names each of its four members once. -/
def Mem.orderPass (c : Mem) : Bool :=
  (List.range 4).all fun m => (List.range 4).any fun i => decide (c.fixedOrder i = m)

/-- A channel's setup (R156). -/
def Mem.channelPass (c : Mem) (ch : Nat) : Bool :=
  [1, 2, 4, 8, 16, 32, 64, 128].contains (c.channelDivisor ch) &&
    [256, 64, 32, 16].contains (c.resolution ch)

/-- The phases that a Valve Map entry of a function may name, by code (R157). -/
def valvePhases : Nat → List Nat
  | 0 => [0, 1, 2, 3, 4, 5, 6]
  | 1 => [1, 2, 3, 4, 6]
  | 2 => [1, 2, 3, 4, 6]
  | 3 => [7, 8]
  | 4 => [9, 10, 11]
  | _ => []

/-- Whether two enabled entries cannot stand together: one channel given to two functions, or one
function, phase and channel named twice (R157). -/
def Mem.valveClash (c : Mem) (e f : Nat) : Bool :=
  c.valveEnabled f && (e != f) && decide (c.valveChannel e = c.valveChannel f) &&
    (decide (c.valveFunction e ≠ c.valveFunction f) || decide (c.valvePhase e = c.valvePhase f))

/-- A Valve Map entry (R157). -/
def Mem.valvePass (c : Mem) (e : Nat) : Bool :=
  !c.valveEnabled e ||
    ((valvePhases (c.valveFunction e)).contains (c.valvePhase e) && within 0 11 (c.valveChannel e) &&
      !(List.range 32).any (c.valveClash e) &&
      decide (c.fullDuty e ≤ c.resolution (c.valveChannel e)))

/-- Check Item 8. DESIGN CHOICE (log entry 25): a channel's fault is reported with the channel's number. -/
def Mem.checkFlow (c : Mem) : List Check :=
  (demandAddrs.map fun a => single (c.demandPass a)) ++
    [single (within 0 1 (c.u8 0x62864)), single (within 0 1 (c.u8 0x62865)), single c.orderPass,
      single (within 10 255 (c.u8 0x6286A)), single (within 10 255 (c.u8 0x6286B))] ++
    ((List.range 12).map fun ch => ⟨ch, c.channelPass ch⟩) ++
    (List.range 32).map fun e => ⟨e, c.valvePass e⟩

/-! ### Items 9 to 11: packer, tailgate, managers, node numbers (R164, R173, R178, R185, R193) -/

/-- Check Item 9. -/
def Mem.checkPacker (c : Mem) : List Check :=
  [decide (c.fullStroke ≠ 0), within 10 255 (c.u8 0x62952), within 0 100 (c.u8 0x62953),
    within 1 600 (c.u16 0x62954), within 1 600 (c.u16 0x62956), within 0 8 c.packAfter,
    within 0 100 c.fullLevel, within 1 100000000 c.payloadLimit, within 0 600 (c.u16 0x62960),
    within 1 600 (c.u16 0x62962), within 10 1200 (c.u16 0x62964), within 1 600 (c.u16 0x62966),
    decide (c.openTime < c.openingLimit)].map single

/-- Check Item 10. -/
def Mem.checkManagers (c : Mem) : List Check :=
  [within 1 60 c.syncTolerance, within 0 254 (c.managerNode .terminal),
    within 0 254 (c.managerNode .service)].map single

/-- No number stands twice in a list. -/
def allDistinct : List Nat → Bool
  | [] => true
  | n :: l => !l.contains n && allDistinct l

/-- Check Item 11: node numbers are distinct, and none is the part's own (13). -/
def Mem.checkNodes (c : Mem) (own : Nat) : List Check :=
  [single (allDistinct c.namedNodes && !c.namedNodes.contains own)]

/-- The first failing check of the written copy, in the order of the layout (R194). -/
def Mem.commitFailure (c : Mem) (own : Nat) : Option Failure :=
  [firstFailure 1 c.checkRoutes, firstFailure 2 c.checkStatus, firstFailure 3 c.checkSignals,
    firstFailure 4 c.checkInputs, firstFailure 5 c.checkLifts, firstFailure 6 c.checkStations,
    firstFailure 7 c.checkTariffs, firstFailure 8 c.checkFlow, firstFailure 9 c.checkPacker,
    firstFailure 10 c.checkManagers, firstFailure 11 (c.checkNodes own)].findSome? id

/-! ### A successful Commit (R194) -/

/-- The configuration region as a copy of its own. -/
def State.writtenCopy (s : State) : Mem := s.store.slice 0x62000 0x63000

/-- Every channel begins a new period under the setup in force, and works out its target (R156,
R158). -/
def commitChannels (s : State) : State :=
  refreshValves (s.setChannels (Vector.ofFn fun i =>
    { s.channels[i] with
      periodStart := s.now
      periodEnd := .running (s.now + s.cfg.channelPeriod i.val) }))

/-- The Charge Level condition at a successful Commit (R141). -/
def commitLevel (before : Bool) (s : State) : State :=
  if !before && s.chargeLevel then raiseNotice .chargeLevel s else s

/-- The written copy comes into force, and each block takes its action (R194). -/
def applyCommit (s : State) : State :=
  let old := s.cfg
  let level := s.chargeLevel
  let s := (s.setCfg s.writtenCopy).setMode { s.mode with configuring := false, committed := true }
  let s := clearRouteCounts s
  let s := s.setStatusTimer (.running (s.now + s.cfg.statusPeriod))
  let s := commitScanner old (resignal s)
  let s := commitTags (stations.foldl commitZero s)
  let s := commitChannels (setGroup s.cfg.groupStart s)
  commitLevel level (testBodyFull s)

end Sys2Proof.Machine
end

