-- ==== Sys2Proof/Machine/Management.lean ====
section
/-! DEFINITION. The Management Agent (12): the window, the pointers, the Node Mirror, the commands, the
Request Queue and its responses, and the notices' spacing timer. -/

namespace Sys2Proof.Machine

/-! ### The window (R187, R188) -/

/-- The Retained Store address of a Bank Area address. -/
def State.bankAddr (s : State) (a : Nat) : Nat := s.agent.bankBase * 0x1000 + (a - 0x1000)

/-- Whether a window address lies in the Node Mirror. -/
def inMirror (a : Nat) : Bool := decide (0xA000 ≤ a) && decide (a < 0xE000)

/-- The mirror slot of a window address. -/
def mirrorSlot (a : Nat) : Nat := (a - 0xA000) / 0x400

/-- The refusal of a read of one byte outside the Node Mirror. -/
def State.readRefusal (s : State) (a : Nat) : Option Status :=
  if 0xA000 ≤ a then some .badAddress
  else if 0x1000 ≤ a ∧ a < 0x9000 ∧ s.bankAddr a < 0x60000 ∧ s.table.moving then some .busy
  else none

/-- The byte at a window address outside the Node Mirror and the Snapshot Port. -/
def State.windowByte (s : State) (a : Nat) : Byte :=
  if a < 0x1000 then s.controlByte a
  else if a < 0x9000 then
    (if s.bankAddr a < 0x63100 then s.store.read (s.bankAddr a) else 0)
  else s.queueByte (a - 0x9000)

/-- The addresses of a request of `n` bytes. -/
def span (a n : Nat) : List Nat := (List.range n).map (a + ·)

/-- Whether a Control Area address is a byte of the Snapshot Port. -/
def isPort (a : Nat) : Bool := decide (4 ≤ a) && decide (a < 8)

/-- Reads a span of bytes. A read that names a Snapshot Port byte takes one word (R184). -/
def readSpan (a n : Nat) (s : State) : List Byte × State :=
  if (span a n).any isPort then
    let (word, snaps) := s.snaps.take
    ((span a n).map fun x => if isPort x then byteAt word (x - 4) else s.windowByte x,
      s.setSnaps snaps)
  else ((span a n).map s.windowByte, s)

/-- The bytes of an item at `base` after a write of `bytes` from `a` on: the bytes written, and the
others as they stand (R188). -/
def mergeItem (old : List Byte) (base a : Nat) (bytes : List Byte) : List Byte :=
  old.mapIdx fun i b =>
    if a ≤ base + i ∧ base + i < a + bytes.length then byteAt bytes (base + i - a) else b

/-- Whether an address lies in an item. -/
def inItem (base size a : Nat) : Bool := decide (base ≤ a) && decide (a < base + size)

/-- The value of an item of `size` bytes at `base` after a write of `bytes` from `a` on; a write that
names none of its bytes leaves it. -/
def mergeNum (old base size a : Nat) (bytes : List Byte) : Nat :=
  if a + bytes.length ≤ base ∨ base + size ≤ a then old
  else ofLe (mergeItem (leBytes size old) base a bytes)

/-- The Bank Base that a write would leave. -/
def State.newBank (s : State) (a : Nat) (bytes : List Byte) : Nat :=
  mergeNum s.agent.bankBase 2 2 a bytes

/-- The Record Count that a write would leave. -/
def State.newCount (s : State) (a : Nat) (bytes : List Byte) : Nat :=
  mergeNum s.table.recordCount 8 2 a bytes

/-- The Next Sequence that a write would leave. -/
def State.newSeq (s : State) (a : Nat) (bytes : List Byte) : Nat :=
  mergeNum s.queue.nextSeq 0xC 4 a bytes

/-- The Charge Queue may be written: Maintenance is on, Count and Reserved are both 0 (R188). -/
def State.queueOpen (s : State) : Bool :=
  s.mode.maintenance && decide (s.queue.count = 0) && decide (s.queue.reserved = 0)

/-- The refusal of a write to one Control Area byte (R188). -/
def State.controlRefusal (s : State) (a : Nat) (bytes : List Byte) (x : Nat) : Option Status :=
  if inItem 2 2 x then (if s.newBank a bytes ≤ 120 then none else some .badValue)
  else if isPort x then some .badAddress
  else if inItem 8 2 x then (if s.table.state = .opened then none else some .locked)
  else if inItem 0xC 4 x then
    (if !s.queueOpen then some .locked
     else if s.newSeq a bytes = 0 then some .badValue else none)
  else if inItem 0x10 32 x then none
  else some .locked

/-- The refusal of a write to one Retained Store byte (R114, R188). -/
def State.storeRefusal (s : State) (x : Nat) : Option Status :=
  let lockUnless (b : Bool) : Option Status := if b then none else some .locked
  if x < 0x60000 then lockUnless (s.table.state == .opened)
  else if x < 0x62000 then lockUnless s.queueOpen
  else if x < 0x63000 then lockUnless s.mode.configuring
  else if x < 0x63100 then lockUnless s.mode.maintenance
  else some .badAddress

/-- The refusal of a write to one window byte outside the Node Mirror. -/
def State.writeRefusal (s : State) (a : Nat) (bytes : List Byte) (x : Nat) : Option Status :=
  if 0xA000 ≤ x then some .badAddress
  else if x < 0x1000 then s.controlRefusal a bytes x
  else if x < 0x9000 then s.storeRefusal (s.bankAddr x)
  else some .locked

/-- Writes the bytes of a span that lie in the Bank Area. -/
def State.writeBank (s : State) (a : Nat) : List Byte → Mem → Mem
  | [], m => m
  | b :: bs, m =>
    s.writeBank (a + 1) bs
      (if 0x1000 ≤ a ∧ a < 0x9000 then m.write (s.bankAddr a) b else m)

/-- Writes a span that no rule refuses. -/
def writeSpan (a : Nat) (bytes : List Byte) (s : State) : State :=
  let t := s.table
  let m := s.writeBank a bytes s.store
  let bank := s.newBank a bytes
  let seq := s.newSeq a bytes
  let s := s.setTable { t with
    recordCount := s.newCount a bytes, staging := mergeItem t.staging 0x10 a bytes }
  let s := s.setQueue { s.queue with nextSeq := seq }
  (s.setStore m).setAgent { s.agent with bankBase := bank }

/-! ### Reads and writes as requests (R186, R187, R189) -/

/-- A read or a write as it is resolved: its kind, its first address, its length, the bytes written,
and the most that its length may be. -/
structure Op where
  write : Bool
  addr : Nat
  len : Nat
  bytes : List Byte
  most : Nat
  deriving DecidableEq, Repr

/-- The pointer of a manager (R189). -/
def Agent.pointer (g : Agent) : Manager → Nat
  | .terminal => g.terminalPtr
  | .service => g.servicePtr

/-- Sets a manager's pointer. -/
def Agent.setPointer (g : Agent) (m : Manager) (a : Nat) : Agent :=
  match m with
  | .terminal => { g with terminalPtr := a }
  | .service => { g with servicePtr := a }

/-- The read or write that a request asks, with the manager's pointer. -/
def bodyOp (ptr : Nat) : ReqBody → Option Op
  | .read a n => some ⟨false, a.toNat, n.toNat, [], 4⟩
  | .write a n b => some ⟨true, a.toNat, n.toNat, b, 4⟩
  | .readNext n => some ⟨false, ptr, n.toNat, [], 6⟩
  | .writeNext n b => some ⟨true, ptr, n.toNat, b, 6⟩
  | _ => none

/-- Whether a request uses the pointer. -/
def isNext : ReqBody → Bool
  | .readNext _ => true
  | .writeNext .. => true
  | _ => false

/-- A length outside its range, or fewer write bytes than it names (R186, 13). -/
def Op.malformed (o : Op) : Bool :=
  decide (o.len = 0) || decide (o.most < o.len) || (o.write && decide (o.bytes.length < o.len))

/-- The write bytes that the length names. -/
def Op.data (o : Op) : List Byte := o.bytes.take o.len

/-- The lowest refused byte's refusal (R187). -/
def State.refusal (s : State) (o : Op) : Option Status :=
  (span o.addr o.len).findSome? fun x =>
    if o.write then s.writeRefusal o.addr o.data x else s.readRefusal x

/-- Whether every byte lies in one slot of the Node Mirror. -/
def Op.inOneSlot (o : Op) : Bool :=
  (span o.addr o.len).all fun x => inMirror x && decide (mirrorSlot x = mirrorSlot o.addr)

/-- What serving a request does: an answer, or the hold of the head (R185). -/
inductive Served where
  | answer (a : Answer)
  | held (h : Hold)
  deriving DecidableEq, Repr

/-- Advances a manager's pointer after a Read Next or Write Next answered Done (R189). -/
def advance (m : Manager) (body : ReqBody) (len : Nat) (s : State) : State :=
  if isNext body then s.setAgent (s.agent.setPointer m (s.agent.pointer m + len)) else s

/-! ### The Node Mirror (R191, R192) -/

/-- The data bytes of an access's Node Query (R199). DESIGN CHOICE (log entry 29): bits 2 and 3 of byte 0,
which the table of data bytes gives neither a field nor a value, are sent as 0. -/
def Op.query (o : Op) : List Byte :=
  let offset := (o.addr - 0xA000) % 0x400
  [BitVec.ofNat 8 (packBits [(flagNat o.write, 7), (o.len, 4), (offset / 256, 0)]),
    BitVec.ofNat 8 offset] ++ o.data

/-- The access as the slot keeps it: with the write bytes that its length names. -/
def normalBody : ReqBody → ReqBody
  | .write a n b => .write a n (b.take n.toNat)
  | .writeNext n b => .writeNext n (b.take n.toNat)
  | b => b

/-- Whether an access is identical to a request (R191). -/
def Access.same (a : Access) (m : Manager) (body : ReqBody) (addr : Nat) : Bool :=
  decide (a.mgr = m) && decide (a.body = normalBody body) && decide (a.addr = addr)

/-- Replaces the Deferred Slot. -/
def State.setDeferred (s : State) (d : Deferred) : State := s.setAgent { s.agent with deferred := d }

/-- Offers an access's Node Query to the Control Queue. -/
def offerQuery (a : Access) (s : State) : State :=
  offerControl (s.bodyFrame .nodeQuery a.node a.qtag a.query) false s

/-- An access taken into the Free slot (R191, R199). -/
def takeAccess (m : Manager) (body : ReqBody) (o : Op) (s : State) : State :=
  let qtag := s.agent.queryTag + 1
  let a : Access := ⟨m, normalBody body, o.addr, BitVec.ofNat 8 (s.cfg.listNode (mirrorSlot o.addr)), qtag,
    o.query⟩
  offerQuery a (s.setAgent { s.agent with
    queryTag := qtag, deferred := .querying a (.running (s.now + Config.queryTime)) })

/-- Collects the result of a Ready slot (R191). -/
def collect (m : Manager) (body : ReqBody) (o : Op) (r : MirrorResult) (s : State) : Answer × State :=
  let s := s.setDeferred .free
  match r with
  | .data b => (⟨.done, b⟩, advance m body o.len s)
  | .timeout => (plain .nodeTimeout, s)

/-- A mirror access (R191). -/
def mirrorRequest (m : Manager) (body : ReqBody) (o : Op) (s : State) : Answer × State :=
  if !s.cfg.nodeEnabled (mirrorSlot o.addr) then (plain .badAddress, s)
  else
    match s.agent.deferred with
    | .free => (plain .deferred, takeAccess m body o s)
    | .querying a _ => (plain (if a.same m body o.addr then .deferred else .busy), s)
    | .requerying a _ => (plain (if a.same m body o.addr then .deferred else .busy), s)
    | .ready a r _ => if a.same m body o.addr then collect m body o r s else (plain .busy, s)

/-- The length of an access's read, or none for a write. -/
def Access.readLen (a : Access) : Option Nat :=
  match a.body with
  | .read _ n => some n.toNat
  | .readNext n => some n.toNat
  | _ => none

/-- The result that Node Data gives an access; none when a test of R192 fails. -/
def Access.resultOf (a : Access) (src : Byte) (tag : BitVec 4) (data : List Byte) :
    Option MirrorResult :=
  if decide (src = a.node) && decide (tag = a.qtag) && decide (data.take 2 = a.query.take 2) &&
      decide (data.length = 2 + a.readLen.getD 0) then
    some (.data (data.drop 2))
  else none

/-- One more in Stray Node Data. -/
def strayData (s : State) : State :=
  s.setAgent { s.agent with strayNodeData := bump s.agent.strayNodeData }

/-- A delivered Node Data frame (R192). -/
def nodeData (src : Byte) (tag : BitVec 4) (data : List Byte) (s : State) : State :=
  let take (a : Access) : State :=
    match a.resultOf src tag data with
    | some r => s.setDeferred (.ready a r (.running (s.now + Config.resultTime)))
    | none => strayData s
  match s.agent.deferred with
  | .querying a _ => take a
  | .requerying a _ => take a
  | _ => strayData s

/-- The query timer expires (R192). -/
def queryExpiry (s : State) : State :=
  match s.agent.deferred with
  | .querying a t =>
    onExpiry t s fun _ s =>
      offerQuery a (s.setDeferred (.requerying a (.running (s.now + Config.queryTime))))
  | .requerying a t =>
    onExpiry t s fun _ s =>
      s.setDeferred (.ready a .timeout (.running (s.now + Config.resultTime)))
  | _ => s

/-- The 2 s timer of a Ready slot expires (R192). -/
def resultExpiry (s : State) : State :=
  match s.agent.deferred with
  | .ready _ _ t => onExpiry t s fun _ s => s.setDeferred .free
  | _ => s

/-- A read or write that no rule of length refuses (R187). -/
def accessOp (m : Manager) (body : ReqBody) (o : Op) (s : State) : Answer × State :=
  if o.inOneSlot then mirrorRequest m body o s
  else if (span o.addr o.len).any fun x => decide (0xA000 ≤ x) then (plain .badAddress, s)
  else
    match s.refusal o with
    | some st => (plain st, s)
    | none =>
      if o.write then (plain .done, advance m body o.len (writeSpan o.addr o.data s))
      else
        let (b, s) := readSpan o.addr o.len s
        (⟨.done, b⟩, advance m body o.len s)

/-- Read, Write, Read Next or Write Next (R186, R187, R189). -/
def access (m : Manager) (body : ReqBody) (o : Op) (s : State) : Answer × State :=
  if o.malformed then (plain .badValue, s) else accessOp m body o s

/-! ### Commands (R190) -/

/-- A command that is answered Done. -/
def doneWith (s : State) : Answer × State := (plain .done, s)

/-- A command that is refused and changes nothing. -/
def refuse (st : Status) (s : State) : Answer × State := (plain st, s)

/-- Every station is in Idle. -/
def State.allIdle (s : State) : Bool := stations.all fun st => (s.lift st).state == .idle

/-- Table Open (R115). DESIGN CHOICE (log entry 26): a table that is Open already answers Done whatever the
stations do. -/
def tableOpen (s : State) : Answer × State :=
  if s.table.state = .opened then doneWith s
  else if !s.allIdle then refuse .notPermitted s
  else if s.table.ready || s.table.state == .invalid then
    doneWith ((s.setTable { s.table with state := .opened }).countTable fun c =>
      { c with opens := bump c.opens })
  else refuse .notPermitted s

/-- Table Close (R117). -/
def tableClose (s : State) : Answer × State :=
  if s.table.state = .opened then doneWith (beginCheck s) else refuse .notPermitted s

/-- A taken edit command ends with a Table Result (R118). -/
def editResult (r : TableResult) (s : State) : Answer × State :=
  (⟨if r = .done then .done else .badValue, [BitVec.ofNat 8 (r.code - 1)]⟩, endEdit r s)

/-- Update (R119). -/
def update (s : State) : Answer × State :=
  if !s.table.ready then refuse .notPermitted s
  else if badRecord s.table.staging then editResult .badRecord s
  else
    match s.find (recTag s.table.staging) with
    | none => editResult .notFound s
    | some p => editResult .done (updateRecord p s)

/-- A command's move or walk: it is held while it runs, and one without a step, but for an Insert's
write, ends in the handling that takes it (R121, R122). -/
def runMove (j : Journal) (ended : State → Answer × State) (s : State) : Served × State :=
  let s := beginMove j s
  if s.table.stepsLeft || j.op == .insert then (.held .table, s)
  else
    let (a, s) := ended (completeMove s)
    (.answer a, s)

/-- An answer that needs no hold. -/
def now (p : Answer × State) : Served × State := (.answer p.1, p.2)

/-- Insert (R120). -/
def insert (s : State) : Served × State :=
  if !s.table.ready then now (refuse .notPermitted s)
  else
    match s.insertStart with
    | .result r => now (editResult r s)
    | .move j => runMove j (editResult .done) s

/-- Delete (R121). -/
def delete (s : State) : Served × State :=
  if !s.table.ready then now (refuse .notPermitted s)
  else
    match s.deleteStart with
    | .result r => now (editResult r s)
    | .move j => runMove j (editResult .done) s

/-- Open Period (R122). DESIGN CHOICE (log entry 28): the journal's position is 0. -/
def openPeriod (s : State) : Served × State :=
  if !s.table.ready then now (refuse .notPermitted s)
  else runMove ⟨.openPeriod, 0, 0, []⟩ doneWith s

/-- Release (R142): answered with the number removed. -/
def release (n : Nat) (s : State) : Answer × State :=
  let (k, s) := releaseRecords n s
  (⟨.done, leBytes 2 k⟩, s)

/-- Latch (R183): answered with the items that this command latched. -/
def latch (sel : BitVec 32) (s : State) : Answer × State :=
  let p := s.snaps
  let st := hasBit sel 0
  let tot := hasBit sel 1
  let named := packBits [(flagNat (st && !p.status.latched), 0), (flagNat (tot && !p.totals.latched), 1)]
  (⟨.done, [BitVec.ofNat 8 named]⟩,
    s.setSnaps
      ⟨if st then p.status.latch s.statusBytes else p.status,
       if tot then p.totals.latch s.totalsBytes else p.totals⟩)

/-- Clear Flags (R77, R190): bit 0 names Tag Overrun. -/
def clearFlags (set : BitVec 32) (s : State) : State :=
  if hasBit set 0 then s.setTags { s.tags with overrun := false } else s

/-- Acknowledge Notices (R197): the Latched kinds named. -/
def acknowledgeNotices (set : BitVec 32) (s : State) : State :=
  let latched := BitVec.ofNat 16 set.toNat &&& ~~~ s.cfg.noticeModes
  s.setAgent { s.agent with notices := s.agent.notices &&& ~~~ latched }

/-- Acknowledge Changes (R39). -/
def acknowledgeChanges (set : BitVec 32) (s : State) : State :=
  s.setScanner { s.scanner with changeMap := s.scanner.changeMap &&& ~~~ set }

/-- Zero Capture (R105). -/
def zeroCapture (station : Byte) (s : State) : Answer × State :=
  match Station.ofNum station.toNat with
  | none => refuse .badValue s
  | some st =>
    if !s.configured then refuse .notPermitted s
    else if (s.lift st).state != .idle then refuse .notPermitted s
    else if (s.scale st).capture.isRunning then refuse .busy s
    else doneWith (beginCapture st s)

/-- Set Lowest (R149). -/
def setLowest (station : Byte) (s : State) : Answer × State :=
  match Station.ofNum station.toNat with
  | none => refuse .badValue s
  | some st => doneWith (commandLowest st s)

/-- Set Clock (R179). -/
def setClock (v : BitVec 32) (s : State) : Answer × State :=
  if v = 0 then refuse .badValue s else doneWith (setClockTo v.toNat s)

/-- Every function is at rest: each station in Idle, the packer Parked, the tailgate in Closed. -/
def State.atRest (s : State) : Bool :=
  s.allIdle && s.packer.state == .parked && s.tailgate.state == .closed

/-- Configuration Open (R193). -/
def configurationOpen (s : State) : Answer × State :=
  if s.mode.configuring then doneWith s
  else if s.atRest && !s.mode.maintenance then
    let s := s.setMode { s.mode with configuring := true }
    let s := clearPackPending ((fins 64).foldl openRoute s)
    doneWith (stations.foldl (fun s st => cancelCapture st s) s)
  else refuse .notPermitted s

/-- Commit (R194). -/
def commit (s : State) : Answer × State :=
  if !s.mode.configuring then refuse .notPermitted s
  else
    match s.writtenCopy.commitFailure s.sys.ownNode.toNat with
    | some f => (⟨.badValue, BitVec.ofNat 8 f.item :: leBytes 2 f.index⟩, s)
    | none => doneWith (applyCommit s)

/-- Maintenance Enter (R195). -/
def maintenanceEnter (m : Manager) (s : State) : Answer × State :=
  if m = .terminal then refuse .notPermitted s
  else if s.mode.maintenance then doneWith s
  else if s.atRest && !s.mode.configuring then
    doneWith (clearPackPending (s.setMode { s.mode with maintenance := true }))
  else refuse .notPermitted s

/-- Maintenance Leave (R195). -/
def maintenanceLeave (m : Manager) (s : State) : Answer × State :=
  if m = .terminal then refuse .notPermitted s
  else doneWith (s.setMode { s.mode with maintenance := false })

/-- Serves a Command request by its code (R190, 13). Release uses bytes 2 and 3, a station argument
byte 2. -/
def serveCommand (m : Manager) (code : Byte) (arg : BitVec 32) (s : State) : Served × State :=
  let station : Byte := arg.setWidth 8
  match code.toNat with
  | 1 => now (tableOpen s)
  | 2 => now (tableClose s)
  | 3 => insert s
  | 4 => now (update s)
  | 5 => delete s
  | 6 => openPeriod s
  | 7 => now (release (arg.setWidth 16).toNat s)
  | 8 => now (latch arg s)
  | 9 => now (doneWith (clearTotals s))
  | 10 => now (doneWith (clearFlags arg s))
  | 11 => now (doneWith (acknowledgeNotices arg s))
  | 12 => now (doneWith (acknowledgeChanges arg s))
  | 13 => now (zeroCapture station s)
  | 14 => now (setLowest station s)
  | 15 => now (setClock arg s)
  | 16 => now (configurationOpen s)
  | 17 => now (commit s)
  | 18 => now (maintenanceEnter m s)
  | 19 => now (maintenanceLeave m s)
  | 20 => (.held .bodyReset, s)
  | _ => now (refuse .unknownRequest s)

/-! ### The Request Queue (R185, R186) -/

/-- Serves what a request asks. -/
def serveBody (m : Manager) (body : ReqBody) (s : State) : Served × State :=
  match body with
  | .setPointer a => now (doneWith (s.setAgent (s.agent.setPointer m a.toNat)))
  | .command code arg => serveCommand m code arg s
  | .short _ => now (refuse .badValue s)
  | .unknown _ => now (refuse .unknownRequest s)
  | b =>
    match bodyOp (s.agent.pointer m) b with
    | some o => now (access m b o s)
    | none => now (refuse .unknownRequest s)

/-- Counts a status given (R186). -/
def countStatus (st : Status) (s : State) : State :=
  s.setAgent { s.agent with
    statusCounts := s.agent.statusCounts.set st.code (bump s.agent.statusCounts[st.code]) }

/-- Sends the one Management Response of a request (R186). `reset` marks the response that a Body Reset
waits for. -/
def respond (r : Request) (a : Answer) (reset : Bool) (s : State) : State :=
  let data := kindByte r.body :: BitVec.ofNat 8 a.status.code.val :: a.data
  offerControl (s.bodyFrame .managementResponse r.src r.tag data) reset (countStatus a.status s)

/-- Counts a request served. -/
def countRequest (s : State) : State := s.setAgent { s.agent with served := bump s.agent.served }

/-- The head is answered and leaves the queue (R185). -/
def answerHead (r : Request) (a : Answer) (s : State) : State :=
  let s := countRequest (respond r a false s)
  s.setAgent { s.agent with queue := s.agent.queue.tail, hold := .none }

/-- The head is held (R185): a Body Reset is answered Done and waits for its response to leave (R198). -/
def holdHead (r : Request) (h : Hold) (s : State) : State :=
  let s := s.setAgent { s.agent with hold := h }
  match h with
  | .bodyReset => countRequest (respond r (plain .done) true s)
  | _ => s

/-- Serves the head of the Request Queue. -/
def serveRequest (r : Request) (s : State) : State :=
  match serveBody r.mgr r.body s with
  | (.answer a, s) => answerHead r a s
  | (.held h, s) => holdHead r h s

/-- Serves requests from the head until the queue is empty or its head is held (R185). The number
bounds the requests served; the queue holds no more. -/
def serveQueue : Nat → State → State
  | 0, s => s
  | n + 1, s =>
    match s.agent.hold, s.agent.queue with
    | .none, r :: _ => serveQueue n (serveRequest r s)
    | _, _ => s

/-- The Agent serves what waits (log entry 5). -/
def serveAgent (s : State) : State := serveQueue s.agent.queue.length s

/-- A taken request joins the tail of the queue, or is answered Busy at once when the queue is full
(R185). -/
def takeRequest (r : Request) (s : State) : State :=
  if s.agent.queue.length < Config.requestPlaces then
    s.setAgent { s.agent with queue := s.agent.queue ++ [r] }
  else respond r (plain .busy) false s

/-- A delivered Management Request joins, or is ignored when it comes from no manager's node (R185). -/
def receiveRequest (src : Byte) (tag : BitVec 4) (data : List Byte) (s : State) : State :=
  match [Manager.terminal, Manager.service].find? fun m => decide (s.cfg.managerNode m = src.toNat) with
  | some m => takeRequest ⟨m, src, tag, parseRequest data⟩ s
  | none => s.setAgent { s.agent with foreignRequests := bump s.agent.foreignRequests }

/-- A manager's request, sent from its node in force, is taken and served (R185). -/
def submit (m : Manager) (tag : BitVec 4) (body : ReqBody) (s : State) : State :=
  serveAgent (takeRequest ⟨m, BitVec.ofNat 8 (s.cfg.managerNode m), tag, body⟩ s)

/-- The held command's response when its move or walk has ended (R120 to R122, R185); a resumed one has
none. -/
def answerMove (op : JournalOp) (s : State) : State :=
  match s.agent.hold, s.agent.queue with
  | .table, r :: _ =>
    if op = .openPeriod then answerHead r (plain .done) s
    else
      let (a, s) := editResult .done s
      answerHead r a s
  | _, _ => s

/-- The end of a move or walk of one operation, when it is due (R120 to R122). -/
def moveEnd (op : JournalOp) (s : State) : State :=
  if s.table.journal.op = op ∧ !s.table.stepsLeft then
    onExpiry s.table.moveTimer s fun _ s => serveAgent (answerMove op (completeMove s))
  else s

/-! ### Notices (R196) -/

/-- The spacing timer expires (R196). -/
def spacingExpiry (s : State) : State :=
  onExpiry s.agent.spacing s fun _ s =>
    if s.agent.sendNeeded then sendNotice s
    else s.setAgent { s.agent with spacing := .stopped }

end Sys2Proof.Machine
end

