-- ==== Sys2Proof/Machine/Starts.lean ====
section
/-! DEFINITION. The three kinds of start and the loss of main power (R1, R178): what each block keeps
and what each block begins with. -/

namespace Sys2Proof.Machine

/-- The own node number of the address straps: 16 plus their value (00, Identifiers). -/
def ownNodeOf (na : BitVec 2) : Byte := 16 + na.setWidth 8

/-- The Clock after a start at time `t`: the three retained items are kept, the counts are 0 (R178).
The second that runs goes on across a Body Reset. DESIGN CHOICE (log entry 20): it goes on across a Warm
Start with main power present as well. -/
def Clock.kept (t : Nat) (c : Clock) : Clock :=
  { Clock.cold t with
    seconds := c.seconds, valid := c.valid, stepped := c.stepped
    tick := if c.tick.isRunning then c.tick else .running (t + Config.second) }

/-- The Household Table after a Warm Start or Body Reset, before it resumes (R124). -/
def Table.kept (tb : Table) : Table :=
  { Table.cold with
    state := tb.state, journal := tb.journal, recordCount := tb.recordCount
    checkResult := tb.checkResult, badIndex := tb.badIndex }

/-- The Charge Queue after a Warm Start or Body Reset: its records, and no reservation (R144). -/
def Queue.kept (q : Queue) : Queue :=
  { Queue.cold with head := q.head, count := q.count, nextSeq := q.nextSeq }

/-- The part with every retained item kept and every other item at its value after a start (R1): what
a start works on before its blocks act on what they find. -/
def restarted (na : BitVec 2) (kgood : Bool) (s : State) : State :=
  let t := s.sys.now
  { State.reset with
    sys := { powered := true, now := t, startedAt := t, na := na, kgood := kgood,
             contacts := s.sys.contacts, ownNode := ownNodeOf na }
    mode := { s.mode with maintenance := false }
    store := s.store
    cfg := s.cfg
    statusTimer := .running (t + s.cfg.statusPeriod)
    scanner := Scanner.start t
    markers := s.markers
    zeros := s.zeros
    table := s.table.kept
    queue := s.queue.kept
    arbiter := Arbiter.start s.cfg.groupStart
    channels := Vector.ofFn fun i => Channel.start t (s.cfg.channelPeriod i.val)
    payload := { s.payload with bodyFull := false }
    tailgate := { Tailgate.start with marker := s.tailgate.marker }
    clock := s.clock.kept t
    pending := s.pending }

/-- The retained items at their values after a Cold Start (R71, R104, R124, R144, R176, R178, R193). DESIGN
CHOICE (log entry 20): a whole new second begins, with main power present as well. -/
def coldRetained (s : State) : State :=
  { State.reset with
    sys := s.sys, pending := s.pending
    clock := { Clock.cold s.now with tick := .running (s.now + Config.second) } }

/-- A Cold Start (R1). -/
def coldStart (na : BitVec 2) (s : State) : State := restarted na false (coldRetained s)

/-- A station whose marker shows a lift (R72): it reserves, makes its start request and is in Fault.
The request is served when every marker has made its own (R144). A Fault from a start is neither counted
nor recorded: Last Fault Cause reads none after every start (R65, R69). -/
def markerStation (s : State) (st : Station) : State :=
  let m := s.marker st
  if m.furthest = .clear then s
  else
    let s := reserve (.station st) s
    let s := s.setBilling { s.billing with
      list := s.billing.list ++ [⟨.station st, .start m (decide (m.furthest = .dumped))⟩] }
    raiseNotice .stationFault (s.setLift st { s.lift st with state := .fault })

/-- The tailgate enters Fault at a start (R176), which is neither counted nor recorded (R175, R177). -/
def tailgateStartFault (s : State) : State :=
  raiseNotice .tailgateFault (s.setTailgate { s.tailgate with state := .fault })

/-- The tailgate acts on its marker (R176). -/
def markerTailgate (s : State) : State :=
  match s.tailgate.marker with
  | .clear => s
  | .ejecting =>
    let s := reserve .tailgate s
    tailgateStartFault (s.setBilling { s.billing with
      list := s.billing.list ++ [⟨.tailgate, .unload⟩] })
  | .opening | .closing => tailgateStartFault s

/-- The blocks act on what a Warm Start or Body Reset finds: the table resumes (R124), the markers make
their start requests, which are served in order (R72, R144), and Body Full is tested on what that leaves
(R176). -/
def resume (s : State) : State :=
  testBodyFull (serveBilling (markerTailgate (stations.foldl markerStation (resumeTable s))))

/-- A Warm Start (R1). -/
def warmStart (na : BitVec 2) (s : State) : State := resume (restarted na true s)

/-- The wait of a Body Reset is over (R198): the request is held, and its response has left the Control
Queue. -/
def State.resetDue (s : State) : Bool :=
  s.agent.hold == .bodyReset && s.control.all fun f => !f.reset

/-- A Body Reset start (R1, R198): it has the effect of a Warm Start. -/
def bodyResetStart (na : BitVec 2) (s : State) : State :=
  if s.resetDue then resume (restarted na s.sys.kgood s) else s

/-- Main power is lost (R178): what the retention supply holds is kept, the rest is gone, every output
is low and no timer runs. -/
def mainPowerLoss (s : State) : State :=
  let d := restarted s.sys.na s.sys.kgood s
  { d with
    sys := { s.sys with powered := false }
    statusTimer := .stopped
    scanner := { d.scanner with nextRead := .stopped }
    channels := d.channels.map fun x => { x with periodEnd := .stopped }
    clock := { d.clock with tick := .stopped } }

end Sys2Proof.Machine
end

