-- ==== Sys2Proof/Machine/Receiving.lean ====
section
/-! DEFINITION. A frame received whole (R8, R9): its count, the delivery of a consumed class to its
owner, and the Frame Router's matching; with the operator commands by their codes (R67). -/

namespace Sys2Proof.Machine

/-! ### Operator commands by code (R67) -/

/-- Cycle Start by command. -/
def commandStart (tag : BitVec 4) (station : Byte) (s : State) : State :=
  stationCommand .cycleStart tag station operatorStart s

/-- Return by command. -/
def commandReturn (tag : BitVec 4) (station : Byte) (s : State) : State :=
  stationCommand .returnLift tag station returnLift s

/-- Override by command. -/
def commandOverride (tag : BitVec 4) (station : Byte) (s : State) : State :=
  stationCommand .override tag station overrideLift s

/-- Recover by command. -/
def commandRecover (tag : BitVec 4) (station : Byte) (s : State) : State :=
  stationCommand .recover tag station recover s

/-- Pack by command. -/
def commandPack (tag : BitVec 4) (station : Byte) (s : State) : State :=
  served .pack tag station (pack s)

/-- Unload by command. -/
def commandUnload (tag : BitVec 4) (station : Byte) (s : State) : State :=
  served .unload tag station (unload s)

/-- Packer Recover by command. -/
def commandPackerRecover (tag : BitVec 4) (station : Byte) (s : State) : State :=
  served .packerRecover tag station (packerRecover s)

/-- Tailgate Recover by command. -/
def commandTailgateRecover (tag : BitVec 4) (station : Byte) (s : State) : State :=
  served .tailgateRecover tag station (tailgateRecover s)

/-- A command code outside the eight is answered Unknown Command (R67). -/
def commandUnknown (code : Byte) (tag : BitVec 4) (station : Byte) (s : State) : State :=
  sendReply code tag station .unknownCommand s

/-- A command taken from the Cab Node, by its code (R67, 13). -/
def takeCommand (code : Byte) (tag : BitVec 4) (station : Byte) (s : State) : State :=
  match code.toNat with
  | 1 => commandStart tag station s
  | 2 => commandReturn tag station s
  | 3 => commandOverride tag station s
  | 4 => commandRecover tag station s
  | 5 => commandPack tag station s
  | 6 => commandUnload tag station s
  | 7 => commandPackerRecover tag station s
  | 8 => commandTailgateRecover tag station s
  | _ => commandUnknown code tag station s

/-- A delivered Operator Command (R67). -/
def operatorCommand (src : Byte) (tag : BitVec 4) (data : List Byte) (s : State) : State :=
  if s.cfg.cabNode = src.toNat then takeCommand (byteAt data 0) tag (byteAt data 1) s
  else s.setForeignCommands (bump s.foreignCommands)

/-! ### Delivery (R9) -/

/-- Delivers a frame of a consumed class to its owner (R9), its fields as 13 lays them out. A Management
Request joins the Request Queue here, and the Agent serves it when the frame has been handled (log
entry 5). -/
def deliver (c : BodyClass) (f : Frame) (s : State) : State :=
  let src := idSource f.id
  match c with
  | .weighSample =>
    weighSample src (BitVec.ofNat 24 (field f.data 0 3)) (BitVec.ofNat 16 (field f.data 3 2))
      (byteAt f.data 5) s
  | .attitude =>
    attitude src (BitVec.ofNat 16 (field f.data 0 2)) (BitVec.ofNat 16 (field f.data 2 2)) s
  | .tagRead => tagRead src (BitVec.ofNat 40 (field f.data 0 5)) (byteAt f.data 5) s
  | .operatorCommand => operatorCommand src (idTag f.id) f.data s
  | .managementRequest => receiveRequest src (idTag f.id) f.data s
  | .nodeData => nodeData src (idTag f.id) f.data s
  | _ => s

/-- A frame of a consumed class whose data are too short: counted Malformed, not delivered (R9). -/
def countMalformed (s : State) : State :=
  s.setBody { s.body with malformed := bump s.body.malformed }

/-- Dispatches a Body Port frame (R9): a frame of a consumed class that is addressed to the part is
delivered, or counted Malformed when its data are too short. -/
def dispatch (f : Frame) (s : State) : State :=
  match frameClass f with
  | none => s
  | some c =>
    match c.minLength with
    | none => s
    | some n =>
      if !s.addressed f then s
      else if f.data.length < n then countMalformed s
      else deliver c f s

/-- Counts a received data frame (R2, R3). -/
def countReceived (p : Port) (s : State) : State :=
  let s := receivedWell p s
  s.setPort p { s.port p with received := bump (s.port p).received }

/-- A port passes a received frame to the Frame Router (R2, R8). -/
def frameReceived (p : Port) (f : Frame) (s : State) : State :=
  if (s.port p).off then s
  else
    let s := countReceived p s
    let s := if p = .body then dispatch f s else s
    serveAgent (routeFrame p f s)

/-- Hands data bytes of a consumed class to their owner, as a frame would carry them (R9): the first 8,
and none of a frame that is too short for its class. -/
def handData (c : BodyClass) (data : List Byte) (owner : List Byte → State → State) (s : State) :
    State :=
  if data.length < c.minLength.getD 0 then countMalformed s else owner (frameData data) s

/-- A delivered Management Request, taken and served (R185). -/
def managementRequest (src : Byte) (tag : BitVec 4) (data : List Byte) (s : State) : State :=
  serveAgent (receiveRequest src tag data s)

end Sys2Proof.Machine
end

