-- ==== Sys2Proof/WellFormed.lean ====
section
/-! DEFINITION. Which commands the WG-340's buses and pins can spell as their own row. Each check cites
the format that bounds the operand; an operand whose Lean type is already exact needs none. A command
outside these forms runs as well: its meaning reads it as the frame that would carry it (log entry 1). -/

namespace Sys2Proof

/-- A frame carries at most 8 data bytes, and a Standard identifier has 11 bits (01, frame parts). -/
def Frame.wf (f : Frame) : Bool :=
  decide (f.data.length ≤ 8) && (f.ext || decide (f.id.toNat ≤ 0x7FF))

/-- A Write holds at most 4 bytes and a Write Next at most 6: the data bytes a frame has left (13). -/
def ReqBody.wf : ReqBody → Bool
  | .write _ _ bytes => decide (bytes.length ≤ 4)
  | .writeNext _ bytes => decide (bytes.length ≤ 6)
  | _ => true

/-- The four request kinds that a mirror access can be (R191). -/
def ReqBody.isAccess : ReqBody → Bool
  | .read .. => true
  | .write .. => true
  | .readNext .. => true
  | .writeNext .. => true
  | _ => false

/-- A command is well formed when a sender can form it and its row is the one that names it.
* UNKNOWN_COMMAND carries a code outside the eight of R67.
* NODE_DATA and MANAGEMENT_REQUEST carry 2 to 8 data bytes: R9 delivers no shorter frame of the class.
* MIRROR_ACCESS is a Read, Write, Read Next or Write Next.
* UNKNOWN_REQUEST has a kind outside 1 to 6, or kind 6 with a code outside 1 to 20 (13). -/
def Instr.wellFormed : Instr → Bool
  | .frameReceived _ f => f.wf
  | .unknownCommand code _ _ => decide (code.toNat = 0 ∨ 8 < code.toNat)
  | .nodeData _ _ data => decide (2 ≤ data.length ∧ data.length ≤ 8)
  | .managementRequest _ _ data => decide (2 ≤ data.length ∧ data.length ≤ 8)
  | .write _ _ addr len bytes => (ReqBody.write addr len bytes).wf
  | .writeNext _ _ len bytes => (ReqBody.writeNext len bytes).wf
  | .mirrorAccess _ _ body => body.isAccess && body.wf
  | .unknownRequest _ _ kind code =>
    decide (kind.toNat = 0 ∨ 6 < kind.toNat ∨
      (kind.toNat = 6 ∧ (code.toNat = 0 ∨ 20 < code.toNat)))
  | _ => true

end Sys2Proof
end

