-- ==== Sys2Proof/Machine/Meanings.lean ====
section
/-! DEFINITION. The meaning of every command: one definition for each constructor of `Instr`. Each is one
whole step of the part (95): its effect, then the toggle outputs that follow the states it leaves (R161).
A part without main power takes no command but a start. -/

namespace Sys2Proof.Machine

/-- A group read with the return lines that the driven group then shows (R32). -/
def driveLines (lines : Byte) (s : State) : State :=
  let low := 8 * s.scanner.pointer
  let others : BitVec 32 := ~~~ (BitVec.ofNat 32 (0xFF * 2 ^ low))
  groupRead lines (s.setSys { s.sys with
    contacts := (s.sys.contacts &&& others) ||| BitVec.ofNat 32 (lines.toNat * 2 ^ low) })

/-- A Cycle Start from a Start input, or from the operator command with its reply (R47, R67). -/
def startFrom (src : StartSource) (s : State) : State :=
  match src with
  | .input st => (cycleStart st s).2
  | .command tag station => commandStart tag station s

/-- The check of a table ends when its time has come (R117). -/
def checkExpiry (s : State) : State := onExpiry s.table.checkTimer s fun _ s => endCheck s

/-! ### Starts and power (R1, R178, R198) -/

/-- COLD_START (R1). DESIGN CHOICE (log entry 4): one taken with power present is the release of RSTN; until
then the part runs on. -/
def execColdStart (na : BitVec 2) (s : State) : Host.Outcome State Fault Refusal :=
  .next (settleToggles (coldStart na s))

/-- WARM_START (R1). DESIGN CHOICE (log entry 4): one taken with power present is the release of RSTN; until
then the part runs on. -/
def execWarmStart (na : BitVec 2) (s : State) : Host.Outcome State Fault Refusal :=
  .next (settleToggles (warmStart na s))

/-- MAIN_POWER_LOSS (R178). -/
def execMainPowerLoss (s : State) : Host.Outcome State Fault Refusal :=
  .next (mainPowerLoss s)

/-- BODY_RESET_START (R1). -/
def execBodyResetStart (na : BitVec 2) (s : State) : Host.Outcome State Fault Refusal :=
  .next (handled (bodyResetStart na) s)

/-! ### Ports, routes and signals (01, 02) -/

/-- FRAME_RECEIVED (R8). -/
def execFrameReceived (p : Port) (f : Frame) (s : State) : Host.Outcome State Fault Refusal :=
  .next (handled (frameReceived p (carriedFrame f)) s)

/-- FRAME_SENT (R6). -/
def execFrameSent (p : Port) (s : State) : Host.Outcome State Fault Refusal :=
  .next (handled (frameSent p) s)

/-- LOST_ARBITRATION (R6). -/
def execLostArbitration (p : Port) (s : State) : Host.Outcome State Fault Refusal :=
  .next (handled (lostArbitration p) s)

/-- TRANSMIT_ERROR (R3). -/
def execTransmitError (p : Port) (s : State) : Host.Outcome State Fault Refusal :=
  .next (handled (transmitError p) s)

/-- RECEIVE_ERROR (R3). -/
def execReceiveError (p : Port) (s : State) : Host.Outcome State Fault Refusal :=
  .next (handled (receiveError p) s)

/-- RECOVERY_TIMER_EXPIRY (R4). -/
def execRecoveryTimerExpiry (p : Port) (s : State) : Host.Outcome State Fault Refusal :=
  .next (handled (recoverPort p) s)

/-- ROUTE_INTERVAL_EXPIRY (R14). -/
def execRouteIntervalExpiry (i : Fin 64) (s : State) : Host.Outcome State Fault Refusal :=
  .next (handled (routeExpiry i) s)

/-- STATUS_TIMER_EXPIRY (R17). -/
def execStatusTimerExpiry (s : State) : Host.Outcome State Fault Refusal :=
  .next (handled statusExpiry s)

/-- FRESHNESS_TIMER_EXPIRY (R24). -/
def execFreshnessTimerExpiry (k : SlotId) (s : State) : Host.Outcome State Fault Refusal :=
  .next (handled (freshnessExpiry k) s)

/-- SLOT_HOLD_TIMER_EXPIRY (R25). -/
def execSlotHoldTimerExpiry (k : SlotId) (s : State) : Host.Outcome State Fault Refusal :=
  .next (handled (slotHoldExpiry k) s)

/-! ### Inputs (03) -/

/-- GROUP_READ (R32). -/
def execGroupRead (lines : Byte) (s : State) : Host.Outcome State Fault Refusal :=
  .next (handled (driveLines lines) s)

/-! ### Operator commands (04, 10) -/

/-- CYCLE_START (R47). -/
def execCycleStart (src : StartSource) (s : State) : Host.Outcome State Fault Refusal :=
  .next (handled (startFrom src) s)

/-- RETURN (R58). -/
def execReturnLift (tag : BitVec 4) (station : Byte) (s : State) :
    Host.Outcome State Fault Refusal :=
  .next (handled (commandReturn tag station) s)

/-- OVERRIDE (R59). -/
def execOverrideLift (tag : BitVec 4) (station : Byte) (s : State) :
    Host.Outcome State Fault Refusal :=
  .next (handled (commandOverride tag station) s)

/-- RECOVER (R66). -/
def execRecover (tag : BitVec 4) (station : Byte) (s : State) : Host.Outcome State Fault Refusal :=
  .next (handled (commandRecover tag station) s)

/-- PACK (R165). -/
def execPack (tag : BitVec 4) (station : Byte) (s : State) : Host.Outcome State Fault Refusal :=
  .next (handled (commandPack tag station) s)

/-- UNLOAD (R173). -/
def execUnload (tag : BitVec 4) (station : Byte) (s : State) : Host.Outcome State Fault Refusal :=
  .next (handled (commandUnload tag station) s)

/-- PACKER_RECOVER (R170). -/
def execPackerRecover (tag : BitVec 4) (station : Byte) (s : State) :
    Host.Outcome State Fault Refusal :=
  .next (handled (commandPackerRecover tag station) s)

/-- TAILGATE_RECOVER (R175). -/
def execTailgateRecover (tag : BitVec 4) (station : Byte) (s : State) :
    Host.Outcome State Fault Refusal :=
  .next (handled (commandTailgateRecover tag station) s)

/-- UNKNOWN_COMMAND (R67); one of the eight codes is the command it names. -/
def execUnknownCommand (code : Byte) (tag : BitVec 4) (station : Byte) (s : State) :
    Host.Outcome State Fault Refusal :=
  .next (handled (takeCommand code tag station) s)

/-! ### Lift timers (04) -/

/-- PHASE_TIMER_EXPIRY (R50). -/
def execPhaseTimerExpiry (st : Station) (s : State) : Host.Outcome State Fault Refusal :=
  .next (handled (phaseExpiry st) s)

/-- PAUSE_TIMER_EXPIRY (R53). -/
def execPauseTimerExpiry (st : Station) (s : State) : Host.Outcome State Fault Refusal :=
  .next (handled (pauseExpiry st) s)

/-- HOLD_TIMER_EXPIRY (R60). -/
def execHoldTimerExpiry (st : Station) (s : State) : Host.Outcome State Fault Refusal :=
  .next (handled (holdExpiry st) s)

/-- SEQUENCE_TIMER_EXPIRY (R61). -/
def execSequenceTimerExpiry (st : Station) (s : State) : Host.Outcome State Fault Refusal :=
  .next (handled (sequenceExpiry st) s)

/-! ### Tags and weighing (05, 06) -/

/-- TAG_READ (R74). -/
def execTagRead (src : Byte) (tag : BitVec 40) (strength : Byte) (s : State) :
    Host.Outcome State Fault Refusal :=
  .next (handled (tagRead src tag strength) s)

/-- TAG_ENTRY_EXPIRY (R78). -/
def execTagEntryExpiry (st : Station) (tag : BitVec 40) (s : State) :
    Host.Outcome State Fault Refusal :=
  .next (handled (tagEntryExpiry st tag.toNat) s)

/-- ASSIGNED_TAG_EMPTYING (R79). -/
def execAssignedTagEmptying (st : Station) (s : State) : Host.Outcome State Fault Refusal :=
  .next (handled (assignedTagEmptying st) s)

/-- WEIGH_SAMPLE (R88). -/
def execWeighSample (src : Byte) (count : BitVec 24) (angle : BitVec 16) (seq : Byte) (s : State) :
    Host.Outcome State Fault Refusal :=
  .next (handled (weighSample src count angle seq) s)

/-- SILENCE_TIMER_EXPIRY (R96). -/
def execSilenceTimerExpiry (st : Station) (s : State) : Host.Outcome State Fault Refusal :=
  .next (handled (silenceExpiry st) s)

/-- ATTITUDE (R97). -/
def execAttitude (src : Byte) (pitch : BitVec 16) (roll : BitVec 16) (s : State) :
    Host.Outcome State Fault Refusal :=
  .next (handled (attitude src pitch roll) s)

/-- ATTITUDE_TIMER_EXPIRY (R97). -/
def execAttitudeTimerExpiry (s : State) : Host.Outcome State Fault Refusal :=
  .next (handled attitudeExpiry s)

/-- ZERO_CAPTURE_TIMER_EXPIRY (R106). -/
def execZeroCaptureTimerExpiry (st : Station) (s : State) : Host.Outcome State Fault Refusal :=
  .next (handled (captureExpiry st) s)

/-! ### Household Table (07) -/

/-- MOVE_STEP (R123). -/
def execMoveStep (s : State) : Host.Outcome State Fault Refusal :=
  .next (handled moveStep s)

/-- INSERT_MOVE_END (R120). -/
def execInsertMoveEnd (s : State) : Host.Outcome State Fault Refusal :=
  .next (handled (moveEnd .insert) s)

/-- DELETE_MOVE_END (R121). -/
def execDeleteMoveEnd (s : State) : Host.Outcome State Fault Refusal :=
  .next (handled (moveEnd .delete) s)

/-- OPEN_PERIOD_WALK_END (R122). -/
def execOpenPeriodWalkEnd (s : State) : Host.Outcome State Fault Refusal :=
  .next (handled (moveEnd .openPeriod) s)

/-- TABLE_CHECK_END (R117). -/
def execTableCheckEnd (s : State) : Host.Outcome State Fault Refusal :=
  .next (handled checkExpiry s)

/-! ### Packer and tailgate (10) -/

/-- ENCODER_PULSE (R167). -/
def execEncoderPulse (s : State) : Host.Outcome State Fault Refusal :=
  .next (handled encoderPulse s)

/-- STALL_TIMER_EXPIRY (R167). -/
def execStallTimerExpiry (s : State) : Host.Outcome State Fault Refusal :=
  .next (handled stallExpiry s)

/-- EXTEND_LIMIT_EXPIRY (R167). -/
def execExtendLimitExpiry (s : State) : Host.Outcome State Fault Refusal :=
  .next (handled (packerLimitExpiry .extending .extendTimeout) s)

/-- DWELL_TIMER_EXPIRY (R168). -/
def execDwellTimerExpiry (s : State) : Host.Outcome State Fault Refusal :=
  .next (handled dwellExpiry s)

/-- RETRACT_LIMIT_EXPIRY (R168). -/
def execRetractLimitExpiry (s : State) : Host.Outcome State Fault Refusal :=
  .next (handled (packerLimitExpiry .retracting .retractTimeout) s)

/-- PACKER_PAUSE_TIMER_EXPIRY (R170). -/
def execPackerPauseTimerExpiry (s : State) : Host.Outcome State Fault Refusal :=
  .next (handled packerPauseExpiry s)

/-- OPEN_TIME_REACHED (R174). -/
def execOpenTimeReached (s : State) : Host.Outcome State Fault Refusal :=
  .next (handled openTimeReached s)

/-- OPENING_LIMIT_EXPIRY (R174). -/
def execOpeningLimitExpiry (s : State) : Host.Outcome State Fault Refusal :=
  .next (handled (tailgateLimitExpiry .opening .openingTimeout) s)

/-- EJECT_TIMER_EXPIRY (R174). -/
def execEjectTimerExpiry (s : State) : Host.Outcome State Fault Refusal :=
  .next (handled ejectExpiry s)

/-- CLOSING_LIMIT_EXPIRY (R174). -/
def execClosingLimitExpiry (s : State) : Host.Outcome State Fault Refusal :=
  .next (handled (tailgateLimitExpiry .closing .closingTimeout) s)

/-- TAILGATE_PAUSE_TIMER_EXPIRY (R175). -/
def execTailgatePauseTimerExpiry (s : State) : Host.Outcome State Fault Refusal :=
  .next (handled tailgatePauseExpiry s)

/-! ### Valves, toggles, clock and notices (09, 11, 12) -/

/-- PERIOD_END (R159). -/
def execPeriodEnd (c : Fin 12) (s : State) : Host.Outcome State Fault Refusal :=
  .next (handled (periodEnd c) s)

/-- HALF_PERIOD_EXPIRY (R161). -/
def execHalfPeriodExpiry (t : Toggle) (s : State) : Host.Outcome State Fault Refusal :=
  .next (handled (halfPeriodExpiry t) s)

/-- SECOND_ADVANCE (R178). -/
def execSecondAdvance (s : State) : Host.Outcome State Fault Refusal :=
  .next (handled secondAdvance s)

/-- SPACING_TIMER_EXPIRY (R196). -/
def execSpacingTimerExpiry (s : State) : Host.Outcome State Fault Refusal :=
  .next (handled spacingExpiry s)

/-! ### Node Mirror and requests (12) -/

/-- NODE_DATA (R192). -/
def execNodeData (src : Byte) (tag : BitVec 4) (data : List Byte) (s : State) :
    Host.Outcome State Fault Refusal :=
  .next (handled (handData .nodeData data (nodeData src tag)) s)

/-- QUERY_TIMER_EXPIRY (R192). -/
def execQueryTimerExpiry (s : State) : Host.Outcome State Fault Refusal :=
  .next (handled queryExpiry s)

/-- RESULT_TIMER_EXPIRY (R192). -/
def execResultTimerExpiry (s : State) : Host.Outcome State Fault Refusal :=
  .next (handled resultExpiry s)

/-- MANAGEMENT_REQUEST (R185). -/
def execManagementRequest (src : Byte) (tag : BitVec 4) (data : List Byte) (s : State) :
    Host.Outcome State Fault Refusal :=
  .next (handled (handData .managementRequest data (managementRequest src tag)) s)

/-- READ (R187). -/
def execRead (m : Manager) (tag : BitVec 4) (addr : BitVec 16) (len : Byte) (s : State) :
    Host.Outcome State Fault Refusal :=
  .next (handled (submit m tag (.read addr len)) s)

/-- WRITE (R187). -/
def execWrite (m : Manager) (tag : BitVec 4) (addr : BitVec 16) (len : Byte) (bytes : List Byte) (s : State) :
    Host.Outcome State Fault Refusal :=
  .next (handled (submit m tag (carriedBody (.write addr len bytes))) s)

/-- SET_POINTER (R189). -/
def execSetPointer (m : Manager) (tag : BitVec 4) (addr : BitVec 16) (s : State) :
    Host.Outcome State Fault Refusal :=
  .next (handled (submit m tag (.setPointer addr)) s)

/-- READ_NEXT (R189). -/
def execReadNext (m : Manager) (tag : BitVec 4) (len : Byte) (s : State) :
    Host.Outcome State Fault Refusal :=
  .next (handled (submit m tag (.readNext len)) s)

/-- WRITE_NEXT (R189). -/
def execWriteNext (m : Manager) (tag : BitVec 4) (len : Byte) (bytes : List Byte) (s : State) :
    Host.Outcome State Fault Refusal :=
  .next (handled (submit m tag (carriedBody (.writeNext len bytes))) s)

/-- MIRROR_ACCESS (R191); any other request is served as what it is (R186, R187). -/
def execMirrorAccess (m : Manager) (tag : BitVec 4) (body : ReqBody) (s : State) :
    Host.Outcome State Fault Refusal :=
  .next (handled (submit m tag (carriedBody body)) s)

/-- BANK_BASE_WRITE (R188). -/
def execBankBaseWrite (m : Manager) (tag : BitVec 4) (value : BitVec 16) (s : State) :
    Host.Outcome State Fault Refusal :=
  .next (handled (submit m tag (.write 2 2 (leBytes 2 value.toNat))) s)

/-- SET_RECORD_COUNT (R116). -/
def execSetRecordCount (m : Manager) (tag : BitVec 4) (value : BitVec 16) (s : State) :
    Host.Outcome State Fault Refusal :=
  .next (handled (submit m tag (.write 8 2 (leBytes 2 value.toNat))) s)

/-- NEXT_SEQUENCE_WRITE (R188). -/
def execNextSequenceWrite (m : Manager) (tag : BitVec 4) (value : BitVec 32) (s : State) :
    Host.Outcome State Fault Refusal :=
  .next (handled (submit m tag (.write 0xC 4 (leBytes 4 value.toNat))) s)

/-- SNAPSHOT_PORT_READ (R184): a Read whose first byte is one of the port's. -/
def execSnapshotPortRead (m : Manager) (tag : BitVec 4) (first : Fin 4) (len : Byte) (s : State) :
    Host.Outcome State Fault Refusal :=
  .next (handled (submit m tag (.read (BitVec.ofNat 16 (4 + first.val)) len)) s)

/-- UNKNOWN_REQUEST (R186); a defined kind and code are served as what they are. -/
def execUnknownRequest (m : Manager) (tag : BitVec 4) (kind : Byte) (code : Byte) (s : State) :
    Host.Outcome State Fault Refusal :=
  .next (handled (submit m tag (codedRequest kind code)) s)

/-! ### Commands (12) -/

/-- TABLE_OPEN (R115). -/
def execTableOpen (m : Manager) (tag : BitVec 4) (s : State) : Host.Outcome State Fault Refusal :=
  .next (handled (submit m tag (.command 1 0)) s)

/-- TABLE_CLOSE (R117). -/
def execTableClose (m : Manager) (tag : BitVec 4) (s : State) : Host.Outcome State Fault Refusal :=
  .next (handled (submit m tag (.command 2 0)) s)

/-- INSERT (R120). -/
def execInsert (m : Manager) (tag : BitVec 4) (s : State) : Host.Outcome State Fault Refusal :=
  .next (handled (submit m tag (.command 3 0)) s)

/-- UPDATE (R119). -/
def execUpdate (m : Manager) (tag : BitVec 4) (s : State) : Host.Outcome State Fault Refusal :=
  .next (handled (submit m tag (.command 4 0)) s)

/-- DELETE (R121). -/
def execDelete (m : Manager) (tag : BitVec 4) (s : State) : Host.Outcome State Fault Refusal :=
  .next (handled (submit m tag (.command 5 0)) s)

/-- OPEN_PERIOD (R122). -/
def execOpenPeriod (m : Manager) (tag : BitVec 4) (s : State) : Host.Outcome State Fault Refusal :=
  .next (handled (submit m tag (.command 6 0)) s)

/-- RELEASE (R142). -/
def execRelease (m : Manager) (tag : BitVec 4) (n : BitVec 16) (s : State) :
    Host.Outcome State Fault Refusal :=
  .next (handled (submit m tag (.command 7 (n.setWidth 32))) s)

/-- LATCH (R183). -/
def execLatch (m : Manager) (tag : BitVec 4) (sel : BitVec 32) (s : State) :
    Host.Outcome State Fault Refusal :=
  .next (handled (submit m tag (.command 8 sel)) s)

/-- CLEAR_TOTALS (R182). -/
def execClearTotals (m : Manager) (tag : BitVec 4) (s : State) : Host.Outcome State Fault Refusal :=
  .next (handled (submit m tag (.command 9 0)) s)

/-- CLEAR_FLAGS (R190). -/
def execClearFlags (m : Manager) (tag : BitVec 4) (set : BitVec 32) (s : State) :
    Host.Outcome State Fault Refusal :=
  .next (handled (submit m tag (.command 10 set)) s)

/-- ACKNOWLEDGE_NOTICES (R197). -/
def execAcknowledgeNotices (m : Manager) (tag : BitVec 4) (set : BitVec 32) (s : State) :
    Host.Outcome State Fault Refusal :=
  .next (handled (submit m tag (.command 11 set)) s)

/-- ACKNOWLEDGE_CHANGES (R39). -/
def execAcknowledgeChanges (m : Manager) (tag : BitVec 4) (set : BitVec 32) (s : State) :
    Host.Outcome State Fault Refusal :=
  .next (handled (submit m tag (.command 12 set)) s)

/-- ZERO_CAPTURE (R105). -/
def execZeroCapture (m : Manager) (tag : BitVec 4) (station : Byte) (s : State) :
    Host.Outcome State Fault Refusal :=
  .next (handled (submit m tag (.command 13 (station.setWidth 32))) s)

/-- SET_LOWEST (R149). -/
def execSetLowest (m : Manager) (tag : BitVec 4) (station : Byte) (s : State) :
    Host.Outcome State Fault Refusal :=
  .next (handled (submit m tag (.command 14 (station.setWidth 32))) s)

/-- SET_CLOCK (R179). -/
def execSetClock (m : Manager) (tag : BitVec 4) (value : BitVec 32) (s : State) :
    Host.Outcome State Fault Refusal :=
  .next (handled (submit m tag (.command 15 value)) s)

/-- CONFIGURATION_OPEN (R193). -/
def execConfigurationOpen (m : Manager) (tag : BitVec 4) (s : State) :
    Host.Outcome State Fault Refusal :=
  .next (handled (submit m tag (.command 16 0)) s)

/-- COMMIT (R194). -/
def execCommit (m : Manager) (tag : BitVec 4) (s : State) : Host.Outcome State Fault Refusal :=
  .next (handled (submit m tag (.command 17 0)) s)

/-- MAINTENANCE_ENTER (R195). -/
def execMaintenanceEnter (m : Manager) (tag : BitVec 4) (s : State) :
    Host.Outcome State Fault Refusal :=
  .next (handled (submit m tag (.command 18 0)) s)

/-- MAINTENANCE_LEAVE (R195). -/
def execMaintenanceLeave (m : Manager) (tag : BitVec 4) (s : State) :
    Host.Outcome State Fault Refusal :=
  .next (handled (submit m tag (.command 19 0)) s)

/-- BODY_RESET (R198). -/
def execBodyReset (m : Manager) (tag : BitVec 4) (s : State) : Host.Outcome State Fault Refusal :=
  .next (handled (submit m tag (.command 20 0)) s)

/-! ### The bus (01) -/

/-- RECESSIVE_BITS_SEEN (R4). -/
def execRecessiveBitsSeen (p : Port) (s : State) : Host.Outcome State Fault Refusal :=
  .next (handled (recessiveBits p) s)

/-- REMOTE_FRAME_RECEIVED (R2). -/
def execRemoteFrameReceived (p : Port) (s : State) : Host.Outcome State Fault Refusal :=
  .next (handled (remoteFrame p) s)

end Sys2Proof.Machine
end

