-- ==== Sys2Proof/Machine/Dispatch.lean ====
section
/-! DEFINITION. The dispatch: one arm for each command, each a direct call of its meaning. -/

namespace Sys2Proof.Machine

/-- The effect of a command on everything but the queue of commands. -/
def exec (i : Instr) (s : State) : Host.Outcome State Fault Refusal :=
  match i with
  | .coldStart na => Sys2Proof.Machine.execColdStart na s
  | .warmStart na => Sys2Proof.Machine.execWarmStart na s
  | .mainPowerLoss => Sys2Proof.Machine.execMainPowerLoss s
  | .bodyResetStart na => Sys2Proof.Machine.execBodyResetStart na s
  | .frameReceived p f => Sys2Proof.Machine.execFrameReceived p f s
  | .frameSent p => Sys2Proof.Machine.execFrameSent p s
  | .lostArbitration p => Sys2Proof.Machine.execLostArbitration p s
  | .transmitError p => Sys2Proof.Machine.execTransmitError p s
  | .receiveError p => Sys2Proof.Machine.execReceiveError p s
  | .recoveryTimerExpiry p => Sys2Proof.Machine.execRecoveryTimerExpiry p s
  | .routeIntervalExpiry n => Sys2Proof.Machine.execRouteIntervalExpiry n s
  | .statusTimerExpiry => Sys2Proof.Machine.execStatusTimerExpiry s
  | .freshnessTimerExpiry k => Sys2Proof.Machine.execFreshnessTimerExpiry k s
  | .slotHoldTimerExpiry k => Sys2Proof.Machine.execSlotHoldTimerExpiry k s
  | .groupRead lines => Sys2Proof.Machine.execGroupRead lines s
  | .cycleStart src => Sys2Proof.Machine.execCycleStart src s
  | .returnLift tag station => Sys2Proof.Machine.execReturnLift tag station s
  | .overrideLift tag station => Sys2Proof.Machine.execOverrideLift tag station s
  | .recover tag station => Sys2Proof.Machine.execRecover tag station s
  | .pack tag station => Sys2Proof.Machine.execPack tag station s
  | .unload tag station => Sys2Proof.Machine.execUnload tag station s
  | .packerRecover tag station => Sys2Proof.Machine.execPackerRecover tag station s
  | .tailgateRecover tag station => Sys2Proof.Machine.execTailgateRecover tag station s
  | .unknownCommand code tag station => Sys2Proof.Machine.execUnknownCommand code tag station s
  | .phaseTimerExpiry st => Sys2Proof.Machine.execPhaseTimerExpiry st s
  | .pauseTimerExpiry st => Sys2Proof.Machine.execPauseTimerExpiry st s
  | .holdTimerExpiry st => Sys2Proof.Machine.execHoldTimerExpiry st s
  | .sequenceTimerExpiry st => Sys2Proof.Machine.execSequenceTimerExpiry st s
  | .tagRead src tag strength => Sys2Proof.Machine.execTagRead src tag strength s
  | .tagEntryExpiry st tag => Sys2Proof.Machine.execTagEntryExpiry st tag s
  | .assignedTagEmptying st => Sys2Proof.Machine.execAssignedTagEmptying st s
  | .weighSample src count angle seq => Sys2Proof.Machine.execWeighSample src count angle seq s
  | .silenceTimerExpiry st => Sys2Proof.Machine.execSilenceTimerExpiry st s
  | .attitude src pitch roll => Sys2Proof.Machine.execAttitude src pitch roll s
  | .attitudeTimerExpiry => Sys2Proof.Machine.execAttitudeTimerExpiry s
  | .zeroCaptureTimerExpiry st => Sys2Proof.Machine.execZeroCaptureTimerExpiry st s
  | .moveStep => Sys2Proof.Machine.execMoveStep s
  | .insertMoveEnd => Sys2Proof.Machine.execInsertMoveEnd s
  | .deleteMoveEnd => Sys2Proof.Machine.execDeleteMoveEnd s
  | .openPeriodWalkEnd => Sys2Proof.Machine.execOpenPeriodWalkEnd s
  | .tableCheckEnd => Sys2Proof.Machine.execTableCheckEnd s
  | .encoderPulse => Sys2Proof.Machine.execEncoderPulse s
  | .stallTimerExpiry => Sys2Proof.Machine.execStallTimerExpiry s
  | .extendLimitExpiry => Sys2Proof.Machine.execExtendLimitExpiry s
  | .dwellTimerExpiry => Sys2Proof.Machine.execDwellTimerExpiry s
  | .retractLimitExpiry => Sys2Proof.Machine.execRetractLimitExpiry s
  | .packerPauseTimerExpiry => Sys2Proof.Machine.execPackerPauseTimerExpiry s
  | .openTimeReached => Sys2Proof.Machine.execOpenTimeReached s
  | .openingLimitExpiry => Sys2Proof.Machine.execOpeningLimitExpiry s
  | .ejectTimerExpiry => Sys2Proof.Machine.execEjectTimerExpiry s
  | .closingLimitExpiry => Sys2Proof.Machine.execClosingLimitExpiry s
  | .tailgatePauseTimerExpiry => Sys2Proof.Machine.execTailgatePauseTimerExpiry s
  | .periodEnd c => Sys2Proof.Machine.execPeriodEnd c s
  | .halfPeriodExpiry t => Sys2Proof.Machine.execHalfPeriodExpiry t s
  | .secondAdvance => Sys2Proof.Machine.execSecondAdvance s
  | .spacingTimerExpiry => Sys2Proof.Machine.execSpacingTimerExpiry s
  | .nodeData src tag data => Sys2Proof.Machine.execNodeData src tag data s
  | .queryTimerExpiry => Sys2Proof.Machine.execQueryTimerExpiry s
  | .resultTimerExpiry => Sys2Proof.Machine.execResultTimerExpiry s
  | .managementRequest src tag data => Sys2Proof.Machine.execManagementRequest src tag data s
  | .read m tag addr len => Sys2Proof.Machine.execRead m tag addr len s
  | .write m tag addr len bytes => Sys2Proof.Machine.execWrite m tag addr len bytes s
  | .setPointer m tag addr => Sys2Proof.Machine.execSetPointer m tag addr s
  | .readNext m tag len => Sys2Proof.Machine.execReadNext m tag len s
  | .writeNext m tag len bytes => Sys2Proof.Machine.execWriteNext m tag len bytes s
  | .mirrorAccess m tag body => Sys2Proof.Machine.execMirrorAccess m tag body s
  | .bankBaseWrite m tag value => Sys2Proof.Machine.execBankBaseWrite m tag value s
  | .setRecordCount m tag value => Sys2Proof.Machine.execSetRecordCount m tag value s
  | .nextSequenceWrite m tag value => Sys2Proof.Machine.execNextSequenceWrite m tag value s
  | .snapshotPortRead m tag first len => Sys2Proof.Machine.execSnapshotPortRead m tag first len s
  | .unknownRequest m tag kind code => Sys2Proof.Machine.execUnknownRequest m tag kind code s
  | .tableOpen m tag => Sys2Proof.Machine.execTableOpen m tag s
  | .tableClose m tag => Sys2Proof.Machine.execTableClose m tag s
  | .insert m tag => Sys2Proof.Machine.execInsert m tag s
  | .update m tag => Sys2Proof.Machine.execUpdate m tag s
  | .delete m tag => Sys2Proof.Machine.execDelete m tag s
  | .openPeriod m tag => Sys2Proof.Machine.execOpenPeriod m tag s
  | .release m tag n => Sys2Proof.Machine.execRelease m tag n s
  | .latch m tag sel => Sys2Proof.Machine.execLatch m tag sel s
  | .clearTotals m tag => Sys2Proof.Machine.execClearTotals m tag s
  | .clearFlags m tag set => Sys2Proof.Machine.execClearFlags m tag set s
  | .acknowledgeNotices m tag set => Sys2Proof.Machine.execAcknowledgeNotices m tag set s
  | .acknowledgeChanges m tag set => Sys2Proof.Machine.execAcknowledgeChanges m tag set s
  | .zeroCapture m tag station => Sys2Proof.Machine.execZeroCapture m tag station s
  | .setLowest m tag station => Sys2Proof.Machine.execSetLowest m tag station s
  | .setClock m tag value => Sys2Proof.Machine.execSetClock m tag value s
  | .configurationOpen m tag => Sys2Proof.Machine.execConfigurationOpen m tag s
  | .commit m tag => Sys2Proof.Machine.execCommit m tag s
  | .maintenanceEnter m tag => Sys2Proof.Machine.execMaintenanceEnter m tag s
  | .maintenanceLeave m tag => Sys2Proof.Machine.execMaintenanceLeave m tag s
  | .bodyReset m tag => Sys2Proof.Machine.execBodyReset m tag s
  | .recessiveBitsSeen p => Sys2Proof.Machine.execRecessiveBitsSeen p s
  | .remoteFrameReceived p => Sys2Proof.Machine.execRemoteFrameReceived p s

end Sys2Proof.Machine
end

