-- ==== Sys2Proof/Machine/Idle.lean ====
section
/-! DEFINITION. What the part does by itself: which timed events are due, in the order of the opcode
table (DESIGN CHOICE, log entry 2). The step runs the earliest one when no command waits. -/

namespace Sys2Proof.Machine

/-- The time that an entry of the Tag Queue expires at (R78). -/
def State.entryDue (s : State) (e : TagEntry) : Nat :=
  s.timeOfTag (e.last + s.cfg.associationWindow)

/-- The time that a station's Assigned Tag register empties at, when one may (R79). -/
def State.assignedDue (s : State) (st : Station) : Option Nat :=
  match s.tags.assigned.get st, (s.lift st).record with
  | some a, none => some (s.timeOfTag (a.last + s.cfg.associationWindow))
  | _, _ => none

/-- The time that a silence timer expires at. -/
def Silence.due : Silence → Option Nat
  | .running e => some e
  | _ => none

/-- The end of a move or walk of one operation, once no step is left. -/
def State.moveEndDue (s : State) (op : JournalOp) : Option Nat :=
  if s.table.journal.op = op ∧ !s.table.stepsLeft then s.table.moveTimer.due else none

/-- The packer's limit timer, in one of its phases. -/
def State.packerLimitDue (s : State) (phase : PackerState) : Option Nat :=
  if s.packer.state = phase then s.packer.limitTimer.due else none

/-- The tailgate's limit timer, in one of its phases. -/
def State.tailgateLimitDue (s : State) (phase : TailgateState) : Option Nat :=
  if s.tailgate.state = phase then s.tailgate.limitTimer.due else none

/-- The query timer of the Deferred Slot. -/
def Deferred.queryDue : Deferred → Option Nat
  | .querying _ t => t.due
  | .requerying _ t => t.due
  | _ => none

/-- The result timer of the Deferred Slot. -/
def Deferred.resultDue : Deferred → Option Nat
  | .ready _ _ t => t.due
  | _ => none

/-- The eight return lines of the driven group, by the contacts as last driven. -/
def State.groupLines (s : State) : Byte := s.sys.contacts.extractLsb' (8 * s.scanner.pointer) 8

/-- An event that comes about by itself, with the time it is due. -/
structure Due where
  time : Nat
  event : Instr
  deriving DecidableEq, Repr

/-- An event with its time, when it has one. -/
def dueAt (i : Instr) (t : Option Nat) : List Due :=
  match t with
  | some e => [⟨e, i⟩]
  | none => []

/-- The timed events of the ports, the routes and the slots. -/
def State.dueFrames (s : State) : List Due :=
  dueAt (.recoveryTimerExpiry .chassis) s.chassis.recovery.due ++
  dueAt (.recoveryTimerExpiry .body) s.body.recovery.due ++
  (fins 64).flatMap (fun i => dueAt (.routeIntervalExpiry i) (s.route i).timing.due) ++
  dueAt .statusTimerExpiry s.statusTimer.due ++
  slotIds.flatMap (fun k => dueAt (.freshnessTimerExpiry k) (s.slot k).fresh.due) ++
  slotIds.flatMap (fun k => dueAt (.slotHoldTimerExpiry k) (s.slot k).hold.due)

/-- The timed events of the scanner and the stations. -/
def State.dueStations (s : State) : List Due :=
  dueAt (.groupRead s.groupLines) s.scanner.nextRead.due ++
  stations.flatMap (fun st => dueAt (.phaseTimerExpiry st) (s.lift st).phaseTimer.due) ++
  stations.flatMap (fun st => dueAt (.pauseTimerExpiry st) (s.lift st).pauseTimer.due) ++
  stations.flatMap (fun st => dueAt (.holdTimerExpiry st) (s.lift st).holdTimer.due) ++
  stations.flatMap (fun st => dueAt (.sequenceTimerExpiry st) (s.lift st).seqTimer.due) ++
  s.tags.queue.map (fun e => ⟨s.entryDue e, .tagEntryExpiry e.station (BitVec.ofNat 40 e.tag)⟩) ++
  stations.flatMap (fun st => dueAt (.assignedTagEmptying st) (s.assignedDue st)) ++
  stations.flatMap (fun st => dueAt (.silenceTimerExpiry st) (s.scale st).silence.due) ++
  dueAt .attitudeTimerExpiry s.weigh.attitudeTimer.due ++
  stations.flatMap (fun st => dueAt (.zeroCaptureTimerExpiry st) (s.scale st).capture.due)

/-- The timed events of the Household Table. -/
def State.dueTable (s : State) : List Due :=
  dueAt .moveStep (if s.table.stepsLeft then s.table.moveTimer.due else none) ++
  dueAt .insertMoveEnd (s.moveEndDue .insert) ++
  dueAt .deleteMoveEnd (s.moveEndDue .delete) ++
  dueAt .openPeriodWalkEnd (s.moveEndDue .openPeriod) ++
  dueAt .tableCheckEnd s.table.checkTimer.due

/-- The timed events of the packer and the tailgate. -/
def State.dueBody (s : State) : List Due :=
  dueAt .stallTimerExpiry s.packer.stallTimer.due ++
  dueAt .extendLimitExpiry (s.packerLimitDue .extending) ++
  dueAt .dwellTimerExpiry s.packer.dwellTimer.due ++
  dueAt .retractLimitExpiry (s.packerLimitDue .retracting) ++
  dueAt .packerPauseTimerExpiry s.packer.pauseTimer.due ++
  dueAt .openTimeReached s.tailgate.openTimer.due ++
  dueAt .openingLimitExpiry (s.tailgateLimitDue .opening) ++
  dueAt .ejectTimerExpiry s.tailgate.ejectTimer.due ++
  dueAt .closingLimitExpiry (s.tailgateLimitDue .closing) ++
  dueAt .tailgatePauseTimerExpiry s.tailgate.pauseTimer.due

/-- The timed events of the outputs, the Clock and the Management Agent. -/
def State.dueOutputs (s : State) : List Due :=
  (fins 12).flatMap (fun c => dueAt (.periodEnd c) (s.channels[c]).periodEnd.due) ++
  dueAt (.halfPeriodExpiry .beacon) s.toggles.beacon.timer.due ++
  dueAt (.halfPeriodExpiry .horn) s.toggles.horn.timer.due ++
  dueAt .secondAdvance s.clock.tick.due ++
  dueAt .spacingTimerExpiry s.agent.spacing.due ++
  dueAt .queryTimerExpiry s.agent.deferred.queryDue ++
  dueAt .resultTimerExpiry s.agent.deferred.resultDue

/-- Every timed event that runs, and the Body Reset start when its wait is over (R198). DESIGN CHOICE (log
entry 7): that start samples NA1 and NA0 (R1) at the levels of the start before, since the straps' levels
are the board's. -/
def State.dues (s : State) : List Due :=
  dueAt (.bodyResetStart s.sys.na) (if s.resetDue then some s.now else none) ++
    s.dueFrames ++ s.dueStations ++ s.dueTable ++ s.dueBody ++ s.dueOutputs

/-- The earliest event of a list; among equals the first. -/
def earliest : List Due → Option Due
  | [] => none
  | d :: l =>
    match earliest l with
    | none => some d
    | some x => if d.time ≤ x.time then some d else some x

/-- The event that the part takes now without a command: the earliest one, when it is due. -/
def State.dueEvent (s : State) : Option Instr :=
  match earliest s.dues with
  | some d => if d.time ≤ s.now then some d.event else none
  | none => none

/-- The part with nothing due: one microsecond passes under main power. -/
def idle (s : State) : State := if s.sys.powered then s.reach (s.now + 1) else s

end Sys2Proof.Machine
end

