-- ==== Sys2Proof/Machine/Step.lean ====
section
/-! DEFINITION. One step: the command at the front of the queue, or else what the part does by itself. -/

namespace Sys2Proof.Machine

/-- What the part does when no command waits (DESIGN CHOICE, log entry 2): the earliest timed event that
is due, or else one microsecond of time. A part without main power does nothing. -/
def idleStep (s : State) : Host.Outcome State Fault Refusal :=
  match s.sys.powered, s.dueEvent with
  | true, some i => exec i s
  | _, _ => .next (idle s)

/-- One step of the part. -/
def step (s : State) : Host.Outcome State Fault Refusal :=
  match s.pending with
  | c :: rest => exec c (s.setPending rest)
  | [] => idleStep s

/-- The state with the command that a word spells at the front of its queue; unchanged when the word
spells none. -/
def State.withFetchWord (s : State) (nbits w : Nat) : State :=
  match decodeTableWord nbits w with
  | some c => s.setPending (c :: s.pending)
  | none => s

end Sys2Proof.Machine
end

