-- ==== Sys2Proof/Safety.lean ====
section
/-! DEFINITION. What counts as a safe run: no step stops, and the conditions that the manual states of
the whole part at every moment; with the conditions that the statements name. -/

namespace Sys2Proof.Machine

/-! ### Runs -/

/-- The step of a state goes on. -/
def goesOn (s : State) : Prop := ∃ t, step s = .next t

/-- `n` steps from a state all go on. -/
def goesOnFor : Nat → State → Prop
  | 0, _ => True
  | n + 1, s => ∃ t, step s = .next t ∧ goesOnFor n t

/-! ### Conditions of the whole part -/

/-- The toggle outputs follow their conditions (R161). -/
abbrev settled (s : State) : Prop :=
  s.toggles.beacon.on = s.beaconOn ∧ s.toggles.horn.on = s.hornOn

/-- The sum of all grants is at most the capacity in force (R150). -/
abbrev grantsFit (s : State) : Prop := s.arbiter.used ≤ s.signals.capacity

/-- No requester whose mask is set holds a grant (R147, R151). -/
def masksHold (s : State) : Prop := ∀ r : Requester, s.masked r = true → s.grant r = 0

/-- The station group order holds each station once (R148). -/
def groupWhole (s : State) : Prop := s.arbiter.group.Perm stations

/-- Every channel has its target duty as R158 works it out, and a target of 0 is in force (R160). -/
def valvesFollow (s : State) : Prop :=
  ∀ c : Fin 12, (s.channels[c]).target = s.targetDuty c.val ∧
    ((s.channels[c]).target = 0 → (s.channels[c]).applied = 0 ∧ (s.channels[c]).pending = 0)

/-- Both byte stores keep their canonical form. -/
abbrev storesWell (s : State) : Prop := s.store.wf = true ∧ s.cfg.wf = true

/-- A packer in Extending or Dwelling and a station in Dump do not meet (R166). -/
abbrev dumpClear (s : State) : Prop :=
  (s.packer.state = .extending ∨ s.packer.state = .dwelling) →
    ∀ st : Station, (s.lift st).state ≠ .dump

/-- The packer's timers and its request belong to the states that use them, and before Scan Ready the
packer is at rest (R34, R167, R168, R176). -/
def packerOrderly (s : State) : Prop :=
  (s.packer.stallTimer.isRunning = true → s.packer.state = .extending) ∧
  (s.packer.dwellTimer.isRunning = true → s.packer.state = .dwelling) ∧
  (∀ q, s.request .packer = some q → q.phase = .extending → s.packer.state = .extending) ∧
  (s.scanner.ready = false → s.packer.state = .parked ∧ s.packer.packPending = false ∧
    s.packer.stallTimer.isRunning = false ∧ s.packer.dwellTimer.isRunning = false ∧
    s.packer.pauseTimer.isRunning = false ∧ s.packer.limitTimer.isRunning = false ∧
    s.request .packer = none)

/-- A toggle output beside its condition (R161): low without a timer while the condition does not hold,
and with its half-period timer running while it holds. -/
def ToggleState.steady (x : ToggleState) : Prop :=
  (x.on = false → x.level = false ∧ x.timer = .stopped) ∧ (x.on = true → x.timer.isRunning = true)

/-- Both toggle outputs follow their conditions, in level and timer (R161). -/
def togglesFollow (s : State) : Prop :=
  settled s ∧ s.toggles.beacon.steady ∧ s.toggles.horn.steady

/-- The timers that act whatever the phase belong to the phases that use them (R56, R61, R174), and a
tailgate without a request, as one in Closed is, has no pause timer (R175). -/
def phasesOrderly (s : State) : Prop :=
  (∀ st : Station, ((s.lift st).seqTimer ≠ .stopped → (s.lift st).state = .dump) ∧
    ((s.lift st).holdTimer ≠ .stopped → (s.lift st).state = .hold)) ∧
  (s.tailgate.ejectTimer ≠ .stopped → s.tailgate.state = .ejecting) ∧
  (s.tailgate.unloadPending = true →
    s.tailgate.state = .ejecting ∧ s.tailgate.ejectTimer = .stopped) ∧
  (s.request .tailgate = none → s.tailgate.pauseTimer = .stopped) ∧
  (s.tailgate.state = .closed → s.request .tailgate = none)

/-- A station's Lift Record stands and its charge or fault request has not been made. -/
def State.liftOpen (s : State) (st : Station) : Bool :=
  match (s.lift st).record with
  | some r => !r.requested
  | none => false

/-- The requests of a holder in the Request List. -/
def State.requests (s : State) (h : Holder) : Nat := s.billing.list.countP fun q => q.holder == h

/-- A phase in which a lift has not made its request yet. -/
def Lift.working (l : Lift) : Bool :=
  match l.state with
  | .engage | .raise | .hold | .dump => true
  | .lower => !l.chargePending
  | _ => false

/-- The Charge Queue has room for every record that a holder or a marker still owes (R139). While main
power is present a station holds its reservation exactly while its marker shows a lift, which is until
its record is committed; the tailgate holds one from Unload, or from a start with the marker at Ejecting. A
Billing Engine that is Free has an empty Request List (R127). -/
def reservationsWell (s : State) : Prop :=
  s.queue.count + stations.countP (fun st => decide ((s.marker st).furthest ≠ .clear)) +
      (if s.queue.heldTailgate = true ∨ s.tailgate.marker = .ejecting then 1 else 0) ≤
    Config.queueSlots ∧
  (s.sys.powered = false → s.queue.reserved = 0) ∧
  (s.billing.waiting = none → s.billing.list = []) ∧
  (s.sys.powered = true → phasesOrderly s ∧
    (s.tailgate.marker = .ejecting → s.queue.heldTailgate = true) ∧
    s.requests .tailgate ≤ 1 ∧ (s.requests .tailgate = 1 → s.queue.heldTailgate = true) ∧
    (s.tailgate.state = .opening ∨ (s.tailgate.state = .ejecting ∧ s.tailgate.unloadPending = false) →
      s.queue.heldTailgate = true ∧ s.requests .tailgate = 0) ∧
    ∀ st : Station,
      (s.queue.holds (.station st) = true ↔ (s.marker st).furthest ≠ .clear) ∧
      s.requests (.station st) ≤ 1 ∧
      (s.requests (.station st) = 1 → s.queue.holds (.station st) = true) ∧
      (s.liftOpen st = true →
        s.queue.holds (.station st) = true ∧ s.requests (.station st) = 0) ∧
      (s.queue.holds (.station st) = true →
        s.liftOpen st = true ∨ s.requests (.station st) = 1) ∧
      ((s.lift st).working = true → (s.lift st).record = none ∨ s.liftOpen st = true))

/-- The Sequence Number of the record `k` places after the head. -/
def State.sequenceAt (s : State) (k : Nat) : Nat :=
  ofLe (s.store.readBytes (slotBase ((s.queue.head + k) % Config.queueSlots)) 4)

/-- The records' Sequence Numbers rise by one from head to tail, and Next Sequence is the number after
the tail's (R140). -/
def sequencesRise (s : State) : Prop :=
  s.queue.head < Config.queueSlots ∧ 1 ≤ s.queue.nextSeq ∧ s.queue.nextSeq ≤ 0xFFFFFFFF ∧
  ∀ k, k < s.queue.count → 1 ≤ s.sequenceAt k ∧ nextSeq (s.sequenceAt k) =
    if k + 1 < s.queue.count then s.sequenceAt (k + 1) else s.queue.nextSeq

/-- `n` records, of which number `k` is the one at position `pos k`, carry rising tags that are not 0. -/
def Mem.tagsRise (m : Mem) (pos : Nat → Nat) (n : Nat) : Prop :=
  ∀ k, k < n → recTag (m.record (pos k)) ≠ 0 ∧
    (k + 1 < n → recTag (m.record (pos k)) < recTag (m.record (pos (k + 1))))

/-- A Closed table that is not Busy holds at most 12,288 records of rising tags that are not 0 (R109), and
the check's timer runs in Checking alone. A move or walk at work (R120 to R123) runs in Closed; leaving out
the position that its next step frees, the records rise: an Insert's old ones, around its staged tag, and a
Delete's remaining ones. -/
def tableSound (s : State) : Prop :=
  let t := s.table
  let j := t.journal
  let m := s.store
  let n := t.recordCount
  t.staging.length = 32 ∧ (t.busy = true → t.state = .closed) ∧
  (t.checkTimer ≠ .stopped → t.state = .checking) ∧
  (t.state = .closed → n ≤ Config.maxRecords ∧
    match j.op with
    | .clear => m.tagsRise (fun k => k) n
    | .openPeriod => m.tagsRise (fun k => k) n ∧ 0 ≤ j.next ∧ j.next ≤ n
    | .delete => (j.pos : Int) ≤ j.next ∧ j.next < n ∧
      m.tagsRise (fun k => if (k : Int) < j.next then k else k + 1) (n - 1)
    | .insert => n < Config.maxRecords ∧ j.pos ≤ n ∧ (j.pos : Int) - 1 ≤ j.next ∧ j.next < n ∧
      j.staged.length = 32 ∧ recTag j.staged ≠ 0 ∧
      let old (k : Nat) : Nat := if (k : Int) ≤ j.next then k else k + 1
      m.tagsRise old n ∧
      ∀ k, k < n → if k < j.pos then recTag (m.record (old k)) < recTag j.staged
        else recTag j.staged < recTag (m.record (old k)))

/-- While the tailgate is out of Closed, no station has a lift in progress and the packer neither extends
nor dwells (R173); a start can leave them in Fault, from where they home and retract. -/
def unloadAlone (s : State) : Prop :=
  s.tailgate.state ≠ .closed →
    (∀ st : Station, (s.lift st).state = .idle ∨ (s.lift st).state = .fault ∨
      (s.lift st).state = .homing) ∧
    (s.packer.state = .parked ∨ s.packer.state = .fault ∨ s.packer.state = .retracting)

/-- A request waits in the Request Queue only behind a held one, since the Agent serves at once
(R185, log entry 5). -/
abbrev agentRests (s : State) : Prop := s.agent.hold = .none → s.agent.queue = []

/-! ### Conditions that the statements name -/

/-- Main power is present and the toggle outputs are settled. -/
abbrev live (s : State) : Prop := s.sys.powered = true ∧ settled s

/-- The Agent holds nothing and no request waits. -/
abbrev agentFree (s : State) : Prop := s.agent.queue = [] ∧ s.agent.hold = .none

/-- The Control Queue takes a frame (R5). -/
abbrev controlOpen (s : State) : Prop :=
  s.body.off = false ∧ s.control.length < Config.controlPlaces

/-- A received frame is delivered to no block (R9). -/
abbrev notDelivered (s : State) (p : Port) (f : Frame) : Prop :=
  p = .chassis ∨ s.addressed f = false ∨ (frameClass f).bind BodyClass.minLength = none

/-- A port's state after it has counted a received frame (R2, R3). -/
def PortState.heard (x : PortState) : PortState :=
  { x with received := bump x.received, rxErr := x.rxErr - 1 }

/-- The response to a manager's request (R186): kind, status and data. -/
def State.answerTo (s : State) (m : Manager) (tag : BitVec 4) (body : ReqBody) (a : Answer) : Frame :=
  s.bodyFrame .managementResponse (BitVec.ofNat 8 (s.cfg.managerNode m)) tag
    (kindByte body :: BitVec.ofNat 8 a.status.code.val :: a.data)

/-- The Operator Reply to a command (R67). -/
def State.replyTo (s : State) (code : Byte) (tag : BitVec 4) (station : Byte) (r : Reply) : Frame :=
  s.bodyFrame .operatorReply (BitVec.ofNat 8 s.cfg.cabNode) tag [code, station, BitVec.ofNat 8 r.code]

/-- A state whose Control Queue has taken a frame at its tail, with the arbiter's choice (R5, R6). -/
def State.offered (s : State) (f : Frame) : State :=
  chooseTx .body (s.setControl (s.control ++ [⟨f, false⟩]))

/-- A state whose Agent has answered one request (R186): the response stands at the tail of the Control
Queue, and the counts of requests served and of the status have risen. -/
def State.answered (s : State) (m : Manager) (tag : BitVec 4) (body : ReqBody) (a : Answer) : State :=
  (s.setAgent { s.agent with
    served := bump s.agent.served
    statusCounts := s.agent.statusCounts.set a.status.code
      (bump s.agent.statusCounts[a.status.code]) }).offered (s.answerTo m tag body a)

/-- The Agent is at rest in a live part whose Control Queue takes a frame: the state in which a manager's
request is served at once and answered. -/
abbrev serving (s : State) : Prop := live s ∧ agentFree s ∧ controlOpen s

/-! ### Frames -/

/-- A station but for what its pauses change (R50, R52, R53). -/
def Lift.unpaced (l : Lift) : Lift :=
  { l with paused := false, pauses := 0, pauseTimer := .stopped, phaseTimer := .stopped
           seqTimer := .stopped }

/-- The packer but for what its pauses change (R167, R170). -/
def Packer.unpaced (p : Packer) : Packer :=
  { p with paused := false, pauses := 0, pauseTimer := .stopped, limitTimer := .stopped
           stallTimer := .stopped }

/-- The tailgate but for what its pauses change (R175). -/
def Tailgate.unpaced (t : Tailgate) : Tailgate :=
  { t with paused := false, pauses := 0, pauseTimer := .stopped, openTimer := .stopped
           limitTimer := .stopped, ejectTimer := .stopped }

/-- The requesters other than those of a list differ in nothing but their pauses: what an arbitration
can do to a function that did not act (R52, R90, R150, R170, R175). -/
def pacedBut (l : List Requester) (s t : State) : Prop :=
  (∀ st : Station, .station st ∉ l → (t.lift st).unpaced = (s.lift st).unpaced ∧
    ((t.scale st) = (s.scale st) ∨
      (t.scale st) = { s.scale st with run := Run.empty })) ∧
  (.packer ∉ l → t.packer.unpaced = s.packer.unpaced) ∧
  (.tailgate ∉ l → t.tailgate.unpaced = s.tailgate.unpaced) ∧
  (∀ r : Requester, r ∉ l → t.request r = s.request r)

/-- `s` with the blocks that an arbitration reaches as `t` has them: the grants, the valves, the
functions, their weigh runs and the toggle outputs (R150, R161). -/
def State.reflow (s t : State) : State :=
  { s with lifts := t.lifts, weigh := t.weigh, arbiter := t.arbiter, channels := t.channels
           packer := t.packer, tailgate := t.tailgate, toggles := t.toggles }

/-- `s` with what a compaction cycle, a Blade wait or a notice may change besides. -/
def State.repack (s t : State) : State :=
  { s.reflow t with markers := t.markers, payload := t.payload, agent := t.agent, body := t.body
                    control := t.control }

/-- `s` with what a served billing request may change besides. -/
def State.rebill (s t : State) : State :=
  { s.repack t with store := t.store, tags := t.tags, table := t.table, billing := t.billing
                    queue := t.queue, clock := t.clock }

/-- A station's phase that uses flow has just begun (R50 to R52): its request stands, it is Paused while
it has no grant, and its phase timer has the whole limit. -/
def State.began (t : State) (st : Station) (ph : FlowPhase) (limit : Nat) : Prop :=
  t.request (.station st) = some (t.flowReq (.station st) ph) ∧
  (t.lift st).paused = decide (t.grant (.station st) = 0) ∧
  (t.lift st).phaseTimer =
    if t.grant (.station st) = 0 then .held limit else .running (t.now + limit)

/-- Every function is Paused exactly while its request has no grant (R52, R170, R175), and every channel
has the target duty of its owner's grant (R158): what an arbitration reports (R150). -/
def grantsReported (t : State) : Prop :=
  let waits (r : Requester) : Bool := (t.request r).isSome && decide (t.grant r = 0)
  (∀ st : Station, (t.lift st).paused = waits (.station st)) ∧
  t.packer.paused = waits .packer ∧ t.tailgate.paused = waits .tailgate ∧
  ∀ c : Fin 12, (t.channels[c]).target = t.targetDuty c.val

/-- `t` is `u` with its outputs worked out again and a change of them handed on (R29). With every Permit
and the capacity as before, the functions stand as they were. Otherwise one arbitration runs on the new
masks and the new capacity together (R147, R150): the arbiter holds its result, no masked requester
keeps a grant (R151), and the pauses and the valves follow. A Pack Permit that becomes true besides
serves a pending pack whose other conditions hold (R166): the packer enters Extending, and its new
request is arbitrated after the one for the change (log entry 10). With Pressure Max active that stroke
ends at once, by its own rules (R167). -/
def handsOn (u t : State) : Prop :=
  let old := u.signals
  let new := u.outputs
  let v := u.setSignals new
  let run (a : Arbiter) : Arbiter := a.run new.capacity v.masked u.priority
  let same : Prop := new.liftPermit = old.liftPermit ∧ new.packPermit = old.packPermit ∧
    new.tailgatePermit = old.tailgatePermit ∧ new.capacity = old.capacity
  let packs : Prop := old.packPermit = false ∧ new.packPermit = true ∧ u.packer.packPending = true ∧
    u.packer.state = .parked ∧ u.tailgate.state = .closed ∧ ∀ st : Station, (u.lift st).state ≠ .dump
  t = v.repack t ∧ (same → t = v) ∧
  (¬ same → ¬ packs →
    t.arbiter = run u.arbiter ∧ masksHold t ∧ grantsReported t ∧ pacedBut [] u t ∧
    t = { v.reflow t with toggles := u.toggles }) ∧
  (packs → u.role .pressureMax = false →
    let a := run u.arbiter
    t.arbiter = run { a with
      req := a.req.set .packer (some (u.flowReq .packer .extending)), grant := a.grant.set .packer 0 } ∧
    masksHold t ∧ grantsReported t ∧ pacedBut [.packer] u t ∧
    t.packer.unpaced = { u.packer with
      state := .extending, stroke := 0, dumps := 0, packPending := false }.unpaced ∧
    t = v.reflow t)

/-! ### Notices (R196) -/

/-- A notice kind was made pending on the way from `s` to `t`. A Latched kind stands in the Notice Set,
and so does any kind while the spacing timer holds the frame back; else its Notice frame may have gone
out. -/
def State.noticed (s t : State) (bit : Nat) : Prop :=
  (t.cfg.noticeModes.getLsbD bit = false ∨ s.agent.spacing.isRunning = true →
    t.agent.notices.getLsbD bit = true) ∧
  (s.agent.notices.getLsbD bit = false → t.agent.notices.getLsbD bit = true ∨
    t.agent.noticesSent = bump s.agent.noticesSent)

/-- No notice of a kind became pending. -/
def State.quiet (s t : State) (bit : Nat) : Prop :=
  t.agent.notices.getLsbD bit = true → s.agent.notices.getLsbD bit = true

/-- The byte addresses that the commit of one record may write (R129): the Charge Queue slot at the
tail, the Totals, and the counters of the household of a tag. -/
def State.commitBytes (s : State) (tag a : Nat) : Prop :=
  (slotBase ((s.queue.head + s.queue.count) % 256) ≤ a ∧
    a < slotBase ((s.queue.head + s.queue.count) % 256) + 32) ∨
  (0x63000 ≤ a ∧ a < 0x63030) ∨
  (∃ p, s.find tag = some p ∧ 32 * p + 12 ≤ a ∧ a < 32 * p + 32)

end Sys2Proof.Machine
end

