-- ==== Sys2Proof/Certificates/Slice0/Obligations.lean ====
section
/-! DEFINITION. The statements for the provers. -/

open Sys2Proof Sys2Proof.Machine

/-! ### The step and the whole part -/

/-- (tier 1) A step takes the command at the front of the queue and runs it with the queue's rest. The
step itself is the model's frame for the manual's events (log entry 2). With no command waiting the part
takes the earliest timed event that is due, or else lets one microsecond pass; without main power it
does nothing. This is the model's choice (log entry 2). -/
def Obligations.StepTakesTheFront : Prop :=
  (∀ (c : Instr) (rest : List Instr) (s : State), s.pending = c :: rest →
     step s = exec c (s.setPending rest)) ∧
  ∀ s : State, s.pending = [] →
    (s.sys.powered = false → step s = .next s) ∧
    (s.sys.powered = true → ∀ c, s.dueEvent = some c → step s = exec c s) ∧
    (s.sys.powered = true → s.dueEvent = none →
      step s = .next (s.setSys { s.sys with now := s.sys.now + 1 }))

/-- (tier 1) Every command runs to a next state, whatever its operands. Operands outside a row's own
form have the effect of the frame that would carry them: the data bytes a frame has no room for are not
there, each defined code is the command that it names, an undefined request of a defined kind or command
code is that request with zero bytes behind its code, and data too short for their class are counted
Malformed (R9) and delivered to no one. This reading is the model's choice (log entry 1). -/
def Obligations.EveryCommandRuns : Prop :=
  (∀ (c : Instr) (s : State), ∃ t, exec c s = .next t) ∧
  ∀ (m : Manager) (src : Byte) (tag : BitVec 4) (s : State),
    (∀ (p : Port) (id : BitVec 29) (data : List Byte),
      exec (.frameReceived p ⟨true, id, data⟩) s =
        exec (.frameReceived p ⟨true, id, data.take 8⟩) s) ∧
    (∀ (addr : BitVec 16) (len : Byte) (bytes : List Byte),
      exec (.write m tag addr len bytes) s = exec (.write m tag addr len (bytes.take 4)) s ∧
      exec (.writeNext m tag len bytes) s = exec (.writeNext m tag len (bytes.take 6)) s ∧
      exec (.mirrorAccess m tag (.write addr len bytes)) s =
        exec (.write m tag addr len bytes) s) ∧
    (∀ b : Byte,
      let command (code : Byte) (c : Instr) : Prop := exec (.unknownCommand code tag b) s = exec c s
      let request (kind : Byte) (c : Instr) : Prop :=
        exec (.unknownRequest m tag kind b) s = exec c s
      command 1 (.cycleStart (.command tag b)) ∧ command 2 (.returnLift tag b) ∧
      command 3 (.overrideLift tag b) ∧ command 4 (.recover tag b) ∧ command 5 (.pack tag b) ∧
      command 6 (.unload tag b) ∧ command 7 (.packerRecover tag b) ∧
      command 8 (.tailgateRecover tag b) ∧ request 1 (.read m tag (b.setWidth 16) 0) ∧
      request 2 (.write m tag (b.setWidth 16) 0 [0, 0]) ∧
      request 3 (.setPointer m tag (b.setWidth 16)) ∧ request 4 (.readNext m tag b) ∧
      request 5 (.writeNext m tag b [0, 0, 0, 0])) ∧
    (let request (code : Byte) (c : Instr) : Prop :=
       exec (.unknownRequest m tag 6 code) s = exec c s
     request 1 (.tableOpen m tag) ∧ request 2 (.tableClose m tag) ∧ request 3 (.insert m tag) ∧
     request 4 (.update m tag) ∧ request 5 (.delete m tag) ∧ request 6 (.openPeriod m tag) ∧
     request 7 (.release m tag 0) ∧ request 8 (.latch m tag 0) ∧ request 9 (.clearTotals m tag) ∧
     request 10 (.clearFlags m tag 0) ∧ request 11 (.acknowledgeNotices m tag 0) ∧
     request 12 (.acknowledgeChanges m tag 0) ∧ request 13 (.zeroCapture m tag 0) ∧
     request 14 (.setLowest m tag 0) ∧ request 15 (.setClock m tag 0) ∧
     request 16 (.configurationOpen m tag) ∧ request 17 (.commit m tag) ∧
     request 18 (.maintenanceEnter m tag) ∧ request 19 (.maintenanceLeave m tag) ∧
     request 20 (.bodyReset m tag)) ∧
    (live s → ∀ data : List Byte, data.length < 2 →
      exec (.nodeData src tag data) s =
        .next (s.setBody { s.body with malformed := bump s.body.malformed }) ∧
      exec (.managementRequest src tag data) s =
        .next (s.setBody { s.body with malformed := bump s.body.malformed }))

/-! ### Invariants of every step -/

/-- (tier 1) The state after a Cold Start meets every invariant below. The model's own choices in it:
log entries 7 and 19. -/
def Obligations.ResetMeetsInvariants : Prop :=
  togglesFollow State.reset ∧ storesWell State.reset ∧ grantsFit State.reset ∧
    masksHold State.reset ∧ groupWhole State.reset ∧ valvesFollow State.reset ∧ dumpClear State.reset ∧
    packerOrderly State.reset ∧ phasesOrderly State.reset ∧ reservationsWell State.reset ∧
    sequencesRise State.reset ∧ tableSound State.reset ∧ unloadAlone State.reset

/-- (tier 2) R161: after every step the beacon and the horn follow their conditions. While an output's
condition does not hold, its level is low and its timer stopped; while it holds, its half-period timer
runs; and a condition that begins in the step raises the level and starts one whole half-period. The
model's own choices in it: log entry 2. -/
def Obligations.TogglesFollowKept : Prop :=
  ∀ s t : State, togglesFollow s → step s = .next t → togglesFollow t ∧
    ∀ k : Toggle, (s.toggles.get k).on = false → (t.toggles.get k).on = true →
      (t.toggles.get k).level = true ∧
      (t.toggles.get k).timer = .running (t.sys.now + t.cfg.halfPeriod k)

/-- (tier 3) Every step keeps the canonical form of the byte stores. The form is the model's own (log
entry 19); no rule of the manual speaks of it. -/
def Obligations.StoresWellKept : Prop :=
  ∀ s t : State, storesWell s → step s = .next t → storesWell t

/-- (tier 3) The sum of all flow grants never exceeds the current pump capacity (R150), and no requester
whose mask is set holds a grant (R147, R151): every step keeps both, with the group order that the
arbiter's list is built from. So a step that makes a Permit false leaves no grant to the requesters that
it masks. The model's own choices in it: log entry 2. -/
def Obligations.GrantsFitKept : Prop :=
  ∀ s t : State, grantsFit s → masksHold s → groupWhole s → step s = .next t →
    grantsFit t ∧ masksHold t ∧ groupWhole t

/-- (tier 3) Every step keeps each channel on its target, with a target of 0 in force; so a channel's
applied duty is above 0 only while the function that owns the channel holds a grant above 0 (R160). The
model's own choices in it: log entry 2. -/
def Obligations.ValvesFollowKept : Prop :=
  ∀ s t : State, valvesFollow s → step s = .next t →
    valvesFollow t ∧ ∀ c : Fin 12, (t.channels[c]).applied ≠ 0 →
      ∃ r : Requester, t.cfg.channelOwner c.val = some r ∧ 0 < t.grant r

/-- (tier 3) The packer is never Extending or Dwelling while any station is in Dump (R166). The model's
own choices in it: log entry 2. -/
def Obligations.DumpClearKept : Prop :=
  ∀ s t : State, dumpClear s → packerOrderly s → step s = .next t → dumpClear t ∧ packerOrderly t

/-- (tier 3) R139: every step keeps the reservations in order, so the Charge Queue's records and
reservations together never exceed 256. While main power is present a station holds its reservation
exactly while its marker shows a lift, until its record is committed, and the tailgate holds one from an
accepted Unload, or from a start that finds its marker at Ejecting. A Free Billing Engine has an empty
Request List (R127). The model's own choices in it: log entries 2 and 13. -/
def Obligations.ReservationsKept : Prop :=
  ∀ s t : State, reservationsWell s → step s = .next t →
    reservationsWell t ∧ t.queue.count + t.queue.reserved ≤ 256

/-- (tier 3) R140: every step keeps the Sequence Numbers of the Charge Queue's records rising by exactly
one from head to tail, with Next Sequence one more than the tail's, from 4,294,967,295 on to 1. The
model's own choices in it: log entry 2. -/
def Obligations.SequencesKept : Prop :=
  ∀ s t : State, storesWell s → reservationsWell s → tableSound s → sequencesRise s →
    step s = .next t → sequencesRise t

/-- (tier 3) R109: every step keeps a Closed table that is not Busy in strictly ascending order of tags
that are not 0, with the order of the records around the position that a move is at. The model's own
choices in it: log entries 2 and 18. -/
def Obligations.TableKept : Prop :=
  ∀ s t : State, storesWell s → tableSound s → step s = .next t →
    tableSound t ∧ (t.table.state = .closed → t.table.busy = false → ∀ a b, a < b →
      b < t.table.recordCount → recTag (t.store.record a) ≠ 0 ∧
        recTag (t.store.record a) < recTag (t.store.record b))

/-- (tier 3) R173: every step keeps the tailgate out of Closed only while no station has a lift in
progress and the packer is at rest, but for what a start has left in Fault; and the tailgate leaves
Closed only by an accepted Unload, with its reservation and its five other conditions, or by a start,
which leaves it in Fault with no cause recorded. The model's own choices in it: log entry 2. -/
def Obligations.UnloadAloneKept : Prop :=
  ∀ s t : State, phasesOrderly s → packerOrderly s → unloadAlone s → step s = .next t →
    phasesOrderly t ∧ unloadAlone t ∧ (s.tailgate.state = .closed → t.tailgate.state ≠ .closed →
      (t.tailgate.state = .fault ∧ t.tailgate.lastFault = none ∧ t.sys.startedAt = t.sys.now ∧
        t.scanner.ready = false) ∨
      ((t.tailgate.state = .opening ∨ t.tailgate.state = .ejecting) ∧
        t.queue.holds .tailgate = true ∧ s.queue.holds .tailgate = false ∧
        s.queue.count + s.queue.reserved < 256 ∧ s.canStart = true ∧
        s.pairErrorOf .tailgate = false ∧ s.signals.tailgatePermit = true ∧
        (∀ st : Station, (s.lift st).state = .idle ∧ (t.lift st).state = .idle) ∧
        s.packer.state = .parked ∧ t.packer.state = .parked))

/-- (tier 3) R171: the payload after a step is the payload before it, with the records that the step has
committed taken in order: an Unload record makes it 0, a Refused or an Aborted one leaves it, and any
other adds its billed mass. A Cold Start, which empties the queue, is stated apart. Mass figures that
wait at the Billing Engine keep a billed mass of 16 bits. The model's own choices in it: log entry 2. -/
def Obligations.PayloadKept : Prop :=
  ∀ s t : State, storesWell s → tableSound s → reservationsWell s → agentRests s →
    s.agent.queue.length ≤ 1 →
    (∀ (na : BitVec 2) (l : List Instr), s.pending ≠ .coldStart na :: l) →
    (∀ g, s.billing.waiting = some g → g.billed ≤ 65535) → step s = .next t →
    (∀ g, t.billing.waiting = some g → g.billed ≤ 65535) ∧ (s.queue.count ≤ t.queue.count →
    let slot (k : Nat) : Nat := slotBase ((t.queue.head + s.queue.count + k) % 256)
    t.payload.mass = (List.range (t.queue.count - s.queue.count)).foldl (fun m k =>
      let outcome := (t.store.read (slot k + 17)).toNat
      if outcome = 7 then 0
      else if outcome = 4 ∨ outcome = 5 then m
      else min (m + ofLe (t.store.readBytes (slot k + 26) 2)) 0xFFFFFFFF) s.payload.mass)

/-! ### Starts and power (00, R1; each chapter's state after a start) -/

/-- (tier 1) A Cold Start leaves the whole part in its Cold Start state, with the time base and the
waiting commands kept, the node number taken from the straps, and the parameters at their defaults. The
model's own choices in it: log entries 4, 7 and 20. -/
def Obligations.ColdStartState : Prop :=
  ∀ (na : BitVec 2) (s : State),
    exec (.coldStart na) s = .next { State.reset with
      sys := { powered := true, now := s.sys.now, startedAt := s.sys.now, na := na, kgood := false,
               contacts := s.sys.contacts, ownNode := 16 + na.setWidth 8 }
      statusTimer := .running (s.sys.now + 500000)
      scanner := Scanner.start s.sys.now
      channels := Vector.replicate 12 (Channel.start s.sys.now 1024)
      clock := Clock.cold s.sys.now
      pending := s.pending } ∧
    ∀ st : Station, State.reset.startRefusal st = some .notReady

/-- (tier 2) At a Warm Start a station enters Idle when its marker is clear, and Fault when it shows a
lift; the tailgate likewise by its own marker. Such a Fault is neither counted nor recorded: Last Fault
Cause reads none after the start (R65, R69, R175, R177). Each marker that makes a start request takes
one reservation and gives one record: at once, with the station's marker cleared and the tailgate's at
Closing, unless the table resumes a move and a dumped lift's household asks for its counters. That
request then waits for the move with every request behind it (R111, R124, R127). The model's own choices
in it: log entry 13. -/
def Obligations.WarmStartMarkers : Prop :=
  ∀ (na : BitVec 2) (s : State),
    let asks (st : Station) : Prop :=
      (s.marker st).furthest = .dumped ∧ (s.marker st).account ≠ 0
    ∃ t, exec (.warmStart na) s = .next t ∧
      (∀ st : Station, (t.lift st).record = none ∧
        ((s.marker st).furthest = .clear →
          (t.lift st).state = .idle ∧ (t.marker st).furthest = .clear) ∧
        ((s.marker st).furthest ≠ .clear →
          (t.lift st).state = .fault) ∧
        (t.lift st).lastFault = none ∧ (t.lift st).faults = 0) ∧
      (s.tailgate.marker = .clear → t.tailgate.state = .closed ∧ t.tailgate.marker = .clear) ∧
      (s.tailgate.marker ≠ .clear → t.tailgate.state = .fault) ∧
      t.tailgate.lastFault = none ∧ t.tailgate.faults = 0 ∧ t.packer.lastFault = none ∧
      t.packer.faults = 0 ∧
      t.queue.count + t.billing.list.length = s.queue.count +
        (stations.countP fun st => decide ((s.marker st).furthest ≠ .clear)) +
        (if s.tailgate.marker = .ejecting then 1 else 0) ∧
      t.queue.reserved = t.billing.list.length ∧ t.queue.head = s.queue.head ∧
      (s.table.busy = false ∨ (∀ st, ¬ asks st) →
        t.billing.list = [] ∧ t.billing.waiting = none ∧ t.table.waiting = [] ∧
        (∀ st : Station, (t.marker st).furthest = .clear) ∧
        (s.tailgate.marker = .ejecting → t.tailgate.marker = .closing)) ∧
      (s.table.busy = true → (∃ st, asks st) →
        t.billing.list ≠ [] ∧ t.billing.waiting ≠ none ∧ t.table.waiting = [.counter] ∧
        (s.tailgate.marker = .ejecting → t.tailgate.marker = .ejecting))

/-- (tier 2) A Warm Start that finds no marker keeps every retained item: the stores, both copies of the
configuration, Configuring, the queue, the zeros, the payload and the clock; and every function is at
rest with no grant and every valve low. A move or walk that its journal shows goes on from the journal's
next index, and a check begins again (R124). A Body Reset start has the effect of a Warm Start (R1), and
comes only when the wait for its response is over (R198). A loss of main power keeps the same items and
leaves every output low and the seconds count still (R178). The model's own choices in it: log entries
3, 7, 13, 18 and 20. -/
def Obligations.RetainedKept : Prop :=
  ∀ (na : BitVec 2) (s : State),
    ((∀ st : Station, (s.marker st).furthest = .clear) → s.tailgate.marker = .clear →
    ∃ t, exec (.warmStart na) s = .next t ∧
      t.store = s.store ∧ t.cfg = s.cfg ∧ t.zeros = s.zeros ∧ t.markers = s.markers ∧
      t.mode = { s.mode with maintenance := false } ∧
      t.queue.head = s.queue.head ∧ t.queue.count = s.queue.count ∧
      t.queue.nextSeq = s.queue.nextSeq ∧ t.queue.reserved = 0 ∧
      t.table.recordCount = s.table.recordCount ∧ t.table.journal = s.table.journal ∧
      (s.table.busy = true → t.table.state = .closed ∧ t.table.moveTimer =
        .running (if t.table.stepsLeft = true ∨ s.table.journal.op = .insert then s.sys.now + 2
          else s.sys.now)) ∧
      (s.table.busy = false → s.table.state = .checking →
        (s.table.recordCount = 0 → t.table.state = .closed) ∧
        (12288 < s.table.recordCount → t.table.state = .invalid) ∧
        (0 < s.table.recordCount → s.table.recordCount ≤ 12288 →
          ∃ n, 0 < n ∧ n ≤ s.table.recordCount ∧ t.table.state = .checking ∧
            t.table.checkTimer = .running (s.sys.now + 2 * n))) ∧
      (s.table.busy = false → s.table.state ≠ .checking → t.table.state = s.table.state) ∧
      t.payload.mass = s.payload.mass ∧ t.payload.fills = s.payload.fills ∧
      t.clock.seconds = s.clock.seconds ∧ t.clock.valid = s.clock.valid ∧
      t.clock.stepped = s.clock.stepped ∧ t.pending = s.pending ∧
      (∀ st : Station, (t.lift st).state = .idle ∧ (t.scale st).pendingZero = none) ∧
      t.packer.state = .parked ∧ t.tailgate.state = .closed ∧
      (∀ r : Requester, t.request r = none ∧ t.grant r = 0) ∧
      (∀ c : Fin 12, (t.channels[c]).applied = 0) ∧
      t.agent.bankBase = 0 ∧ t.agent.terminalPtr = 0 ∧ t.agent.servicePtr = 0 ∧
      t.agent.queue = [] ∧ t.agent.deferred = .free) ∧
    (live s → s.resetDue = true → s.sys.kgood = true →
      exec (.bodyResetStart na) s = exec (.warmStart na) s) ∧
    (live s → s.resetDue = false → exec (.bodyResetStart na) s = .next s) ∧
    ∃ t, exec .mainPowerLoss s = .next t ∧
      t.sys.powered = false ∧ t.store = s.store ∧ t.cfg = s.cfg ∧ t.zeros = s.zeros ∧
      t.markers = s.markers ∧ t.tailgate.marker = s.tailgate.marker ∧
      t.mode.configuring = s.mode.configuring ∧ t.queue.head = s.queue.head ∧
      t.queue.count = s.queue.count ∧ t.queue.nextSeq = s.queue.nextSeq ∧
      t.table.state = s.table.state ∧ t.table.journal = s.table.journal ∧
      t.table.recordCount = s.table.recordCount ∧ t.payload.mass = s.payload.mass ∧
      t.payload.fills = s.payload.fills ∧ t.clock.seconds = s.clock.seconds ∧
      t.clock.valid = s.clock.valid ∧ t.clock.stepped = s.clock.stepped ∧
      t.clock.tick = .stopped ∧ (∀ c : Fin 12, (t.channels[c]).applied = 0) ∧
      t.toggles.beacon.level = false ∧ t.toggles.horn.level = false ∧ t.pending = s.pending

/-! ### Ports (01) -/

/-- (tier 2) R9, R12: a frame that no block is to have takes its port's Default Action when no entry
matches it. It is counted in Received Frames. With Drop, or when the egress port refuses it, it counts
in the receiving port's Unrouted Drops; otherwise it stands unchanged at the tail of the egress Forward
Queue with origin Default. No route's counts change. A Body Port frame of a consumed class that is
addressed to the part has the effect of its owner's row, with the fields that its data bytes hold,
whether Configuring is in force or not, and is routed besides; one that is too short for its class is
counted Malformed and routed, and no owner has it. The model's own choices in it: log entries 5 and 9.
-/
def Obligations.ReceivedFrames : Prop :=
  ∀ (p : Port) (f : Frame) (s : State), live s → agentRests s → f.wf = true →
    (s.port p).off = false →
    (notDelivered s p f → (s.mode.configuring = true ∨ s.cfg.findRoute p f = none) →
      ((s.cfg.defaultForward p = false ∨ s.canForward p.other = false) →
        exec (.frameReceived p f) s = .next (s.setPort p { (s.port p).heard with
          unrouted := bump (s.port p).unrouted })) ∧
      (s.cfg.defaultForward p = true → s.canForward p.other = true →
        ∃ t, exec (.frameReceived p f) s = .next t ∧ t.routes = s.routes ∧
          t.port p = (s.port p).heard ∧
          (t.port p.other).forward = (s.port p.other).forward ++ [⟨f, none⟩] ∧
          t = ((s.setPort p (s.port p).heard).setPort p.other { s.port p.other with
            forward := (s.port p.other).forward ++ [⟨f, none⟩], tx := (t.port p.other).tx }))) ∧
    (∀ (c : BodyClass) (n : Nat), p = .body → s.addressed f = true → frameClass f = some c →
      c.minLength = some n →
      (s.mode.configuring = true ∨
        ∀ i, s.cfg.findRoute p f = some i → (s.cfg.routeAction i).taps = false) →
      let u := routeFrame p f (s.setPort p (s.port p).heard)
      let src := idSource f.id
      let tag := idTag f.id
      let runs (d : Instr) : Prop := exec (.frameReceived p f) s = exec d u
      (f.data.length < n → exec (.frameReceived p f) s =
        .next (u.setBody { u.body with malformed := bump u.body.malformed })) ∧
      (∀ (a0 a1 a2 b0 b1 q : Byte) (l : List Byte), c = .weighSample →
        f.data = a0 :: a1 :: a2 :: b0 :: b1 :: q :: l →
        runs (.weighSample src (a2 ++ a1 ++ a0) (b1 ++ b0) q)) ∧
      (∀ (a0 a1 b0 b1 : Byte) (l : List Byte), c = .attitude → f.data = a0 :: a1 :: b0 :: b1 :: l →
        runs (.attitude src (a1 ++ a0) (b1 ++ b0))) ∧
      (∀ (t0 t1 t2 t3 t4 g : Byte) (l : List Byte), c = .tagRead →
        f.data = t0 :: t1 :: t2 :: t3 :: t4 :: g :: l →
        runs (.tagRead src (t4 ++ t3 ++ t2 ++ t1 ++ t0) g)) ∧
      (∀ (k x : Byte) (l : List Byte), c = .operatorCommand → f.data = k :: x :: l →
        (s.cfg.cabNode ≠ src.toNat → exec (.frameReceived p f) s =
          .next (u.setForeignCommands (bump u.foreignCommands))) ∧
        (s.cfg.cabNode = src.toNat →
          (k = 1 → runs (.cycleStart (.command tag x))) ∧ (k = 2 → runs (.returnLift tag x)) ∧
          (k = 3 → runs (.overrideLift tag x)) ∧ (k = 4 → runs (.recover tag x)) ∧
          (k = 5 → runs (.pack tag x)) ∧ (k = 6 → runs (.unload tag x)) ∧
          (k = 7 → runs (.packerRecover tag x)) ∧ (k = 8 → runs (.tailgateRecover tag x)) ∧
          (k = 0 ∨ 8 < k.toNat → runs (.unknownCommand k tag x)))) ∧
      (n ≤ f.data.length → (c = .managementRequest → runs (.managementRequest src tag f.data)) ∧
        (c = .nodeData → runs (.nodeData src tag f.data))))

/-- (tier 2) A frame that matches an entry without a tap (R8, R10, R13, R14): Drop counts it; Forward
and Translate offer it, translated before the limit. A route that is not limited, and a limited one that
is Open, puts it at the tail of the egress Forward Queue, and the limited one enters Timing for its
Minimum Interval; a full queue or an Off port refuses it, it is counted as dropped and the timing stays;
a limited route in Timing puts it in its hold slot and counts the frame that it replaces there. The
model's own choices in it: log entries 5 and 9. -/
def Obligations.RoutedFrame : Prop :=
  ∀ (p : Port) (f : Frame) (i : Fin 64) (s : State), live s → agentRests s → f.wf = true →
    (s.port p).off = false → notDelivered s p f → s.mode.configuring = false →
    s.cfg.findRoute p f = some i → (s.cfg.routeAction i).taps = false →
    let matched : RouteState := { s.route i with matched := bump (s.route i).matched }
    let becomes (r : RouteState) : Prop :=
      exec (.frameReceived p f) s = .next ((s.setPort p (s.port p).heard).setRoute i r)
    let refused : Prop := becomes { matched with dropped := bump matched.dropped }
    let leaves (r : RouteState) : Prop := ∃ t, exec (.frameReceived p f) s = .next t ∧
      t = ((s.setPort p (s.port p).heard).setRoute i r).setPort p.other { s.port p.other with
        forward := (s.port p.other).forward ++ [⟨s.cfg.translated i f, some i⟩]
        tx := (t.port p.other).tx }
    (s.cfg.routeAction i = .drop → refused) ∧
    (s.cfg.routeAction i ≠ .drop → s.cfg.routeInterval i = 0 →
      (s.canForward p.other = true → leaves matched) ∧
      (s.canForward p.other = false → refused)) ∧
    (s.cfg.routeAction i ≠ .drop → s.cfg.routeInterval i ≠ 0 →
      ((s.port p.other).off = true → refused) ∧
      ((s.port p.other).off = false → (s.route i).timing.isRunning = true → becomes { matched with
        dropped := if (s.route i).held.isSome then bump matched.dropped else matched.dropped
        held := some (s.cfg.translated i f) }) ∧
      ((s.port p.other).off = false → (s.route i).timing.isRunning = false →
        (s.canForward p.other = true →
          leaves { matched with timing := .running (s.sys.now + s.cfg.routeInterval i) }) ∧
        (s.canForward p.other = false → refused)))

/-- (tier 2) A frame transmitted without error leaves the head of its store, is counted in Sent Frames
and lowers the transmit error count by one, not below 0; nothing else of the port or the other one
changes. A frame that loses arbitration, or meets an error below bus-off, stays at the head of its
store: no store changes, an error raises the transmit error count by 8, and the arbiter chooses the
Status Buffer or Control Queue first (R3, R6). A transmit error that would take the count past 255 puts
the port Off: its stores are emptied and counted in Off Discards, each forwarded frame also as dropped
by its route or in Unrouted Drops when its origin is Default, its Bus-Off Count rises, every hold slot
toward it is emptied and counted by its route, Port Off is pending, and the 250 ms recovery timer starts
(R3). The other bus events (R2 to R4): a receive error and a remote frame change the receive error count
alone, a port in Off receives neither them nor a data frame, an expired recovery timer makes the port
Active with both counts 0, and 11 recessive bits let it transmit. The model's own choices in it: log
entries 3 and 16. -/
def Obligations.BusEvents : Prop :=
  (∀ (p : Port) (sel : TxSel) (s : State), live s → (s.port p).tx = some sel →
     (s.port p).off = false → (s.port p).waitRecessive = false →
     (∃ t, exec (.frameSent p) s = .next t ∧ t.port p.other = s.port p.other ∧
       t.port p = { s.port p with
         sent := bump (s.port p).sent, txErr := (s.port p).txErr - 1
         forward := if sel = .forward then (s.port p).forward.tail else (s.port p).forward
         tx := (t.port p).tx } ∧
       t.statusBuffer = (if sel = .first ∧ p = .chassis then none else s.statusBuffer) ∧
       t.control = (if sel = .first ∧ p = .body then s.control.tail else s.control) ∧
       t = { s with chassis := t.chassis, body := t.body, statusBuffer := t.statusBuffer
                    control := t.control }) ∧
     (∃ t, exec (.lostArbitration p) s = .next t ∧
       t = s.setPort p { s.port p with tx := (t.port p).tx } ∧
       (s.firstWaits p = true → (t.port p).tx = some .first)) ∧
     ((s.port p).txErr + 8 ≤ 255 →
       ∃ t, exec (.transmitError p) s = .next t ∧
         t = s.setPort p { s.port p with txErr := (s.port p).txErr + 8, tx := (t.port p).tx } ∧
         (s.firstWaits p = true → (t.port p).tx = some .first))) ∧
  (∀ (p : Port) (s : State), live s → (s.port p).tx.isSome = true → 255 < (s.port p).txErr + 8 →
     let counted (c k : Nat) : Nat := if k = 0 then c else min (c + k) 0xFFFF
     ∃ t, exec (.transmitError p) s = .next t ∧
       (t.port p).off = true ∧ (t.port p).tx = none ∧ (t.port p).forward = [] ∧
       (p = .chassis → t.statusBuffer = none) ∧ (p = .body → t.control = []) ∧
       (t.port p).busOff = bump (s.port p).busOff ∧
       (t.port p).offDiscards = satAdd 0xFFFF (s.port p).offDiscards (s.storedFrames p) ∧
       (t.port p).recovery = .running (s.sys.now + 250000) ∧
       (∀ i : Fin 64,
         let toward : Bool := decide (s.cfg.routeIngress i = p.other)
         let lost := ((s.port p).forward.countP fun x => decide (x.origin = some i)) +
           (if toward && (s.route i).held.isSome then 1 else 0)
         t.route i = { s.route i with
           held := if toward then none else (s.route i).held
           dropped := counted (s.route i).dropped lost }) ∧
       (t.port p).unrouted = counted (s.port p).unrouted
         ((s.port p).forward.countP fun x => decide (x.origin = none)) ∧
       (s.cfg.noticeModes.getLsbD 11 = false ∨ s.agent.spacing.isRunning = true →
         t.agent.notices.getLsbD 11 = true) ∧
       (s.agent.notices.getLsbD 11 = false → t.agent.notices.getLsbD 11 = true ∨
         t.agent.noticesSent = bump s.agent.noticesSent)) ∧
  ∀ (p : Port) (s : State), live s →
    ((s.port p).off = false →
      exec (.receiveError p) s =
        .next (s.setPort p { s.port p with rxErr := min ((s.port p).rxErr + 1) 255 }) ∧
      exec (.remoteFrameReceived p) s =
        .next (s.setPort p { s.port p with rxErr := (s.port p).rxErr - 1 })) ∧
    ((s.port p).off = true →
      exec (.receiveError p) s = .next s ∧ exec (.remoteFrameReceived p) s = .next s ∧
      ∀ f : Frame, exec (.frameReceived p f) s = .next s) ∧
    (∀ e, (s.port p).recovery = .running e →
      exec (.recoveryTimerExpiry p) s = .next ((s.reach e).setPort p { s.port p with
        off := false, waitRecessive := true, txErr := 0, rxErr := 0, recovery := .stopped })) ∧
    ((s.port p).waitRecessive = true →
      ∃ t, exec (.recessiveBitsSeen p) s = .next t ∧
        t = s.setPort p { s.port p with waitRecessive := false, tx := (t.port p).tx })

/-- (tier 2) At the status timer's expiry the Body Status frame of that moment takes the Status Buffer,
replacing and counting one that waits there, and the timer starts again from its expiry; a port in Off
takes none (R5, R17). A limited route's interval expires (R14): an empty hold slot opens the route; a
held frame that the egress queue takes is offered and starts a new interval; one that it refuses is
counted as dropped and opens the route. R24, R25: at the freshness timer's expiry a slot with a Hold
Time enters Holding with its value and a whole hold timer; one without, and any slot at its hold timer's
expiry, enters Degraded. The outputs are those that the slots then give. A change of a Permit
or of the capacity reaches the functions in one arbitration on the new masks and capacity (R29, R147,
R150), which takes every grant that a mask forbids (R151); a Pack Permit that becomes true serves a
pending pack (R166). The model's own choices in it: log entries 3 and 10. -/
def Obligations.RouterTimers : Prop :=
  (∀ (i : Fin 64) (e : Nat) (s : State), live s →
     (s.statusTimer = .running e → ∃ t, exec .statusTimerExpiry s = .next t ∧
       t.statusTimer = .running (e + s.cfg.statusPeriod) ∧
       (s.chassis.off = true → t.statusBuffer = s.statusBuffer ∧ t.chassis = s.chassis) ∧
       (s.chassis.off = false → t.statusBuffer = some s.statusFrame ∧
         t.chassis = { s.chassis with
           tx := t.chassis.tx
           statusReplaced := if s.statusBuffer.isSome then bump s.chassis.statusReplaced
             else s.chassis.statusReplaced }) ∧
       t = { (s.reach e) with
         statusTimer := t.statusTimer, statusBuffer := t.statusBuffer, chassis := t.chassis }) ∧
     ((s.route i).timing = .running e → (s.route i).held = none →
       exec (.routeIntervalExpiry i) s =
         .next ((s.reach e).setRoute i { s.route i with timing := .stopped, held := none })) ∧
     (∀ f, (s.route i).timing = .running e → (s.route i).held = some f →
       s.canForward (s.cfg.routeIngress i).other = false →
       exec (.routeIntervalExpiry i) s = .next ((s.reach e).setRoute i { s.route i with
         timing := .stopped, held := none, dropped := bump (s.route i).dropped })) ∧
     (∀ f, (s.route i).timing = .running e → (s.route i).held = some f →
       s.canForward (s.cfg.routeIngress i).other = true →
       ∃ t, exec (.routeIntervalExpiry i) s = .next t ∧
         t.route i = { s.route i with
           timing := .running (e + s.cfg.routeInterval i), held := none } ∧
         (t.port (s.cfg.routeIngress i).other).forward =
           (s.port (s.cfg.routeIngress i).other).forward ++ [⟨f, some i⟩] ∧
         t.port (s.cfg.routeIngress i) = s.port (s.cfg.routeIngress i) ∧
         ∀ j, j ≠ i → t.route j = s.route j)) ∧
  ∀ (k : SlotId) (e : Nat) (s : State), live s →
    ((s.slot k).fresh = .running e → s.cfg.slotHoldTime k ≠ 0 →
      ∃ t, exec (.freshnessTimerExpiry k) s = .next t ∧
        handsOn ((s.reach e).setSlot k { s.slot k with
          state := .holding, fresh := .stopped
          hold := .running (max s.sys.now e + s.cfg.slotHoldTime k) }) t) ∧
    ((s.slot k).fresh = .running e → s.cfg.slotHoldTime k = 0 →
      ∃ t, exec (.freshnessTimerExpiry k) s = .next t ∧
        handsOn ((s.reach e).setSlot k { s.slot k with
          state := .degraded, value := 0, fresh := .stopped, hold := .stopped
          degrades := bump (s.slot k).degrades }) t) ∧
    ((s.slot k).hold = .running e →
      ∃ t, exec (.slotHoldTimerExpiry k) s = .next t ∧
        handsOn ((s.reach e).setSlot k { s.slot k with
          state := .degraded, value := 0, fresh := .stopped, hold := .stopped
          degrades := bump (s.slot k).degrades }) t)

/-! ### Signals and inputs (02, 03) -/

/-- (tier 2) A frame that matches an entry with a tap (R10, R11, R20, R21, R23): a field outside the
data, or one that is Not Available, is rejected with its cause; a valid one puts the slot in Fresh with
its value and a whole freshness timer, and a valid Chassis Time hands the Clock a sample (R180, R181).
The outputs are those that the slots then give, and a change of them is handed on as one event (R29,
R150); a Pack Permit that becomes true serves a pending pack (R166). With Tap the frame goes no further;
with Tap-and-Forward or Tap-and-Translate it is then offered like a frame of an entry without a tap. The
model's own choices in it: log entries 5, 9 and 10. -/
def Obligations.TapTaken : Prop :=
  ∀ (p : Port) (f : Frame) (i : Fin 64) (k : SlotId) (s : State), live s → agentRests s →
    f.wf = true → (s.port p).off = false → notDelivered s p f → s.mode.configuring = false →
    s.cfg.findRoute p f = some i → (s.cfg.routeAction i).taps = true → s.cfg.routeTap i = some k →
    let u := (s.setPort p (s.port p).heard).setRoute i
      { s.route i with matched := bump (s.route i).matched }
    let goesOn (x : State) : State :=
      if s.cfg.routeAction i = .tap then x else forwardRouted i p.other f x
    let refreshed (v : Nat) : State := u.setSlot k { s.slot k with
      state := .fresh, value := v, hold := .stopped
      fresh := .running (s.sys.now + s.cfg.freshnessTimeout k)
      updates := bump (s.slot k).updates }
    (s.cfg.rawField k f.data = none →
      exec (.frameReceived p f) s = .next (goesOn (u.setSlot k { s.slot k with
        rejected := bump (s.slot k).rejected, cause := .short }))) ∧
    (∀ raw, s.cfg.rawField k f.data = some raw → s.cfg.slotValue k raw = none →
      exec (.frameReceived p f) s = .next (goesOn (u.setSlot k { s.slot k with
        rejected := bump (s.slot k).rejected, cause := .notAvailable }))) ∧
    (∀ raw v, s.cfg.rawField k f.data = some raw → s.cfg.slotValue k raw = some v →
      (k ≠ .chassisTime → ∃ x, exec (.frameReceived p f) s = .next (goesOn x) ∧
        handsOn (refreshed v) x) ∧
      (k = .chassisTime → storesWell s →
        let apart : Nat := (v - s.clock.seconds) + (s.clock.seconds - v)
        let sampled : Clock := { s.clock with syncSamples := bump s.clock.syncSamples }
        let becomes (stepped : Bool) (c : Clock) : Prop :=
          ∃ y x, exec (.frameReceived p f) s = .next (goesOn x) ∧ handsOn y x ∧ y.clock = c ∧
            y.total .clockSteps = (if stepped then min (s.total .clockSteps + 1) 0xFFFFFFFF
              else s.total .clockSteps) ∧
            (∀ a, a < 0x6302C ∨ 0x63030 ≤ a → y.store.read a = s.store.read a) ∧
            y = { refreshed v with
              clock := y.clock, store := y.store, agent := y.agent, body := y.body
              control := y.control }
        (v = 0 ∨ (s.clock.valid = true ∧ apart ≤ s.cfg.syncTolerance) →
          becomes false { sampled with syncIgnored := bump s.clock.syncIgnored }) ∧
        (v ≠ 0 → s.clock.valid = false → becomes false { sampled with
          seconds := v, valid := true, syncsSet := bump s.clock.syncsSet }) ∧
        (v ≠ 0 → s.clock.valid = true → s.cfg.syncTolerance < apart → becomes true { sampled with
          seconds := v, stepCount := bump s.clock.stepCount, stepped := true })))

/-- (tier 2) A group read samples the eight inputs of the driven group and no other (R32): each raw
sample is the line, each logical sample the line under the Invert setting, and the filter of R33 either
agrees and clears its count, or counts one more disagreement, or at its effective count takes the new
state. The pointer moves on, and the next read is 2 ms later. The
group 3 read ends a full scan: it raises the full-scan count until that is the Debounce Count, and then
makes Scan Ready true, which it stays. R34: until then nothing is published; and a read that publishes no
change touches nothing but the scanner. At Scan Ready all 32 filtered states are published as one event.
It sets no bit of the Change Map, raises no Input Change and gives no Cycle Start. The pair errors that
hold begin, with their counts and the notice (R40). The packer stays Parked, or enters Fault, not counted
and with no cause recorded, when Packer Home is inactive, Configured is true and the tailgate's marker is
clear (R176). The model's own choices in it: log entries 3, 7 and 10. -/
def Obligations.GroupRead : Prop :=
  ∀ (lines : Byte) (e : Nat) (s : State), live s → s.scanner.nextRead = .running e →
    s.scanner.pointer < 4 →
    ∃ t, exec (.groupRead lines) s = .next t ∧
      t.scanner.pointer = (s.scanner.pointer + 1) % 4 ∧
      t.scanner.nextRead = .running (e + 2000) ∧
      (∀ i : Fin 32, i.val / 8 ≠ s.scanner.pointer →
        t.scanner.raw.getLsbD i = s.scanner.raw.getLsbD i ∧
        t.scanner.logical.getLsbD i = s.scanner.logical.getLsbD i ∧
        t.scanner.filtered.getLsbD i = s.scanner.filtered.getLsbD i ∧
        t.scanner.disagree[i] = s.scanner.disagree[i]) ∧
      (∀ i : Fin 32, i.val / 8 = s.scanner.pointer →
        t.scanner.raw.getLsbD i = lines.getLsbD (i.val % 8) ∧
        t.scanner.logical.getLsbD i = (lines.getLsbD (i.val % 8) != s.cfg.inverted i.val) ∧
        (t.scanner.logical.getLsbD i = s.scanner.filtered.getLsbD i →
          t.scanner.filtered.getLsbD i = s.scanner.filtered.getLsbD i ∧
          t.scanner.disagree[i] = 0) ∧
        (t.scanner.logical.getLsbD i ≠ s.scanner.filtered.getLsbD i →
          (s.cfg.effectiveCount i.val ≤ s.scanner.disagree[i] + 1 →
            t.scanner.filtered.getLsbD i = t.scanner.logical.getLsbD i ∧
            t.scanner.disagree[i] = 0) ∧
          (s.scanner.disagree[i] + 1 < s.cfg.effectiveCount i.val →
            t.scanner.filtered.getLsbD i = s.scanner.filtered.getLsbD i ∧
            t.scanner.disagree[i] = s.scanner.disagree[i] + 1))) ∧
      (s.scanner.ready = true → t.scanner.published = t.scanner.filtered) ∧
      t.scanner.scans = (if s.scanner.pointer = 3 ∧ s.scanner.scans < s.cfg.debounceCount then
        s.scanner.scans + 1 else s.scanner.scans) ∧
      (t.scanner.ready = true ↔ s.scanner.ready = true ∨
        (s.scanner.pointer = 3 ∧ s.cfg.debounceCount ≤ t.scanner.scans)) ∧
      (t.scanner.ready = false ∨
          (s.scanner.ready = true ∧ t.scanner.published = s.scanner.published) →
        t = { s.reach e with
          scanner := { t.scanner with
            published := s.scanner.published, changeMap := s.scanner.changeMap
            pairErrors := s.scanner.pairErrors, pairCounts := s.scanner.pairCounts }
          sys := { (s.reach e).sys with contacts := t.sys.contacts } }) ∧
      (s.scanner.ready = false → t.scanner.ready = true →
        let begun := t.scanner.pairErrors &&& ~~~ s.scanner.pairErrors
        t.scanner.published = t.scanner.filtered ∧
        t.scanner.changeMap = s.scanner.changeMap ∧ s.quiet t 2 ∧
        (∀ j : Fin 8, t.scanner.pairErrors.getLsbD j =
          (s.cfg.pairEnabled j && t.input (s.cfg.pairA j) && t.input (s.cfg.pairB j)) ∧
          t.scanner.pairCounts[j] =
            if begun.getLsbD j then bump s.scanner.pairCounts[j] else s.scanner.pairCounts[j]) ∧
        (begun ≠ 0 → s.noticed t 3) ∧ (begun = 0 → s.quiet t 3) ∧
        (∀ st : Station, (t.lift st).startRefusals = (s.lift st).startRefusals ∧
          ((s.billing.waiting = none → s.billing.list = []) → s.stationMoving st = false →
            (t.lift st).state = (s.lift st).state)) ∧
        (packerOrderly s →
          t.packer.packPending = false ∧ t.request .packer = none ∧
          t.packer.faults = s.packer.faults ∧ t.packer.lastFault = s.packer.lastFault ∧
          if t.role .packerHome = false ∧ t.configured = true ∧ t.tailgate.marker = .clear then
            t.packer.state = .fault ∧ s.noticed t 5
          else t.packer.state = .parked ∧ s.quiet t 5)) ∧
      (∀ i : Fin 32, t.sys.contacts.getLsbD i = if i.val / 8 = s.scanner.pointer then
        lines.getLsbD (i.val % 8) else s.sys.contacts.getLsbD i) ∧
      t = { ((s.reach e).rebill t) with
        scanner := t.scanner, zeros := t.zeros
        sys := { (s.reach e).sys with contacts := t.sys.contacts } }

/-- (tier 2) R37, R38, R40, R41: after Scan Ready every published change sets its input's bit of the
Change Map, and a bit under the Change Mask that was clear raises Input Change. The pairs are then
evaluated: each pair error that begins is counted and raises Sensor Error, its function enters Fault
with cause Sensor Error when it was in motion, and keeps its state when it was not. The model's own
choices in it: log entries 3 and 10. -/
def Obligations.ChangesPublished : Prop :=
  ∀ (lines : Byte) (e : Nat) (s t : State), live s → s.scanner.ready = true →
    s.scanner.nextRead = .running e → (s.billing.waiting = none → s.billing.list = []) →
    exec (.groupRead lines) s = .next t →
    let changed := s.scanner.published ^^^ t.scanner.published
    let begun := t.scanner.pairErrors &&& ~~~ s.scanner.pairErrors
    let raised (bit : Nat) : Prop :=
      (s.cfg.noticeModes.getLsbD bit = false ∨ s.agent.spacing.isRunning = true →
        t.agent.notices.getLsbD bit = true) ∧
      (s.agent.notices.getLsbD bit = false → t.agent.notices.getLsbD bit = true ∨
        t.agent.noticesSent = bump s.agent.noticesSent)
    let quiet (bit : Nat) : Prop :=
      t.agent.notices.getLsbD bit = true → s.agent.notices.getLsbD bit = true
    t.scanner.changeMap = s.scanner.changeMap ||| changed ∧
    (changed &&& ~~~ s.scanner.changeMap &&& s.cfg.changeMask ≠ 0 → raised 2) ∧
    (changed &&& ~~~ s.scanner.changeMap &&& s.cfg.changeMask = 0 → quiet 2) ∧
    (changed = 0 → t.scanner.pairErrors = s.scanner.pairErrors ∧
      t.scanner.pairCounts = s.scanner.pairCounts) ∧
    (changed ≠ 0 → ∀ j : Fin 8, t.scanner.pairErrors.getLsbD j =
      (s.cfg.pairEnabled j && t.input (s.cfg.pairA j) && t.input (s.cfg.pairB j)) ∧
      t.scanner.pairCounts[j] =
        if begun.getLsbD j then bump s.scanner.pairCounts[j] else s.scanner.pairCounts[j]) ∧
    (begun ≠ 0 → raised 3) ∧ (begun = 0 → quiet 3) ∧
    (∀ st : Station, s.cfg.begunFor begun (.station st) = true →
      (s.stationMoving st = true → (t.lift st).state = .fault ∧
        (t.lift st).lastFault = some .sensorError ∧ (t.lift st).faults = bump (s.lift st).faults ∧
        t.request (.station st) = none) ∧
      (s.stationMoving st = false → (t.lift st).state = (s.lift st).state)) ∧
    (s.cfg.begunFor begun .packer = true → t.packer.packPending = false ∧
      (s.packerMoving = true → t.packer.state = .fault ∧
        t.packer.lastFault = some .sensorError ∧ t.request .packer = none) ∧
      (s.packerMoving = false → t.packer.state = s.packer.state)) ∧
    (s.cfg.begunFor begun .tailgate = true →
      (s.tailgateMoving = true → t.tailgate.state = .fault ∧
        t.tailgate.lastFault = some .sensorError ∧ t.request .tailgate = none) ∧
      (s.tailgateMoving = false → t.tailgate.state = s.tailgate.state))

/-- (tier 2) E-Stop that becomes active stops every function (R42): after the group read that finds it,
no station, packer or tailgate is in motion, and no pack is pending. Each function that was in motion is
in Fault, counted, with cause Sensor Error when a pair error of its own began in that read, which comes
first (R36, R41), and else E-Stop. No station has entered Dump and no pack has begun in between (R65,
R166). A lift that had not reached Dump is Aborted: its request waits, or its record is committed with
that outcome. The model's own choices in it: log entries 3 and 10. -/
def Obligations.EStopHalts : Prop :=
  ∀ (lines : Byte) (e : Nat) (s t : State), live s → s.scanner.nextRead = .running e →
    packerOrderly s → (s.billing.waiting = none → s.billing.list = []) →
    s.eStop = false → exec (.groupRead lines) s = .next t → t.eStop = true →
    let begun := t.scanner.pairErrors &&& ~~~ s.scanner.pairErrors
    (∀ st : Station, (t.lift st).state = .idle ∨ (t.lift st).state = .fault) ∧
    (t.packer.state = .parked ∨ t.packer.state = .fault) ∧
    (t.tailgate.state = .closed ∨ t.tailgate.state = .fault) ∧ t.packer.packPending = false ∧
    (∀ st : Station, s.stationMoving st = true → (t.lift st).state = .fault ∧
      (t.lift st).lastFault =
        some (if s.cfg.begunFor begun (.station st) then .sensorError else .eStop) ∧
      (t.lift st).faults = bump (s.lift st).faults) ∧
    (s.packerMoving = true → t.packer.state = .fault ∧
      t.packer.lastFault = some (if s.cfg.begunFor begun .packer then .sensorError else .eStop) ∧
      t.packer.faults = bump s.packer.faults) ∧
    (s.tailgateMoving = true → t.tailgate.state = .fault ∧
      t.tailgate.lastFault =
        some (if s.cfg.begunFor begun .tailgate then .sensorError else .eStop) ∧
      t.tailgate.faults = bump s.tailgate.faults) ∧
    t.packer.dumps = s.packer.dumps ∧ t.packer.cycles = s.packer.cycles ∧
    t.packer.stroke = s.packer.stroke ∧
    (∀ st : Station, (∀ r, (s.lift st).record = some r → r.reachedDump = false) →
      ∀ r, (t.lift st).record = some r → r.reachedDump = false) ∧
    (∀ (st : Station) (r : LiftRecord), storesWell s → s.table.recordCount ≤ 12288 →
      s.stationMoving st = true → (s.lift st).record = some r → r.requested = false →
      r.reachedDump = false →
      (⟨.station st, .fault r false⟩ : BillReq) ∈ t.billing.list ∨
      ∃ k, s.queue.count ≤ k ∧ k < t.queue.count ∧
        let slot := slotBase ((s.queue.head + k) % 256)
        (t.store.read (slot + 11)).toNat = st.num ∧ t.store.read (slot + 17) = 5 ∧
        ofLe (t.store.readBytes (slot + 20) 2) = (r.gross.getD 0) % 65536)

/-! ### Lift cycles (04) -/

/-- (tier 2) R47, R48: a Cycle Start that no test refuses takes a reservation, counts the lift, fills a
new Lift Record, writes the marker, puts a pending zero in force and leaves Idle; a Side Arm is then in
Engage with its request. The command is answered Accepted. No other station's lift changes. R66: a
Recover that passes its three tests is answered Accepted; a station at its home position is in Idle at
once and requests nothing, and any other one begins Homing with its limit. The model's own choices in
it: log entries 9, 10 and 11. -/
def Obligations.StationLeavesRest : Prop :=
  (∀ (src : StartSource) (st : Station) (s : State), live s → storesWell s →
     (src = .input st ∨ ∃ tag, src = .command tag 0 ∧ st = .sideArm) →
     (s.lift st).state = .idle → s.startRefusal st = none →
     ∃ t r, exec (.cycleStart src) s = .next t ∧ (t.lift st).record = some r ∧
       r.liftNo = min (s.total .liftsStarted + 1) 0xFFFFFFFF ∧ r.start = s.clock.seconds ∧
       r.requested = false ∧ (t.lift st).state ≠ .idle ∧ (t.lift st).state ≠ .fault ∧
       (st = .sideArm → (t.lift st).state = .engage ∧ r = LiftRecord.fresh r.liftNo r.start ∧
         t.began st .engage (s.cfg.engageLimit st)) ∧
       (t.marker st).furthest ≠ .clear ∧ t.queue = s.queue.setHeld (.station st) true ∧
       (t.zero st).za = ((s.scale st).pendingZero).getD (s.zero st).za ∧
       (t.scale st).pendingZero = none ∧ t.total .liftsStarted = r.liftNo ∧
       (∀ a, a < 0x63000 ∨ 0x63004 ≤ a → t.store.read a = s.store.read a) ∧
       (∀ x, x ≠ st → (t.lift x).unpaced = (s.lift x).unpaced ∧ t.marker x = s.marker x ∧
         t.zero x = s.zero x) ∧
       t.packer.state = s.packer.state ∧ t.tailgate.unpaced = s.tailgate.unpaced ∧
       (∀ tag, src = .command tag 0 → controlOpen s → (s.scale st).capture.isRunning = false →
         t.control = s.control ++ [⟨s.replyTo 1 tag 0 .accepted, false⟩]) ∧
       t = { s.repack t with store := t.store, tags := t.tags, zeros := t.zeros, table := t.table
                             queue := t.queue, payload := s.payload }) ∧
  ∀ (st : Station) (tag : BitVec 4) (b : Byte) (s : State), live s → controlOpen s →
    Station.ofNum b.toNat = some st → (s.lift st).state = .fault → s.scanOk = true →
    s.pairErrorOf (.station st) = false →
    (s.atHome st = true → s.request (.station st) = none →
      ∃ t, exec (.recover tag b) s = .next t ∧
        t = (({ s with toggles := t.toggles }).setLift st { s.lift st with
          state := .idle, phaseTimer := .stopped }).offered (s.replyTo 4 tag b .accepted)) ∧
    (s.atHome st = false →
      ∃ t, exec (.recover tag b) s = .next t ∧
        (t.lift st).unpaced = { s.lift st with state := .homing }.unpaced ∧
        t.began st .homing (s.cfg.homingLimit st) ∧ pacedBut [.station st] s t ∧
        t = (s.reflow t).offered (s.replyTo 4 tag b .accepted))

/-- (tier 2) R47, R67: a refused Cycle Start changes only the station's Start Refusals and Last Refusal,
and Busy not even these; a command is answered with the reason, with Not Permitted for a Rear station
and with Bad Station above 2. Every other operator command that is turned away is answered with its code
and changes nothing else (R58, R66, R67, R165, R170, R173, R175); an undefined code is answered Unknown
Command. The model's own choices in it: log entry 9. -/
def Obligations.RefusalsChangeNothing : Prop :=
  (∀ s : State, live s →
     (∀ st : Station, (s.lift st).state ≠ .idle → exec (.cycleStart (.input st)) s = .next s) ∧
     (∀ (st : Station) (r : Refused), (s.lift st).state = .idle → s.startRefusal st = some r →
       exec (.cycleStart (.input st)) s = .next (s.setLift st { s.lift st with
         startRefusals := bump (s.lift st).startRefusals, lastRefusal := some r })) ∧
     (controlOpen s → ∀ tag : BitVec 4,
       ((s.lift .sideArm).state ≠ .idle →
         exec (.cycleStart (.command tag 0)) s = .next (s.offered (s.replyTo 1 tag 0 .busy))) ∧
       (∀ r : Refused, (s.lift .sideArm).state = .idle → s.startRefusal .sideArm = some r →
         exec (.cycleStart (.command tag 0)) s =
           .next ((s.setLift .sideArm { s.lift .sideArm with
             startRefusals := bump (s.lift .sideArm).startRefusals
             lastRefusal := some r }).offered (s.replyTo 1 tag 0 r.reply))) ∧
       (∀ b : Byte, b = 1 ∨ b = 2 → exec (.cycleStart (.command tag b)) s =
         .next (s.offered (s.replyTo 1 tag b .notPermitted))) ∧
       (∀ b : Byte, 2 < b.toNat → exec (.cycleStart (.command tag b)) s =
         .next (s.offered (s.replyTo 1 tag b .badStation))))) ∧
  ∀ (tag : BitVec 4) (b : Byte) (s : State), live s → controlOpen s →
    let turnedAway (c : Instr) (code : Byte) (r : Reply) : Prop :=
      exec c s = .next (s.offered (s.replyTo code tag b r))
    (2 < b.toNat → turnedAway (.returnLift tag b) 2 .badStation ∧
      turnedAway (.overrideLift tag b) 3 .badStation ∧ turnedAway (.recover tag b) 4 .badStation) ∧
    (∀ st, Station.ofNum b.toNat = some st →
      ((s.lift st).state ≠ .hold → turnedAway (.returnLift tag b) 2 .notInHold) ∧
      ((s.lift st).state ≠ .fault → turnedAway (.recover tag b) 4 .notInFault) ∧
      ((s.lift st).state = .fault → s.scanOk = false →
        turnedAway (.recover tag b) 4 .notReady) ∧
      ((s.lift st).state = .fault → s.scanOk = true → s.pairErrorOf (.station st) = true →
        turnedAway (.recover tag b) 4 .sensorError)) ∧
    (s.canStart = false → turnedAway (.pack tag b) 5 .notReady ∧
      turnedAway (.unload tag b) 6 .notReady) ∧
    (s.canStart = true →
      (s.pairErrorOf .packer = true → turnedAway (.pack tag b) 5 .sensorError) ∧
      (s.pairErrorOf .packer = false → s.packer.state = .fault →
        turnedAway (.pack tag b) 5 .busy) ∧
      (s.tailgate.state ≠ .closed → turnedAway (.unload tag b) 6 .busy) ∧
      (s.tailgate.state = .closed →
        (s.pairErrorOf .tailgate = true → turnedAway (.unload tag b) 6 .sensorError) ∧
        (s.pairErrorOf .tailgate = false → s.signals.tailgatePermit = false →
          turnedAway (.unload tag b) 6 .permit) ∧
        (s.pairErrorOf .tailgate = false → s.signals.tailgatePermit = true →
          (s.packer.state ≠ .parked ∨ ∃ st, (s.lift st).state ≠ .idle) →
          turnedAway (.unload tag b) 6 .busy))) ∧
    (s.packer.state ≠ .fault → turnedAway (.packerRecover tag b) 7 .notInFault) ∧
    (s.packer.state = .fault → s.scanOk = false → turnedAway (.packerRecover tag b) 7 .notReady) ∧
    (s.packer.state = .fault → s.scanOk = true → s.pairErrorOf .packer = true →
      turnedAway (.packerRecover tag b) 7 .sensorError) ∧
    (s.tailgate.state ≠ .fault → turnedAway (.tailgateRecover tag b) 8 .notInFault) ∧
    (s.tailgate.state = .fault → s.scanOk = false →
      turnedAway (.tailgateRecover tag b) 8 .notReady) ∧
    (s.tailgate.state = .fault → s.scanOk = true → s.pairErrorOf .tailgate = true →
      turnedAway (.tailgateRecover tag b) 8 .sensorError) ∧
    (∀ code : Byte, code.toNat = 0 ∨ 8 < code.toNat →
      turnedAway (.unknownCommand code tag b) code .unknownCommand)

/-- (tier 2) R58, R60, R62: a Return, and the hold timer's expiry, take a station in Hold to Lower with
admission Refused. The Return is answered Accepted; the expiry sends no reply, sets Hold Timeout and
counts it. The lift is weighed for its tare from nothing. The model's own choices in it: log entries 3
and 9. -/
def Obligations.HoldToLower : Prop :=
  ∀ (st : Station) (r : LiftRecord) (s : State), live s → (s.lift st).state = .hold →
    (s.lift st).record = some r → s.stationRole .lowered st = false →
    (∀ (tag : BitVec 4) (b : Byte), Station.ofNum b.toNat = some st → controlOpen s →
      ∃ t, exec (.returnLift tag b) s = .next t ∧
        (t.lift st).unpaced = { s.lift st with
          state := .lower, wait := .none, sub := .none, holdTimer := .stopped
          record := some { r with admission := .refused } }.unpaced ∧
        t.began st .lower (s.cfg.lowerLimit st) ∧
        t.scale st = { s.scale st with
          run := Run.empty, accepted := none, fallback := none
          silence := .running (s.sys.now + 250000) } ∧
        pacedBut [.station st] s t ∧
        t = (s.reflow t).offered (s.replyTo 2 tag b .accepted)) ∧
    (∀ e, (s.lift st).holdTimer = .running e →
      ∃ t, exec (.holdTimerExpiry st) s = .next t ∧
        (t.lift st).unpaced = { s.lift st with
          state := .lower, wait := .none, sub := .none, holdTimer := .stopped
          holdTimeouts := bump (s.lift st).holdTimeouts
          record := some { r with
            admission := .refused, flags := r.flags ||| LiftFlag.holdTimeout.mask } }.unpaced ∧
        t.began st .lower (s.cfg.lowerLimit st) ∧
        t.scale st = { s.scale st with
          run := Run.empty, accepted := none, fallback := none
          silence := .running (max s.sys.now e + 250000) } ∧
        pacedBut [.station st] s t ∧ t = (s.reach e).reflow t)

/-- (tier 2) R59: an Override in Hold with wait kind Status or Identity makes admission Overridden, sets
the flag, answers Accepted and makes the blade test: the station enters Dump, or waits with kind Blade.
Other wait kinds answer Not Permitted, other states Not In Hold, and change nothing. -/
def Obligations.OverrideHold : Prop :=
  ∀ (st : Station) (tag : BitVec 4) (b : Byte) (r : LiftRecord) (s : State), live s → controlOpen s →
    Station.ofNum b.toNat = some st →
    let taken : LiftRecord :=
      { r with admission := .overridden, flags := r.flags ||| LiftFlag.override.mask }
    ((s.lift st).state ≠ .hold →
      exec (.overrideLift tag b) s = .next (s.offered (s.replyTo 3 tag b .notInHold))) ∧
    ((s.lift st).state = .hold → (s.lift st).wait = .lookup ∨ (s.lift st).wait = .blade →
      exec (.overrideLift tag b) s = .next (s.offered (s.replyTo 3 tag b .notPermitted))) ∧
    ((s.lift st).state = .hold → (s.lift st).wait = .status ∨ (s.lift st).wait = .identity →
      (s.lift st).record = some r →
      (s.bladeOk = false → exec (.overrideLift tag b) s =
        .next ((s.setLift st { s.lift st with
          record := some taken, wait := .blade }).offered (s.replyTo 3 tag b .accepted))) ∧
      (s.bladeOk = true →
        ∃ t, exec (.overrideLift tag b) s = .next t ∧
          (t.lift st).unpaced = { s.lift st with
            state := .dump, wait := .none, holdTimer := .stopped, sub := s.cfg.firstSub st
            record := some { taken with reachedDump := true } }.unpaced ∧
          (t.marker st).furthest = .dumped ∧
          t.request (.station st) = some (t.flowReq (.station st) .dump) ∧
          t.packer.state = s.packer.state ∧ t.packer.dumps = min (s.packer.dumps + 1) 255 ∧
          pacedBut [.station st, .packer] s t ∧
          t = ({ s.reflow t with markers := s.markers.set st (t.marker st) }).offered
            (s.replyTo 3 tag b .accepted)))

/-- (tier 2) R61, R62: the sequence timer takes Dump from Shake Up k to Shake Back k, on to the next
shake or to Dump Up, each with its whole length and the same request and grant; after Dump Up the
station begins Lower with its demand changed in place. The model's own choices in it: log entries 3 and
10. -/
def Obligations.DumpSequence : Prop :=
  ∀ (st : Station) (e : Nat) (s : State), live s → (s.lift st).seqTimer = .running e →
    (∀ (k : Nat) (next : DumpPhase) (len : Nat),
      ((s.lift st).sub = .shakeUp k ∧ next = .shakeBack k ∧ len = s.cfg.shakeHalfPeriod st ∨
        (s.lift st).sub = .shakeBack k ∧ k < s.cfg.shakeCount st ∧ next = .shakeUp (k + 1) ∧
          len = s.cfg.shakeHalfPeriod st ∨
        (s.lift st).sub = .shakeBack k ∧ s.cfg.shakeCount st ≤ k ∧ next = .dumpUp ∧
          len = s.cfg.dumpTime st) →
      ∃ t, exec (.sequenceTimerExpiry st) s = .next t ∧
        t = { (s.reach e).setLift st { s.lift st with
          sub := next, seqTimer := .running (max s.sys.now e + len) } with
            channels := t.channels }) ∧
    ((s.lift st).state = .dump → (s.lift st).sub = .dumpUp → s.packer.packPending = false →
      s.stationRole .lowered st = false →
      ∃ t, exec (.sequenceTimerExpiry st) s = .next t ∧
        (t.lift st).unpaced = { s.lift st with
          state := .lower, wait := .none, sub := .none, holdTimer := .stopped }.unpaced ∧
        t.began st .lower (s.cfg.lowerLimit st) ∧ pacedBut [.station st] s t ∧
        t = (s.reach e).reflow t)

/-- (tier 2) The ends of a station's phases that a group read brings, where no pair error of the station
and no E-Stop begins in it. At Engage end the lift takes its tag by the Tag Mode, its marker and its
lookup, and the station is in Raise (R54, R80). At Raise end the gross is fixed with its grade, the flow
released, and Hold decides admission (R55, R56, R93). At Lower end the tare is fixed and the charge
request made, whose record is committed or waits (R62, R94). At Release end the station is in Idle, the
lowest of the group in Rotating mode (R64), and at home Homing ends in Idle (R66). The model's own
choices in it: log entries 3 and 10. -/
def Obligations.StationPhaseEnds : Prop :=
  ∀ (lines : Byte) (e : Nat) (st : Station) (s t : State), live s → s.scanner.ready = true →
    s.scanner.nextRead = .running e → storesWell s → s.table.recordCount ≤ 12288 →
    (s.billing.waiting = none → s.billing.list = []) →
    s.eStop = false → exec (.groupRead lines) s = .next t → t.eStop = false →
    s.cfg.begunFor (t.scanner.pairErrors &&& ~~~ s.scanner.pairErrors) (.station st) = false →
    let begins (r : Role) : Prop := s.stationRole r st = false ∧ t.stationRole r st = true
    let now := t.sys.now
    let flagged (r : LiftRecord) (f : LiftFlag) : BitVec 32 := r.flags ||| f.mask
    (∀ r, (s.lift st).state = .engage → (s.lift st).record = some r → r.requested = false →
      begins .gripped → t.stationRole .atTop st = false →
      let cands := s.tags.queue.filter fun x => x.station == st
      let left := t.tags.queue.filter fun x => x.station == st
      let n := s.tags.counts.get st
      ∃ r', (t.lift st).record = some r' ∧ (t.lift st).state = .raise ∧
        t.began st .raise (s.cfg.raiseLimit st) ∧ t.marker st = r'.marker .engaged ∧
        (t.scale st).accepted = none ∧ (t.scale st).fallback = none ∧
        (t.scale st).run = Run.empty ∧ (t.scale st).silence = .running (now + 250000) ∧
        (cands = [] → r' = r ∧ left = [] ∧ t.tags.assigned.get st = s.tags.assigned.get st ∧
          t.tags.counts.get st = { n with noTag := bump n.noTag }) ∧
        (∀ x l, cands = x :: l → s.cfg.rollover = true ∨ l = [] →
          r'.tag = some x.tag ∧ r'.source = .engage ∧ r'.flags = r.flags ∧
          left = cands.filter (fun y => y.tag != x.tag) ∧
          t.tags.assigned.get st = some ⟨x.tag, x.last⟩ ∧
          t.tags.counts.get st = { n with engage := bump n.engage } ∧
          r'.lookupPending = s.table.moving ∧
          (s.table.moving = true → .lookup st x.tag ∈ t.table.waiting) ∧
          (∀ p, s.table.state = .closed → s.table.busy = false → s.find x.tag = some p →
            r'.snapshot = some (recSnapshot (s.store.record p))) ∧
          (s.table.state ≠ .closed ∨ s.find x.tag = none → r'.snapshot = r.snapshot)) ∧
        (∀ x y l, cands = x :: y :: l → s.cfg.rollover = false →
          r' = { r with flags := flagged r .ambiguousTag } ∧ left = [] ∧
          t.tags.assigned.get st = s.tags.assigned.get st ∧
          t.tags.counts.get st = { n with ambiguous := bump n.ambiguous })) ∧
    (∀ r, (s.lift st).state = .raise → (s.lift st).record = some r → r.requested = false →
      begins .atTop →
      let w := s.scale st
      let dumps := t.role .bladeClear = true ∧ t.packer.state ≠ .extending ∧
        t.packer.state ≠ .dwelling
      let waits (k : WaitKind) (g : LiftRecord) : Prop := (t.lift st).state = .hold ∧
        (t.lift st).wait = k ∧ (t.lift st).record = some g ∧ t.marker st = g.marker .raised ∧
        (t.lift st).holdTimer = .running (now + s.cfg.holdLimit) ∧
        t.request (.station st) = none ∧ (t.lift st).phaseTimer = .stopped
      let decides (g : LiftRecord) : Prop :=
        let enters : Prop := (¬ dumps → waits .blade { g with admission := .admitted }) ∧
          (dumps → (t.lift st).state = .dump ∧
            (t.lift st).record = some { g with admission := .admitted, reachedDump := true } ∧
            t.marker st = ({ g with admission := .admitted } : LiftRecord).marker .dumped)
        (t.scale st).run = Run.empty ∧ (t.scale st).silence = .stopped ∧
        (r.lookupPending = true → waits .lookup g) ∧
        (r.lookupPending = false →
          (∀ h, r.snapshot = some h → (h.status = .suspended → waits .status g) ∧
            (h.status ≠ .suspended → enters)) ∧
          (r.snapshot = none → (s.cfg.unidentifiedTip = false → waits .identity g) ∧
            (s.cfg.unidentifiedTip = true → enters)))
      (∀ a, w.accepted = some a → decides { r with
        gross := some a.mass, grade := .stable, pitch := a.pitch, flags := r.flags ||| a.flags }) ∧
      (∀ f, w.accepted = none → w.fallback = some f →
        let c := s.convert st f.sum
        decides { r with
          gross := some c.mass, grade := .unstable, pitch := c.pitch
          flags := r.flags ||| c.flags ||| LiftFlag.unstableGross.mask } ∧
        (t.scale st).unstableGross = bump w.unstableGross) ∧
      (w.accepted = none → w.fallback = none → decides { r with
        gross := none, grade := .missing, pitch := 0, flags := flagged r .missingGross } ∧
        (t.scale st).missingGross = bump w.missingGross)) ∧
    (∀ r, (s.lift st).state = .lower → (s.lift st).chargePending = false →
      (s.lift st).record = some r → r.requested = false → begins .lowered →
      let ends (g : LiftRecord) : Prop :=
        let pending : Prop := (⟨.station st, .charge g⟩ : BillReq) ∈ t.billing.list ∧
          (t.lift st).state = .lower ∧ (t.lift st).chargePending = true ∧
          (t.lift st).phaseTimer = .stopped ∧ t.request (.station st) = none ∧
          (t.lift st).record = some { g with requested := true }
        let committed : Prop := (t.lift st).record = none ∧ t.marker st = Marker.clear ∧
          t.queue.holds (.station st) = false ∧
          ((t.lift st).state = .release ∨ (t.lift st).state = .idle) ∧
          ∃ k, s.queue.count ≤ k ∧ k < t.queue.count ∧
            let slot := slotBase ((s.queue.head + k) % 256)
            (t.store.read (slot + 11)).toNat = st.num ∧
            ofLe (t.store.readBytes (slot + 22) 2) = g.tare.getD 0 % 65536
        (pending ∨ committed) ∧ (s.billing.waiting ≠ none → pending) ∧
        (s.billing.waiting = none → s.table.moving = false → committed)
      (∀ a, (s.scale st).accepted = some a → ends { r with
        tare := some a.mass, tareSource := .measured, flags := r.flags ||| a.flags }) ∧
      ((s.scale st).accepted = none → ends { r with
        tare := some (s.cfg.defaultTare ((r.snapshot.map Snapshot.bin).getD 0))
        tareSource := .default, flags := flagged r .defaultTare } ∧
        (t.scale st).defaultTare = bump (s.scale st).defaultTare)) ∧
    ((s.lift st).state = .release → s.releaseDone st = false →
      t.stationRole .gripped st = false → t.stationRole .stowed st = true →
      (t.lift st).state = .idle ∧ t.request (.station st) = none ∧
      (t.lift st).phaseTimer = .stopped ∧
      ((∀ x, x ≠ st → (s.lift x).state ≠ .release ∧ (s.lift x).state ≠ .lower) →
        t.arbiter.group = if s.cfg.rotating then
          s.arbiter.group.filter (fun x => x != st) ++ [st] else s.arbiter.group)) ∧
    ((s.lift st).state = .homing → s.atHome st = false → t.stationRole .stowed st = true →
      (st = .sideArm → t.stationRole .gripped st = false) →
      (t.lift st).state = .idle ∧ t.request (.station st) = none ∧
      (t.lift st).phaseTimer = .stopped)

/-- (tier 2) R50, R53, R65: the phase timer's and the pause timer's expiry put the station in Fault with
the cause named, without a request, pause or timer, and counted. The Station Fault notice stands in the
Notice Set, or has left in a Notice when its kind is Pulsed (R196). A lift whose request is not yet made
has it made, and no other byte of the stores than a commit's changes. The model's own choices in it: log
entries 3, 10 and 15. -/
def Obligations.StationTimeouts : Prop :=
  ∀ (st : Station) (e : Nat) (s : State), live s → storesWell s → s.billing.list = [] →
    s.billing.waiting = none → s.table.moving = false → s.packer.packPending = false →
    let inFault (c : Instr) (cause : StationFault) : Prop :=
      ∃ t, exec c s = .next t ∧ (t.lift st).state = .fault ∧
        (t.lift st).lastFault = some cause ∧ (t.lift st).faults = bump (s.lift st).faults ∧
        (t.lift st).paused = false ∧ (t.lift st).phaseTimer = .stopped ∧
        (t.lift st).pauseTimer = .stopped ∧ (t.lift st).holdTimer = .stopped ∧
        (t.lift st).seqTimer = .stopped ∧ t.request (.station st) = none ∧
        (s.request (.station st) ≠ none → t.grant (.station st) = 0) ∧
        (s.cfg.noticeModes.getLsbD 4 = false ∨ s.agent.spacing.isRunning = true →
          t.agent.notices.getLsbD 4 = true) ∧
        (s.agent.notices.getLsbD 4 = false → t.agent.notices.getLsbD 4 = true ∨
          t.agent.noticesSent = bump s.agent.noticesSent) ∧
        (∀ r, (s.lift st).record = some r → r.requested = false →
          t.queue.count = s.queue.count + 1 ∧ t.queue.holds (.station st) = false ∧
          (t.lift st).record = none ∧ (t.marker st).furthest = .clear ∧
          ∀ a, ¬ s.commitBytes (r.tag.getD 0) a → t.store.read a = s.store.read a) ∧
        ((s.lift st).record = none ∨ (∃ r, (s.lift st).record = some r ∧ r.requested = true) →
          t.store = s.store ∧ t.queue = s.queue ∧ t.markers = s.markers) ∧
        (∀ x, x ≠ st → (t.lift x).unpaced = (s.lift x).unpaced ∧ t.marker x = s.marker x) ∧
        t.packer.unpaced = s.packer.unpaced ∧ t.tailgate.unpaced = s.tailgate.unpaced ∧
        t = (s.reach e).rebill t
    (∀ cause, (s.lift st).state.timeout = some cause → (s.lift st).phaseTimer = .running e →
      inFault (.phaseTimerExpiry st) cause) ∧
    ((s.lift st).pauseTimer = .running e → inFault (.pauseTimerExpiry st) .pauseLimit)

/-! ### Packer and tailgate (10) -/

/-- (tier 2) R165, R167: an accepted Pack begins Extending when the packer may start: stroke and
dumps-since-pack are 0, the request stands, and the limit and stall timers have their whole times, the
first held and the second stopped while there is no grant. Otherwise pack-pending is set. R167: a pulse
counts in Extending alone and restarts a stall timer that runs; a pulse that reaches Full Stroke, and
the stall timer's expiry, end Extending: the stroke is taken, its fill joins the Fill list of four
(R169), a Cycle is counted, and a Stall for the expiry; the request is released and Dwelling begins, or
Retracting at once with Dwell Time 0. The model's own choices in it: log entries 3, 9 and 10. -/
def Obligations.PackerExtends : Prop :=
  (∀ (tag : BitVec 4) (b : Byte) (s : State), live s → controlOpen s → s.canStart = true →
     s.pairErrorOf .packer = false → s.packer.state ≠ .fault →
     (s.packReady = false → exec (.pack tag b) s =
       .next ((s.setPacker { s.packer with packPending := true }).offered
         (s.replyTo 5 tag b .accepted))) ∧
     (s.packReady = true → s.role .pressureMax = false →
       ∃ t, exec (.pack tag b) s = .next t ∧
         t.packer.unpaced = { s.packer with state := .extending, stroke := 0, dumps := 0 }.unpaced ∧
         t.request .packer = some ⟨.extending, s.cfg.u8 0x6285E, s.cfg.u8 0x6285F⟩ ∧
         t.packer.paused = decide (t.grant .packer = 0) ∧
         t.packer.limitTimer = (if t.grant .packer = 0 then .held s.cfg.extendLimit
           else .running (s.sys.now + s.cfg.extendLimit)) ∧
         t.packer.stallTimer = (if t.grant .packer = 0 then .stopped
           else .running (s.sys.now + s.cfg.stallTime)) ∧
         pacedBut [.packer] s t ∧ t = (s.reflow t).offered (s.replyTo 5 tag b .accepted))) ∧
  ∀ (e : Nat) (s : State), live s →
    let ended (c : Instr) (now stroke stalls : Nat) : Prop :=
      ∃ t, exec c s = .next t ∧ t.packer.lastStroke = stroke ∧ t.packer.stroke = stroke ∧
        t.packer.cycles = bump s.packer.cycles ∧ t.packer.stalls = stalls ∧
        t.payload.mass = s.payload.mass ∧ t.payload.fills =
          (s.payload.fills ++ [if stroke < s.cfg.fullStroke then
            100 * (s.cfg.fullStroke - stroke) / s.cfg.fullStroke else 0]).drop
            (s.payload.fills.length - 3) ∧
        t.payload.bodyFull = t.bodyFullTest ∧
        (s.cfg.dwellTime ≠ 0 → t.packer.state = .dwelling ∧ t.request .packer = none ∧
          t.packer.dwellTimer = .running (now + s.cfg.dwellTime) ∧ pacedBut [.packer] s t) ∧
        (s.cfg.dwellTime = 0 → t.packer.state = .retracting) ∧
        t = { s with sys := { s.sys with now := now } }.repack t
    (s.packer.state ≠ .extending → exec .encoderPulse s = .next s) ∧
    (s.packer.state = .extending → s.packer.stroke < 65535 →
      s.packer.stroke + 1 < s.cfg.fullStroke →
      exec .encoderPulse s = .next (s.setPacker { s.packer with
        stroke := s.packer.stroke + 1
        stallTimer := if s.packer.stallTimer.isRunning then .running (s.sys.now + s.cfg.stallTime)
          else s.packer.stallTimer })) ∧
    (s.packer.state = .extending → (s.cfg.dwellTime = 0 → s.packerHome = false) →
      (s.cfg.fullStroke ≤ min (s.packer.stroke + 1) 65535 →
        ended .encoderPulse s.sys.now (min (s.packer.stroke + 1) 65535) s.packer.stalls) ∧
      (s.packer.stallTimer = .running e →
        ended .stallTimerExpiry (max s.sys.now e) s.packer.stroke (bump s.packer.stalls)))

/-- (tier 2) The ends of the packer's and the tailgate's phases that a group read brings, where no pair
error and no E-Stop begins in it. Pressure Max ends Extending in a Stall (R167). Packer Home and Blade
Clear end Retracting: the packer is Parked without a request, a station that waits for the blade dumps,
and a pending pack begins when its conditions hold (R57, R166, R168). The tailgate's two inputs inactive
end Opening once Open Time has run, and not before; both active end Closing (R174). The model's own
choices in it: log entries 3 and 10. -/
def Obligations.CompactionPhaseEnds : Prop :=
  ∀ (lines : Byte) (e : Nat) (s t : State), live s → s.scanner.ready = true →
    s.scanner.nextRead = .running e → (s.billing.waiting = none → s.billing.list = []) →
    s.eStop = false → exec (.groupRead lines) s = .next t →
    t.eStop = false → t.scanner.pairErrors &&& ~~~ s.scanner.pairErrors = 0 →
    (s.packer.state = .extending → s.role .pressureMax = false → t.role .pressureMax = true →
      t.packer.lastStroke = s.packer.stroke ∧ t.packer.cycles = bump s.packer.cycles ∧
      t.packer.stalls = bump s.packer.stalls ∧ t.payload.fills =
        (s.payload.fills ++ [if s.packer.stroke < s.cfg.fullStroke then
          100 * (s.cfg.fullStroke - s.packer.stroke) / s.cfg.fullStroke else 0]).drop
            (s.payload.fills.length - 3) ∧
      (s.cfg.dwellTime ≠ 0 → t.packer.state = .dwelling ∧ t.request .packer = none ∧
        t.packer.dwellTimer = .running (t.sys.now + s.cfg.dwellTime)) ∧
      (s.cfg.dwellTime = 0 → t.packerHome = false → t.packer.state = .retracting)) ∧
    (s.packer.state = .retracting → s.packerHome = false → t.role .packerHome = true →
      t.role .bladeClear = true →
      (∀ st : Station, (s.lift st).state = .hold → (s.lift st).wait = .blade →
        (t.lift st).state = .dump) ∧
      (s.packer.packPending = false → t.packer.state = .parked ∧ t.request .packer = none ∧
        t.packer.limitTimer = .stopped) ∧
      (s.packer.packPending = true → s.signals.packPermit = true → s.tailgate.state = .closed →
        (∀ st : Station, (t.lift st).state ≠ .dump) → t.role .pressureMax = false →
        t.packer.state = .extending ∧ t.packer.packPending = false ∧ t.packer.stroke = 0)) ∧
    (s.tailgate.state = .opening → s.tailgateOpen = false →
      t.role .tailgateClosed = false → t.role .tailgateLocked = false →
      (s.tailgate.openReached = false → t.tailgate.state = .opening) ∧
      (s.tailgate.openReached = true → t.tailgate.state = .ejecting ∧
        t.tailgate.marker = .ejecting ∧ t.tailgate.limitTimer = .stopped ∧
        t.request .tailgate = some ⟨.ejecting, s.cfg.u8 0x62862, s.cfg.u8 0x62862⟩ ∧
        t.tailgate.ejectTimer = (if t.grant .tailgate = 0 then .held s.cfg.ejectTime
          else .running (t.sys.now + s.cfg.ejectTime)))) ∧
    (s.tailgate.state = .closing → s.tailgateShut = false →
      t.role .tailgateClosed = true → t.role .tailgateLocked = true →
      t.tailgate.state = .closed ∧ t.tailgate.marker = .clear ∧ t.request .tailgate = none ∧
      t.tailgate.limitTimer = .stopped)

/-- (tier 2) R168, R170, R57: the Dwell timer's expiry, and a Packer Recover that passes its tests, take
the packer to Retracting with its request and limit, or to Parked without a request when it is home. A
station that waits for the blade enters Dump when Blade Clear is active. The model's own choices in it:
log entries 3, 9 and 10. -/
def Obligations.PackerRetracts : Prop :=
  ∀ (tag : BitVec 4) (b : Byte) (e : Nat) (s : State), live s →
    let free : Prop := ∀ st : Station, (s.lift st).state = .hold → (s.lift st).wait ≠ .blade
    let retracted (c : Instr) (now : Nat) (out : State → State) : Prop :=
      (s.packerHome = false → ∃ t, exec c s = .next t ∧ t.packer.state = .retracting ∧
        t.request .packer = some ⟨.retracting, s.cfg.u8 0x62860, s.cfg.u8 0x62860⟩ ∧
        t.packer.paused = decide (t.grant .packer = 0) ∧
        t.packer.limitTimer = (if t.grant .packer = 0 then .held s.cfg.retractLimit
          else .running (now + s.cfg.retractLimit)) ∧
        t.packer.dwellTimer = .stopped ∧
        (free → pacedBut [.packer] s t ∧
          t = out ({ s with sys := { s.sys with now := now } }.reflow t))) ∧
      (s.packerHome = true → free → s.packer.packPending = false → s.request .packer = none →
        ∃ t, exec c s = .next t ∧
          t = out ({ s with sys := { s.sys with now := now }, toggles := t.toggles }.setPacker
            { s.packer with
              state := .parked, dwellTimer := .stopped, limitTimer := .stopped
              stallTimer := .stopped })) ∧
      (∀ (st : Station) (r : LiftRecord), (s.lift st).state = .hold → (s.lift st).wait = .blade →
        (s.lift st).record = some r → s.role .bladeClear = true →
        ∃ t, exec c s = .next t ∧ (t.lift st).state = .dump ∧ (t.marker st).furthest = .dumped)
    (s.packer.dwellTimer = .running e →
      retracted .dwellTimerExpiry (max s.sys.now e) (fun x => x)) ∧
    (controlOpen s → s.packer.state = .fault → s.scanOk = true → s.pairErrorOf .packer = false →
      retracted (.packerRecover tag b) s.sys.now
        (fun x => x.offered (s.replyTo 7 tag b .accepted)))

/-- (tier 2) R167, R168, R170: the Extend Limit, the Retract Limit and the pause timer put the packer in
Fault with their causes, without a request, a timer or a pending pack; the stroke and the fills stay.
R174, R175: the Opening Limit, the Closing Limit and the pause timer put the tailgate in Fault with
their causes, without a request or a timer. One that was Ejecting makes its Unload request, whose record
is committed; any other keeps its reservation and its marker. The model's own choices in it: log entries
3 and 23. -/
def Obligations.CompactionTimeouts : Prop :=
  (∀ (e : Nat) (s : State), live s →
     let inFault (c : Instr) (cause : PackerFault) : Prop :=
       ∃ t, exec c s = .next t ∧ t.packer.state = .fault ∧ t.packer.lastFault = some cause ∧
         t.packer.faults = bump s.packer.faults ∧ t.packer.packPending = false ∧
         t.packer.paused = false ∧ t.packer.limitTimer = .stopped ∧
         t.packer.stallTimer = .stopped ∧ t.packer.dwellTimer = .stopped ∧
         t.packer.pauseTimer = .stopped ∧ t.packer.stroke = s.packer.stroke ∧
         t.packer.cycles = s.packer.cycles ∧ t.request .packer = none ∧
         ((∀ st : Station, (s.lift st).state = .hold → (s.lift st).wait ≠ .blade) →
           pacedBut [.packer] s t ∧ t.markers = s.markers) ∧
         t = { ((s.reach e).repack t) with payload := s.payload }
     (s.packer.state = .extending → s.packer.limitTimer = .running e →
       inFault .extendLimitExpiry .extendTimeout) ∧
     (s.packer.state = .retracting → s.packer.limitTimer = .running e →
       inFault .retractLimitExpiry .retractTimeout) ∧
     (s.packer.pauseTimer = .running e → inFault .packerPauseTimerExpiry .pauseLimit)) ∧
  ∀ (e : Nat) (s : State), live s → s.billing.list = [] → s.billing.waiting = none →
    let inFault (c : Instr) (cause : TailgateFault) : Prop :=
      ∃ t, exec c s = .next t ∧ t.tailgate.state = .fault ∧ t.tailgate.lastFault = some cause ∧
        t.tailgate.faults = bump s.tailgate.faults ∧ t.tailgate.paused = false ∧
        t.tailgate.unloadPending = false ∧ t.tailgate.openTimer = .stopped ∧
        t.tailgate.limitTimer = .stopped ∧ t.tailgate.ejectTimer = .stopped ∧
        t.tailgate.pauseTimer = .stopped ∧ t.request .tailgate = none ∧ pacedBut [.tailgate] s t ∧
        (s.tailgate.state = .ejecting → s.tailgate.unloadPending = false →
          t.queue.count = s.queue.count + 1 ∧ t.queue.heldTailgate = false ∧
          t.tailgate.marker = .closing ∧ t.payload.mass = 0 ∧
          t.tailgate.unloads = bump s.tailgate.unloads) ∧
        (s.tailgate.state ≠ .ejecting ∨ s.tailgate.unloadPending = true →
          t.tailgate.marker = s.tailgate.marker ∧ t.queue = s.queue ∧ t.store = s.store ∧
          t.payload = s.payload ∧ t.billing = s.billing ∧ t.clock = s.clock) ∧
        t = { ((s.reach e).rebill t) with tags := s.tags, markers := s.markers, table := s.table }
    (s.tailgate.state = .opening → s.tailgate.limitTimer = .running e →
      inFault .openingLimitExpiry .openingTimeout) ∧
    (s.tailgate.state = .closing → s.tailgate.limitTimer = .running e →
      inFault .closingLimitExpiry .closingTimeout) ∧
    (s.tailgate.pauseTimer = .running e → inFault .tailgatePauseTimerExpiry .pauseLimit)

/-- (tier 2) R173, R174, R175: an accepted Unload, and a Tailgate Recover with the reservation still
held, begin Opening with the run timer at 0; any other Recover begins Closing. A Recover with an Unload
request waiting is answered Busy, and an Unload without a free slot Queue Full. When the run timer
reaches Open Time, a tailgate whose two inputs are inactive begins Ejecting with its demand changed in
place; one that is not open yet waits for its inputs. R138, R140, R174: the eject timer's end makes the
Unload request. Served at once, it commits the Unload record at the tail of the Charge Queue from the
reservation, empties the payload and the fills, counts the Unload, and the tailgate begins Closing with
its marker at Closing. The model's own choices in it: log entries 3, 9, 10 and 23. -/
def Obligations.TailgateUnloads : Prop :=
  (∀ (tag : BitVec 4) (b : Byte) (e : Nat) (s : State), live s → controlOpen s →
     (s.tailgate.openTimer = .running e → s.tailgate.state = .opening →
       (s.tailgateOpen = false → exec .openTimeReached s =
         .next ((s.reach e).setTailgate { s.tailgate with
           openReached := true, openTimer := .stopped })) ∧
       (s.tailgateOpen = true → ∃ t, exec .openTimeReached s = .next t ∧
         t.tailgate.unpaced = { s.tailgate with
           state := .ejecting, marker := .ejecting, openReached := false }.unpaced ∧
         t.request .tailgate = some ⟨.ejecting, s.cfg.u8 0x62862, s.cfg.u8 0x62862⟩ ∧
         t.tailgate.ejectTimer = (if t.grant .tailgate = 0 then .held s.cfg.ejectTime
           else .running (t.sys.now + s.cfg.ejectTime)) ∧
         t.tailgate.limitTimer = .stopped ∧ pacedBut [.tailgate] s t ∧
         t = (s.reach e).reflow t)) ∧
     let opens (c : Instr) (code : Byte) (u : State) : Prop :=
       ∃ t, exec c s = .next t ∧
         t.tailgate.unpaced = { u.tailgate with state := .opening, openReached := false }.unpaced ∧
         t.request .tailgate = some ⟨.opening, s.cfg.u8 0x62861, s.cfg.u8 0x62861⟩ ∧
         t.tailgate.paused = decide (t.grant .tailgate = 0) ∧
         t.tailgate.openTimer = (if t.grant .tailgate = 0 then .held s.cfg.openTime
           else .running (s.sys.now + s.cfg.openTime)) ∧
         t.tailgate.limitTimer = (if t.grant .tailgate = 0 then .held s.cfg.openingLimit
           else .running (s.sys.now + s.cfg.openingLimit)) ∧
         pacedBut [.tailgate] s t ∧ t = (u.reflow t).offered (s.replyTo code tag b .accepted)
     (s.canStart = true → s.tailgate.state = .closed → s.pairErrorOf .tailgate = false →
       s.signals.tailgatePermit = true → (∀ st, (s.lift st).state = .idle) →
       s.packer.state = .parked →
       (256 ≤ s.queue.count + s.queue.reserved ∨ s.queue.heldTailgate = true →
         exec (.unload tag b) s = .next (s.offered (s.replyTo 6 tag b .queueFull))) ∧
       (s.queue.count + s.queue.reserved < 256 → s.queue.heldTailgate = false →
         s.cfg.openTime ≠ 0 →
         opens (.unload tag b) 6 ((s.setQueue { s.queue with heldTailgate := true }).setTailgate
           { s.tailgate with marker := .opening }))) ∧
     (s.tailgate.state = .fault → s.scanOk = true → s.pairErrorOf .tailgate = false →
       (s.unloadWaits = true →
         exec (.tailgateRecover tag b) s = .next (s.offered (s.replyTo 8 tag b .busy))) ∧
       (s.unloadWaits = false → s.queue.heldTailgate = true → s.cfg.openTime ≠ 0 →
         opens (.tailgateRecover tag b) 8 s) ∧
       (s.unloadWaits = false → s.queue.heldTailgate = false → s.tailgateShut = false →
         ∃ t, exec (.tailgateRecover tag b) s = .next t ∧
           t.tailgate.unpaced = { s.tailgate with
             state := .closing, marker := .closing, unloadPending := false }.unpaced ∧
           t.request .tailgate = some ⟨.closing, s.cfg.u8 0x62863, s.cfg.u8 0x62863⟩ ∧
           t.tailgate.limitTimer = (if t.grant .tailgate = 0 then .held s.cfg.closingLimit
             else .running (s.sys.now + s.cfg.closingLimit)) ∧
           pacedBut [.tailgate] s t ∧
           t = (s.reflow t).offered (s.replyTo 8 tag b .accepted)) ∧
       (s.unloadWaits = false → s.queue.heldTailgate = false → s.tailgateShut = true →
         s.packer.packPending = false → s.request .tailgate = none →
         ∃ t, exec (.tailgateRecover tag b) s = .next t ∧
           t = ({ s with toggles := t.toggles }.setTailgate { s.tailgate with
             state := .closed, marker := .clear, unloadPending := false, openTimer := .stopped
             limitTimer := .stopped, ejectTimer := .stopped }).offered
               (s.replyTo 8 tag b .accepted)))) ∧
  ∀ (e : Nat) (s : State), live s → storesWell s → s.tailgate.ejectTimer = .running e →
    s.billing.list = [] → s.billing.waiting = none → s.tailgateShut = false →
    ∃ t, exec .ejectTimerExpiry s = .next t ∧ t.tailgate.state = .closing ∧
      t.tailgate.marker = .closing ∧ t.tailgate.unloads = bump s.tailgate.unloads ∧
      t.tailgate.unloadPending = false ∧ t.tailgate.ejectTimer = .stopped ∧
      t.request .tailgate = some ⟨.closing, s.cfg.u8 0x62863, s.cfg.u8 0x62863⟩ ∧
      t.payload.mass = 0 ∧ t.payload.fills = [] ∧
      t.queue = { s.queue with
        heldTailgate := false, count := s.queue.count + 1, commits := bump s.queue.commits
        nextSeq := if s.queue.nextSeq = 0xFFFFFFFF then 1 else s.queue.nextSeq + 1 } ∧
      t.store.readBytes (slotBase ((s.queue.head + s.queue.count) % 256)) 32 =
        s.unloadRecord.bytes s.queue.nextSeq (if s.clock.valid then s.clock.seconds else 0)
          (!s.clock.valid || s.clock.stepped) ∧
      t.total .unload = min (s.total .unload + 1) 0xFFFFFFFF ∧
      (∀ a, ¬ s.commitBytes 0 a ∨ a < 0x60000 → t.store.read a = s.store.read a) ∧
      t.clock = { s.clock with stepped := s.clock.stepped && !s.clock.valid } ∧
      pacedBut [.tailgate] s t ∧ t = { ((s.reach e).rebill t) with tags := s.tags, markers := s.markers,
                                                                   table := s.table }

/-! ### Tags and weighing (05, 06) -/

/-- (tier 2) R74 to R79, R82: a read from no Reader Node, or of tag 0, is ignored; a read of the
station's assigned tag is absorbed; one that finds the lift open is assigned late; any other merges into
its entry, joins the tail, or is dropped from a full queue and sets Tag Overrun. The model's own choices
in it: log entries 9 and 17. -/
def Obligations.TagReads : Prop :=
  ∀ (src : Byte) (tag : BitVec 40) (strength : Byte) (s : State), live s →
    let taken : Tags := { s.tags with taken := bump s.tags.taken }
    ((∀ st : Station, s.cfg.readerNode st ≠ src.toNat) ∨ tag = 0 →
      exec (.tagRead src tag strength) s =
        .next (s.setTags { s.tags with ignored := bump s.tags.ignored })) ∧
    (∀ st : Station, stationOf s.cfg.readerNode src = some st → tag ≠ 0 →
      (∀ a, s.tags.assigned.get st = some a → a.tag = tag.toNat →
        exec (.tagRead src tag strength) s = .next (s.setTags { taken with
          assigned := s.tags.assigned.set st (some ⟨tag.toNat, s.tagTime⟩)
          absorbed := bump s.tags.absorbed })) ∧
      (s.absorbs st tag.toNat = false → ∀ r, s.openForLate st = true →
        (s.lift st).record = some r → r.requested = false →
        ∃ t r', exec (.tagRead src tag strength) s = .next t ∧ (t.lift st).record = some r' ∧
          r'.tag = some tag.toNat ∧ r'.source = .late ∧
          r'.flags = r.flags ||| LiftFlag.lateTag.mask ∧
          r'.lookupPending = s.table.moving ∧
          (t.tags.assigned.get st) = some ⟨tag.toNat, s.tagTime⟩ ∧ t.tags.queue = s.tags.queue ∧
          t = { s.setLift st { s.lift st with record := some r' } with
            markers := t.markers, tags := t.tags, table := t.table }) ∧
      (s.absorbs st tag.toNat = false → s.openForLate st = false →
        (∀ x ∈ s.tags.queue, x.isFor st tag.toNat = true →
          exec (.tagRead src tag strength) s = .next (s.setTags { taken with
            merged := bump s.tags.merged
            queue := s.tags.queue.map fun y => if y.isFor st tag.toNat then
                { y with last := s.tagTime, count := min (y.count + 1) 255
                         strength := strength.toNat }
              else y })) ∧
        ((∀ x ∈ s.tags.queue, x.isFor st tag.toNat = false) → s.tags.queue.length < 8 →
          exec (.tagRead src tag strength) s = .next (s.setTags { taken with
            queue := s.tags.queue ++
              [⟨st, tag.toNat, s.tagTime, s.tagTime, 1, strength.toNat⟩] })) ∧
        ((∀ x ∈ s.tags.queue, x.isFor st tag.toNat = false) → 8 ≤ s.tags.queue.length →
          ∃ t, exec (.tagRead src tag strength) s = .next t ∧
            t = { s.setTags { taken with overrun := true, dropped := bump s.tags.dropped } with
              agent := t.agent, body := t.body, control := t.control })))

/-- (tier 2) R78, R79: an entry leaves the queue one Association Window after its last read, and a
register empties one window after its own, unless the station holds a Lift Record. R96, R97, R106: a
silence timer's expiry sets Node Lost in the Lift Record, ends the run and counts; the attitude timer's
makes the attitude Stale and keeps it; the capture timer's ends the capture with Zero Timeout and leaves
the pending zero. The model's own choices in it: log entry 3. -/
def Obligations.TagAndWeighTimers : Prop :=
  ∀ (st : Station) (tag : BitVec 40) (e : Nat) (s : State), live s →
    (∀ x, s.tags.queue.find? (fun y => y.station == st && decide (y.tag = tag.toNat)) = some x →
      ∃ t, exec (.tagEntryExpiry st tag) s = .next t ∧
        t.sys.now = max s.sys.now
          (s.sys.startedAt + (x.last + s.cfg.associationWindow) * 1000) ∧
        (∀ y, y ∈ t.tags.queue ↔ y ∈ s.tags.queue ∧ ¬ (y.station = st ∧ y.tag = tag.toNat)) ∧
        t = (s.setSys { s.sys with now := t.sys.now }).setTags { s.tags with
          queue := t.tags.queue }) ∧
    (∀ a, s.tags.assigned.get st = some a →
      ((s.lift st).record ≠ none → exec (.assignedTagEmptying st) s = .next s) ∧
      ((s.lift st).record = none → exec (.assignedTagEmptying st) s =
        .next ((s.reach (s.sys.startedAt + (a.last + s.cfg.associationWindow) * 1000)).setTags
          { s.tags with assigned := s.tags.assigned.set st none }))) ∧
    ((s.scale st).silence = .running e → exec (.silenceTimerExpiry st) s =
      .next (((s.reach e).setScale st { s.scale st with
        run := Run.empty, silence := .expired
        nodeLost := bump (s.scale st).nodeLost }).setLift st { s.lift st with
          record := (s.lift st).record.map fun r =>
            { r with flags := r.flags ||| LiftFlag.nodeLost.mask } })) ∧
    (s.weigh.attitudeTimer = .running e → exec .attitudeTimerExpiry s =
      .next ((s.reach e).setWeigh { s.weigh with fresh := false, attitudeTimer := .stopped })) ∧
    ((s.scale st).capture = .running e →
      ∃ t, exec (.zeroCaptureTimerExpiry st) s = .next t ∧
        t = { (s.reach e).setScale st { s.scale st with
          capture := .stopped, captureRun := Run.empty, lastResult := .timeout } with
            agent := t.agent, body := t.body, control := t.control })

/-- (tier 2) R88, R89, R91, R97: a frame from a node that is not the station's, or not the Attitude
Node, is ignored. A sample is counted and restarts a silence timer that runs or has expired; outside
Raise, Lower and a capture it does nothing more; in a capture it joins the capture run, and a Stable
window in range gives the pending zero, one out of range ends the capture with its mean noted, and an
unstable one leaves it running (R105, R106); a sample that does not qualify ends the run; one that does
joins or starts a run, and while no window is accepted a full window is accepted when it is Stable, and
is otherwise the fallback when none has a smaller spread (R91, R92). An Attitude frame is fresh for 500
ms. The model's own choices in it: log entries 9 and 17. -/
def Obligations.WeighFrames : Prop :=
  ∀ (src : Byte) (count : BitVec 24) (angle : BitVec 16) (seq : Byte) (pitch roll : BitVec 16)
    (s : State), live s →
    ((∀ st : Station, s.cfg.weighNode st ≠ src.toNat) → exec (.weighSample src count angle seq) s =
      .next (s.setWeigh { s.weigh with ignored := bump s.weigh.ignored })) ∧
    (s.cfg.attitudeNode ≠ src.toNat → exec (.attitude src pitch roll) s =
      .next (s.setWeigh { s.weigh with ignored := bump s.weigh.ignored })) ∧
    (s.cfg.attitudeNode = src.toNat → exec (.attitude src pitch roll) s =
      .next (s.setWeigh { s.weigh with
        pitch := pitch.toInt, roll := roll.toInt, fresh := true
        attitudeTimer := .running (s.sys.now + 500000), attitudes := bump s.weigh.attitudes })) ∧
    (∀ st : Station, stationOf s.cfg.weighNode src = some st →
      let w : WeighStation := { s.scale st with
        latestCount := count.toInt, latestAngle := angle.toNat, latestSeq := seq.toNat
        samples := bump (s.scale st).samples
        silence := if (s.scale st).silence = .stopped then .stopped
          else .running (s.sys.now + 250000) }
      let runs : Prop := (s.lift st).state = .raise ∨
        ((s.lift st).state = .lower ∧ (s.lift st).chargePending = false)
      ((s.lift st).state ≠ .raise →
        ((s.lift st).state = .lower → (s.lift st).chargePending = true) →
        ((s.lift st).state = .idle → (s.scale st).capture.isRunning = false) →
        exec (.weighSample src count angle seq) s = .next (s.setScale st w)) ∧
      ((s.lift st).state = .idle → (s.scale st).capture.isRunning = true →
        let n := s.cfg.windowLength st
        let r := ((s.scale st).captureRun.take n count.toInt seq.toNat).run
        let mean := roundDiv (windowSum r.counts) n
        let ended (x : WeighStation) : Prop :=
          ∃ t, exec (.weighSample src count angle seq) s = .next t ∧
            t = { s.setScale st { x with capture := .stopped, captureRun := Run.empty } with
              agent := t.agent, body := t.body, control := t.control }
        let inRange : Prop := s.cfg.commissionedZero st - s.cfg.zeroRange st ≤ mean ∧
          mean ≤ s.cfg.commissionedZero st + s.cfg.zeroRange st
        (r.counts.length ≠ n ∨ s.cfg.stabilityBand st < windowSpread r.counts →
          exec (.weighSample src count angle seq) s =
            .next (s.setScale st { w with captureRun := r })) ∧
        (r.counts.length = n → windowSpread r.counts ≤ s.cfg.stabilityBand st →
          (inRange → ended { w with pendingZero := some mean, lastResult := .captured }) ∧
          (¬ inRange → ended { w with lastMean := mean, lastResult := .outOfRange }))) ∧
      (runs → s.qualifies st angle.toNat = false →
        exec (.weighSample src count angle seq) s =
          .next (s.setScale st { w with run := Run.empty })) ∧
      (runs → s.qualifies st angle.toNat = true →
        let n := s.cfg.windowLength st
        let old := (s.scale st).run
        let joins : Bool := !old.counts.isEmpty && decide (seq.toNat = (old.seq + 1) % 256)
        let win : List Int := if joins then (count.toInt :: old.counts).take n else [count.toInt]
        let spread := windowSpread win
        let c := s.convert st (windowSum win)
        let x : WeighStation := { w with
          run := ⟨win, seq.toNat⟩, qualified := bump w.qualified
          runsStarted := if joins then w.runsStarted else bump w.runsStarted
          gaps := if old.counts.isEmpty || joins then w.gaps else bump w.gaps }
        let becomes (y : WeighStation) : Prop :=
          exec (.weighSample src count angle seq) s = .next (s.setScale st y)
        (win.length ≠ n ∨ (s.scale st).accepted ≠ none → becomes x) ∧
        (win.length = n → (s.scale st).accepted = none →
          (spread ≤ s.cfg.stabilityBand st → c.mass ≤ s.cfg.scaleCapacity st ∧
            becomes { x with
              accepted := some ⟨spread, c.mass, c.flags, c.pitch⟩
              stableWindows := bump w.stableWindows
              negativeGross := if c.low ∧ (s.lift st).state = .raise then bump w.negativeGross
                else w.negativeGross
              negativeTare := if c.low ∧ (s.lift st).state = .lower then bump w.negativeTare
                else w.negativeTare }) ∧
          (s.cfg.stabilityBand st < spread →
            ((s.scale st).fallback = none →
              becomes { x with fallback := some ⟨windowSum win, spread⟩ }) ∧
            (∀ o, (s.scale st).fallback = some o →
              (spread < o.spread → becomes { x with fallback := some ⟨windowSum win, spread⟩ }) ∧
              (o.spread ≤ spread → becomes x))))))

/-! ### Household Table and charging (07, 08) -/

/-- (tier 2) R110: in a table whose tags rise strictly over its first Record Count records, the search
finds exactly the position that holds the tag. R117: at the end of a check the table is Closed with
Check Result Passed when the Record Count is at most 12,288 and every record passes its five tests, and
else Invalid; the check is counted. The model's own choices in it: log entries 3 and 18. -/
def Obligations.TableSearchAndCheck : Prop :=
  (∀ (tag p : Nat) (s : State), s.table.recordCount ≤ 65535 →
     (∀ a b, a < b → b < s.table.recordCount →
       recTag (s.store.record a) < recTag (s.store.record b)) →
     (s.find tag = some p ↔
       p < s.table.recordCount ∧ recTag (s.store.record p) = tag)) ∧
  ∀ (e : Nat) (s : State), live s → s.table.checkTimer = .running e →
    ∃ t, exec .tableCheckEnd s = .next t ∧
      (t.table.state = .closed ↔ s.table.recordCount ≤ 12288 ∧
        ∀ p, p < s.table.recordCount →
          recTag (s.store.record p) ≠ 0 ∧
          (p ≠ 0 → recTag (s.store.record (p - 1)) < recTag (s.store.record p)) ∧
          recAccount (s.store.record p) ≠ 0 ∧ recTariff (s.store.record p) ≤ 7 ∧
          recStatus (s.store.record p) ≤ 2 ∧ recBin (s.store.record p) ≤ 7) ∧
      (t.table.state = .closed → t.table.checkResult = .passed ∧ t.table.badIndex = 0) ∧
      (t.table.state ≠ .closed → t.table.state = .invalid ∧ t.table.checkResult ≠ .passed ∧
        t.table.checkResult ≠ .none) ∧
      (12288 < s.table.recordCount →
        t.table.checkResult = .countTooLarge ∧ t.table.badIndex = 12288) ∧
      t = { (s.reach e).setTable { s.table with
        state := t.table.state, checkResult := t.table.checkResult, badIndex := t.table.badIndex
        checkTimer := .stopped
        counts := { s.table.counts with checks := bump s.table.counts.checks } } with
          agent := t.agent, body := t.body, control := t.control }

/-- (tier 2) R120 to R123: a record step copies one record up for an Insert and one down for a Delete,
or opens a period for one record, and moves the next index; every other byte stays. R120 to R123, R185:
a move or walk without a step left ends in one update: the staged record, the Record Count and the clear
journal. A move that a command started is answered Done, with the Table Result for Insert and Delete; a
resumed one is not. R111: the Waiting List is then served whole, against the content as the move has
left it: each lookup that a lift still awaits is answered, and the counter access with every request
behind it, so nothing waits any more. The model's own choices in it: log entries 3, 11 and 18. -/
def Obligations.TableMoves : Prop :=
  (∀ (i e : Nat) (s : State), live s → storesWell s → s.table.moveTimer = .running e →
     s.table.journal.next = i →
     let j := s.table.journal
     let stepped (next : Int) (lo len : Nat) (bytes : List Byte) : Prop :=
       ∃ t, exec .moveStep s = .next t ∧ t.table.journal = { j with next := next } ∧
         t.store.readBytes lo len = bytes ∧
         (∀ a, a < lo ∨ lo + len ≤ a → t.store.read a = s.store.read a) ∧
         t = { (s.reach e) with
           store := t.store
           table := { s.table with journal := t.table.journal, moveTimer := t.table.moveTimer } }
     (j.op = .insert → j.pos ≤ i →
       stepped (j.next - 1) (32 * (i + 1)) 32 (s.store.record i)) ∧
     (j.op = .delete → i + 1 < s.table.recordCount →
       stepped (j.next + 1) (32 * i) 32 (s.store.record (i + 1))) ∧
     (j.op = .openPeriod → i < s.table.recordCount →
       stepped (j.next + 1) (32 * i + 12) 20
         ({ recCounters (s.store.record i) with
           allowance := s.cfg.periodAllowance (recTariff (s.store.record i))
           mass := 0, lifts := 0, charge := 0, refused := 0, overrides := 0 } : Counters).bytes)) ∧
  ∀ (e : Nat) (s : State), live s → s.table.moveTimer = .running e → s.table.stepsLeft = false →
    let j := s.table.journal
    let listServed (c : Instr) (m : Mem) (count : Nat) : Prop :=
      s.table.state = .closed → count ≤ 12288 → storesWell s →
      (s.agent.hold = .none ∧ s.agent.queue = [] ∨
        s.agent.hold = .table ∧ ∃ r, s.agent.queue = [r]) →
      let u := (s.setStore m).setTable { s.table with recordCount := count }
      ∃ t, exec c s = .next t ∧ t.table.waiting = [] ∧ t.table.busy = false ∧
        t.table.recordCount = count ∧ t.agent.queue = [] ∧ t.agent.hold = .none ∧
        (s.table.counts.lookups ≤ 0xFFFF → t.table.counts.lookups =
          min (s.table.counts.lookups + s.table.waiting.countP fun w => w != .counter) 0xFFFF) ∧
        (∀ (st : Station) (tag : Nat) (r : LiftRecord), .lookup st tag ∈ s.table.waiting →
          (s.lift st).record = some r → r.lookupPending = true → r.requested = false →
          r.tag = some tag → s.requests (.station st) = 0 →
          ∃ r', (t.lift st).record = some r' ∧ r'.lookupPending = false ∧
            (∀ p, u.find tag = some p → r'.snapshot = some ⟨recAccount (m.record p),
              recTariff (m.record p), .ofCode (recStatus (m.record p)), recBin (m.record p)⟩) ∧
            (u.find tag = none → r'.snapshot = r.snapshot) ∧
            ((s.lift st).state = .hold → (s.lift st).wait = .lookup →
              (t.lift st).state = .dump ∨ (t.lift st).wait ≠ .lookup)) ∧
        (∀ (g : Figures) (q : BillReq) (l : List BillReq), .counter ∈ s.table.waiting →
          s.billing.waiting = some g → s.billing.list = q :: l → q.kind.access.isSome = true →
          t.billing.waiting = none ∧ t.billing.list = [] ∧
          t.queue.count = s.queue.count + s.billing.list.length)
    let ended (c : Instr) (m : Mem) (count : Nat) (f : TableCounts → TableCounts)
        (data : List Byte) (result : TableResult) : Prop :=
      let tb : Table := { s.table with
        journal := Journal.clear, moveTimer := .stopped, recordCount := count
        counts := f s.table.counts }
      (s.table.waiting = [] → s.agent.hold = .none → s.agent.queue = [] →
        exec c s = .next (((s.reach e).setStore m).setTable tb)) ∧
      listServed c m count ∧
      (∀ r, s.table.waiting = [] → s.agent.hold = .table → s.agent.queue = [r] → controlOpen s →
        exec c s = .next ((((s.reach e).setStore m).setTable
          { tb with lastResult := if c = .openPeriodWalkEnd then s.table.lastResult else result }
          |>.setAgent { s.agent with
            hold := .none, queue := [], served := bump s.agent.served
            statusCounts := s.agent.statusCounts.set 0 (bump s.agent.statusCounts[0]) }).offered
          (s.bodyFrame .managementResponse r.src r.tag (kindByte r.body :: 0 :: data))))
    (j.op = .insert → ended .insertMoveEnd (s.store.putRecord j.pos j.staged)
      (s.table.recordCount + 1) (fun c => { c with inserts := bump c.inserts }) [0] .done) ∧
    (j.op = .delete → ended .deleteMoveEnd s.store (s.table.recordCount - 1)
      (fun c => { c with deletes := bump c.deletes }) [0] .done) ∧
    (j.op = .openPeriod → ended .openPeriodWalkEnd s.store s.table.recordCount
      (fun c => { c with periods := bump c.periods }) [] .none)

/-- (tier 2) The Charge Record of a station's request that is served (R129, R136, R137, R140). It stands
at the tail with the next Sequence Number, the time, the station, the tag and the account; its mass
figures are those of a lift that reached Lower end, of a Missing gross, of an Incomplete or of an
Aborted record (R101 to R103), and the billed mass is at most a tenth of the Capacity; its flags are the
lift's, but for Hold Timeout, and the figures' own. Count and Next Sequence rise, the reservation and
the marker go, and a tipped record's billed mass joins the payload (R171). The model's own choices in
it: log entries 10 and 22. By entry 22 the record's Override flag follows the admission as the request
is made: a lift that an Override admitted, and that a Return or its hold timer then refused, is committed
without it, though its Lift Record carries Override. -/
def Obligations.RecordFormed : Prop :=
  ∀ (st : Station) (k : BillKind) (s : State), storesWell s → s.table.moving = false →
    s.table.recordCount ≤ 12288 → s.queue.nextSeq < 2 ^ 32 → s.clock.seconds < 2 ^ 32 →
    let t := serveHead ⟨.station st, k⟩ s
    let slot := slotBase ((s.queue.head + s.queue.count) % 256)
    let item (o n : Nat) : Nat := ofLe (t.store.readBytes (slot + o) n)
    let flag (x : LiftFlag) : Bool := (BitVec.ofNat 32 (item 18 2)).getLsbD x.bit
    let figures (gross tare net billed : Nat) : Prop :=
      item 20 2 = gross ∧ item 22 2 = tare ∧ item 24 2 = net ∧ item 26 2 = billed
    let limit := s.cfg.scaleCapacity st / 10
    let weighed (gross tare : Nat) : Prop :=
      figures gross tare (gross - tare) (min ((gross - tare + 5) / 10) limit)
    let estimated (bin tare : Nat) : Prop := figures 0 tare 0 (min (s.cfg.fallbackMass bin) limit)
    let negative (flags : BitVec 32) (gross tare : Nat) : Prop := flag .negativeNet =
      (flags.getLsbD LiftFlag.negativeNet.bit || decide (gross < tare))
    let incomplete (flags : BitVec 32) (gross : Option Nat) (bin : Nat) : Prop :=
      (∀ g, gross = some g → weighed g (s.cfg.defaultTare bin) ∧ flag .defaultTare = true ∧
        negative flags g (s.cfg.defaultTare bin)) ∧
      (gross = none → estimated bin 0 ∧ flag .estimated = true)
    let carried (flags : BitVec 32) (tag account : Nat) (forced : Bool) : Prop :=
      item 12 5 = tag % 2 ^ 40 ∧ item 8 3 = account % 2 ^ 24 ∧ flag .override = forced ∧
      ∀ x ∈ [LiftFlag.unstableGross, .missingGross, .overCapacity, .tiltOutOfRange, .tiltUnknown,
        .nodeLost, .ambiguousTag, .lateTag], flag x = flags.getLsbD x.bit
    let lifted (r : LiftRecord) : Prop := carried r.flags (r.tag.getD 0)
      ((r.snapshot.map Snapshot.account).getD 0) (decide (r.admission = .overridden))
    (k ≠ .unload → item 0 4 = s.queue.nextSeq ∧
      item 4 4 = (if s.clock.valid then s.clock.seconds else 0) ∧ item 11 1 = st.num ∧
      item 26 2 ≤ limit ∧ flag .clockStepped = (!s.clock.valid || s.clock.stepped) ∧
      t.clock.stepped = (s.clock.stepped && !s.clock.valid) ∧
      t.queue = { s.queue.setHeld (.station st) false with
        count := s.queue.count + 1, commits := bump s.queue.commits
        nextSeq := if s.queue.nextSeq = 0xFFFFFFFF then 1 else s.queue.nextSeq + 1 } ∧
      t.marker st = Marker.clear ∧ (t.lift st).record = none ∧
      t.billing.list = s.billing.list.tail ∧ t.billing.waiting = none ∧
      t.payload.mass = (if item 17 1 = 4 ∨ item 17 1 = 5 then s.payload.mass
        else min (s.payload.mass + item 26 2) 0xFFFFFFFF) ∧
      ∀ a, ¬ s.commitBytes k.tag a → t.store.read a = s.store.read a) ∧
    (∀ r, k = .charge r → (∀ g, r.gross = some g → g < 65536) → r.tare.getD 0 < 65536 →
      lifted r ∧ flag .defaultTare = r.flags.getLsbD LiftFlag.defaultTare.bit ∧
      (∀ g, r.gross = some g → weighed g (r.tare.getD 0) ∧ flag .estimated = false ∧
        negative r.flags g (r.tare.getD 0)) ∧
      (r.gross = none → estimated ((r.snapshot.map Snapshot.bin).getD 0) (r.tare.getD 0) ∧
        flag .estimated = true)) ∧
    (∀ r, k = .fault r true → (∀ g, r.gross = some g → g < 65536) →
      lifted r ∧ incomplete r.flags r.gross ((r.snapshot.map Snapshot.bin).getD 0)) ∧
    (∀ r, k = .fault r false → r.gross.getD 0 < 65536 →
      lifted r ∧ figures (r.gross.getD 0) 0 0 0) ∧
    (∀ m, k = .start m true → (∀ g, m.gross = some g → g < 65536) →
      carried 0 m.tag m.account false ∧ incomplete 0 m.gross m.bin) ∧
    (∀ m, k = .start m false → m.gross.getD 0 < 65536 →
      carried 0 m.tag m.account false ∧ figures (m.gross.getD 0) 0 0 0)

/-- (tier 2) The outcome, the price and the household's counters of a station's request that is served
(R128, R130 to R135). A Found answer gives Repeat by the repeat test, waives the fee of a repeat unless
the household carries No Repeat Waiver, else takes an allowance, prices the billed mass over the two
bands from the Period Mass, and keeps the charge within the class's cap; the counters take the lift. A
record that is gone is priced from 0 and nothing is written back. Exempt, Refused, Unidentified and
Aborted lifts cost 0, each with its own counters. The model's own choices in it: log entry 10. -/
def Obligations.LiftPriced : Prop :=
  ∀ (st : Station) (k : BillKind) (s : State), storesWell s → s.table.moving = false →
    s.table.recordCount ≤ 12288 → s.clock.seconds < 2 ^ 32 →
    let t := serveHead ⟨.station st, k⟩ s
    let item (o n : Nat) : Nat :=
      ofLe (t.store.readBytes (slotBase ((s.queue.head + s.queue.count) % 256) + o) n)
    let flag (x : LiftFlag) : Bool := (BitVec.ofNat 32 (item 18 2)).getLsbD x.bit
    let mass := item 26 2
    let charged (tariff fee period : Nat) : Prop :=
      let cap := s.cfg.perLiftCap tariff
      let below := if period < s.cfg.threshold tariff then
        min mass (s.cfg.threshold tariff - period) else 0
      let sum := fee + (below * s.cfg.rate1 tariff + 5) / 10 +
        ((mass - below) * s.cfg.rate2 tariff + 5) / 10
      item 28 4 = (if cap ≠ 0 ∧ cap < sum then cap else sum) ∧
      flag .capped = decide (cap ≠ 0 ∧ cap < sum) ∧ (cap ≠ 0 → item 28 4 ≤ cap)
    let free : Prop := item 28 4 = 0 ∧ flag .allowanceUsed = false ∧ flag .capped = false
    let untouched : Prop := ∀ a, a < 0x60000 → t.store.read a = s.store.read a
    let found (tag account p : Nat) : Prop := s.table.state = .closed ∧ s.find tag = some p ∧
      recAccount (s.store.record p) = account
    let counters (p : Nat) : Counters := recCounters (s.store.record p)
    let lifted (c : Counters) (forced : Bool) : Counters := { c with
      mass := min (c.mass + mass) 0xFFFFFFFF, lifts := min (c.lifts + 1) 0xFFFF
      charge := min (c.charge + item 28 4) 0xFFFFFFFF
      lastTime := if s.clock.valid then s.clock.seconds else c.lastTime, lastMass := mass
      overrides := if forced then min (c.overrides + 1) 255 else c.overrides }
    let priced (tag account tariff : Nat) (forced : Bool) (first again : Nat) : Prop :=
      (∀ p, found tag account p →
        let c := counters p
        let repeats : Bool := decide (s.cfg.repeatInterval ≠ 0) && s.clock.valid &&
          decide (c.lastTime ≠ 0) && decide (c.lastTime ≤ s.clock.seconds) &&
          decide (s.clock.seconds - c.lastTime ≤ s.cfg.repeatInterval)
        let waived : Bool := repeats && !recNoWaiver (s.store.record p)
        let allowed : Bool := !waived && decide (0 < c.allowance)
        item 17 1 = (if repeats then again else first) ∧
        charged tariff (if waived || allowed then 0 else s.cfg.liftFee tariff) c.mass ∧
        flag .allowanceUsed = allowed ∧ flag .recordGone = false ∧
        recCounters (t.store.record p) = { lifted c forced with
          allowance := if allowed then c.allowance - 1 else c.allowance }) ∧
      ((∀ p, ¬ found tag account p) → item 17 1 = first ∧ untouched ∧
        charged tariff (s.cfg.liftFee tariff) 0 ∧ flag .allowanceUsed = false ∧
        flag .recordGone = true)
    let unpriced (tag account outcome : Nat) (after : Counters → Counters) : Prop :=
      item 17 1 = outcome ∧ free ∧
      (∀ p, found tag account p → flag .recordGone = false ∧
        recCounters (t.store.record p) = after (counters p)) ∧
      ((∀ p, ¬ found tag account p) → untouched ∧ flag .recordGone = true)
    let unasked (outcome : Nat) : Prop := item 17 1 = outcome ∧ free ∧ untouched ∧
      flag .recordGone = false ∧ t.table.counts = s.table.counts
    (∀ r, k = .charge r →
      let forced := decide (r.admission = .overridden)
      (r.admission = .refused → (r.snapshot = none → unasked 4) ∧
        ∀ h, r.snapshot = some h → unpriced (r.tag.getD 0) h.account 4 fun c =>
          { c with refused := min (c.refused + 1) 255 }) ∧
      (r.admission ≠ .refused → (r.snapshot = none → unasked 3) ∧
        ∀ h, r.snapshot = some h →
          (h.status = .exempt →
            unpriced (r.tag.getD 0) h.account 2 fun c => lifted c forced) ∧
          (h.status ≠ .exempt → priced (r.tag.getD 0) h.account h.tariff forced 0 1))) ∧
    (∀ r, k = .fault r true →
      let forced := decide (r.admission = .overridden)
      (r.snapshot = none → unasked 6) ∧
      ∀ h, r.snapshot = some h →
        (h.status = .exempt → unpriced (r.tag.getD 0) h.account 6 fun c => lifted c forced) ∧
        (h.status ≠ .exempt → priced (r.tag.getD 0) h.account h.tariff forced 6 6)) ∧
    (∀ m, k = .start m true → (m.account = 0 → unasked 6) ∧
      (m.account ≠ 0 → priced m.tag m.account m.tariff false 6 6)) ∧
    ((∃ r, k = .fault r false) ∨ (∃ m, k = .start m false) → unasked 5)

/-! ### Outputs, Clock and notices (09, 11, 12) -/

/-- (tier 2) R159, R161, R178: a period end puts the pending duty in force and works out the next; a
half-period expiry inverts the output; a second advances the count, from its top to 1. R196: at the
spacing timer's expiry a Notice frame with the whole Notice Set goes to the Terminal when one is needed:
Pulsed kinds are cleared, Latched ones stay, and the timer starts again; otherwise the timer stops. The
model's own choices in it: log entry 3. -/
def Obligations.PeriodicOutputs : Prop :=
  ∀ (e : Nat) (s : State), live s →
    (∀ c : Fin 12, (s.channels[c]).periodEnd = .running e →
      ∃ t, exec (.periodEnd c) s = .next t ∧ (t.channels[c]).applied = (s.channels[c]).pending ∧
        (t.channels[c]).target = (s.channels[c]).target ∧
        (t.channels[c]).pending =
          (if (s.channels[c]).pending < (s.channels[c]).target ∧ s.cfg.rampStep c ≠ 0 then
            min ((s.channels[c]).pending + s.cfg.rampStep c) (s.channels[c]).target
          else (s.channels[c]).target) ∧
        (t.channels[c]).periodEnd =
          .running (e + s.cfg.resolution c * s.cfg.channelDivisor c) ∧
        (∀ d : Fin 12, d ≠ c → t.channels[d] = s.channels[d]) ∧
        t = (s.reach e).setChannels t.channels) ∧
    (s.toggles.beacon.timer = .running e → exec (.halfPeriodExpiry .beacon) s =
      .next ((s.reach e).setToggles { s.toggles with beacon := { s.toggles.beacon with
        level := !s.toggles.beacon.level
        timer := .running (e + s.cfg.halfPeriod .beacon) } })) ∧
    (s.toggles.horn.timer = .running e → exec (.halfPeriodExpiry .horn) s =
      .next ((s.reach e).setToggles { s.toggles with horn := { s.toggles.horn with
        level := !s.toggles.horn.level
        timer := .running (e + s.cfg.halfPeriod .horn) } })) ∧
    (s.clock.tick = .running e → exec .secondAdvance s =
      .next ((s.reach e).setClock { s.clock with
        seconds := if s.clock.seconds = 4294967295 then 1 else s.clock.seconds + 1
        tick := .running (e + 1000000) })) ∧
    (s.agent.spacing = .running e → s.agent.sendNeeded = false → exec .spacingTimerExpiry s =
      .next ((s.reach e).setAgent { s.agent with spacing := .stopped })) ∧
    (s.agent.spacing = .running e → s.agent.sendNeeded = true → controlOpen s → exec .spacingTimerExpiry s =
      .next (((s.reach e).setAgent { s.agent with
        notices := s.agent.notices &&& ~~~ s.cfg.noticeModes, sendNeeded := false
        spacing := .running (max s.sys.now e + 100000)
        noticesSent := bump s.agent.noticesSent }).offered
          (s.bodyFrame .notice (BitVec.ofNat 8 (s.cfg.managerNode .terminal)) 0
            (leBytes 2 s.agent.notices.toNat))))

/-- (tier 2) R151: the Trim step. Every masked requester loses its grant. Then the packer is lowered by
the lesser of the excess and what it holds above its minimum, whatever its place; and while an excess
remains, whole grants are revoked from the bottom of the priority list upward, and no further than the
excess asks. No request changes; each grant that falls to 0 is a Revoke, and a packer lowered but not to
0 a Packer Yield (R150). -/
def Obligations.TrimStep : Prop :=
  ∀ (cap : Nat) (masked : Requester → Bool) (prio : List Requester) (a : Arbiter),
    prio.Perm requesters →
    let t := a.trim cap masked prio
    let kept (r : Requester) : Nat := if masked r then 0 else a.grant.get r
    let excess := (prio.map kept).sum - cap
    let lowered (r : Requester) : Nat :=
      if r = .packer then kept r - min excess (kept r - a.packerMin) else kept r
    let lost := prio.countP fun r => decide (0 < a.grant.get r) && decide (t.grant.get r = 0)
    t.used ≤ cap ∧
    (∃ high low, prio = high ++ low ∧ (∀ r ∈ high, t.grant.get r = lowered r) ∧
      (∀ r ∈ low, t.grant.get r = 0) ∧
      ∀ r rest, low = r :: rest → cap < ((high ++ [r]).map lowered).sum) ∧
    t = { a with
      grant := t.grant
      revokes := if lost = 0 then a.revokes else min (a.revokes + lost) 0xFFFF
      yields := if 0 < lowered .packer ∧ lowered .packer < kept .packer then bump a.yields
        else a.yields }

/-- (tier 2) R152: the Grant step's walk, over any priority list that holds each requester once. It ends
at the first waiting request of an unmasked requester that neither fits nor finds a packer below it that
can yield enough; that stop is counted. Above the end each such request is granted its demand, the
packer's as much of its demand as is free and at least its minimum; from the end down none is granted. A
packer in service pays what the requests granted above it ask beyond the free capacity, and no other
requester in service changes its grant. -/
def Obligations.GrantWalk : Prop :=
  ∀ (cap : Nat) (masked : Requester → Bool) (prio : List Requester) (a : Arbiter),
    prio.Perm requesters → a.used ≤ cap →
    let t := a.walk cap masked prio
    let asks (r : Requester) : Bool := !masked r && a.waiting r
    let demand (r : Requester) : Nat := ((a.req.get r).map FlowReq.demand).getD 0
    t.used ≤ cap ∧
    ∃ high low, prio = high ++ low ∧
      (let above := high.takeWhile fun r => r != .packer
       let asked := ((above.filter asks).map demand).sum
       (∀ r ∈ high, r ≠ .packer → asks r = true → t.grant.get r = demand r) ∧
       (∀ r, r ≠ .packer → r ∈ low ∨ asks r = false → t.grant.get r = a.grant.get r) ∧
       (.packer ∈ high → asks .packer = true → t.grant.packer = min (demand .packer) (a.free cap - asked) ∧
         a.packerMin + asked ≤ a.free cap) ∧
       (.packer ∈ low ∨ asks .packer = false →
         t.grant.packer = a.grant.packer - (asked - a.free cap) ∧
         (a.packerMin ≤ a.grant.packer → a.packerMin ≤ t.grant.packer))) ∧
      (∀ r rest, low = r :: rest → asks r = true ∧
        ∃ q, a.req.get r = some q ∧ t.free cap < q.least r ∧
          (.packer ∈ rest → a.packerMin < t.grant.packer →
            t.free cap + (t.grant.packer - a.packerMin) < q.demand)) ∧
      t = { a with
        grant := t.grant, grants := t.grants, revokes := t.revokes, yields := t.yields
        walkStops := if low = [] then a.walkStops else bump a.walkStops }

/-- (tier 2) R148: the priority list holds the Tailgate first and then the packer and the stations, in
Rotating mode at the Packer Place and in Fixed mode at the places of the Fixed Order, the stations in
group order; the group order that a start or a Commit sets (groupStart) follows from the mode. R154: a
demand changed in place keeps a grant that, with the free capacity, covers it, and gives the packer no
less than its new minimum; otherwise the grant is 0. A requester without a grant keeps waiting, with the
new demand. No other grant changes, and a station or the tailgate whose demand does not rise keeps its
grant through the whole arbitration (R146, R150). -/
def Obligations.PriorityAndDemands : Prop :=
  (∀ s : State, s.arbiter.group.Perm stations →
    let places := (List.range 4).map s.cfg.fixedOrder
    let stationsBefore (i : Nat) : Nat := (places.take i).countP fun x => x != 3
    (s.cfg.rotating = true →
      s.priority = .tailgate :: (if s.cfg.packerAbove
        then .packer :: s.arbiter.group.map .station
        else s.arbiter.group.map .station ++ [.packer]) ∧
      s.cfg.groupStart = [.sideArm, .rearLeft, .rearRight]) ∧
    (s.cfg.rotating = false → places.Perm [0, 1, 2, 3] →
      s.priority.Perm requesters ∧ s.priority[0]? = some .tailgate ∧
      s.cfg.groupStart.Perm stations ∧
      ∀ i, i < 4 → (s.cfg.fixedOrder i = 3 → s.priority[i + 1]? = some .packer) ∧
        (s.cfg.fixedOrder i ≠ 3 →
          s.priority[i + 1]? = (s.arbiter.group[stationsBefore i]?).map .station ∧
          s.cfg.groupStart[stationsBefore i]? = Station.ofNum (s.cfg.fixedOrder i)))) ∧
  ∀ (cap : Nat) (r : Requester) (q : FlowReq) (a : Arbiter), a.used ≤ cap →
    let old := a.grant.get r
    let room := old + (cap - a.used)
    let t := a.settle cap r q
    t.req = a.req.set r (some q) ∧ t.used ≤ cap ∧
    (∀ x, x ≠ r → t.grant.get x = a.grant.get x) ∧
    t.grant.get r = (if old = 0 then 0
      else if r = .packer then if q.minimum ≤ room then min q.demand room else 0
      else if q.demand ≤ room then q.demand else 0) ∧
    ∀ (masked : Requester → Bool) (prio : List Requester), prio.Perm requesters →
      masked r = false → r ≠ .packer → 0 < q.demand → q.demand ≤ old →
      (t.run cap masked prio).grant.get r = q.demand

/-- (tier 1) R153: the Restore step. When no request of an unmasked requester waits, the packer is in
service below its demand and capacity is free, its grant rises by the lesser of the free capacity and
what it lacks; otherwise no grant changes. -/
def Obligations.RestoreStep : Prop :=
  ∀ (cap : Nat) (masked : Requester → Bool) (a : Arbiter),
    let waits : Prop := ∃ r, masked r = false ∧ (a.req.get r).isSome = true ∧ a.grant.get r = 0
    (∀ q, a.req.packer = some q → ¬ waits → 0 < a.grant.packer → a.grant.packer < q.demand →
      0 < a.free cap →
      (a.restore cap masked).grant = { a.grant with
        packer := a.grant.packer + min (a.free cap) (q.demand - a.grant.packer) }) ∧
    (waits ∨ a.req.packer = none ∨ a.grant.packer = 0 ∨ a.free cap = 0 ∨
      (∃ q, a.req.packer = some q ∧ q.demand ≤ a.grant.packer) →
      (a.restore cap masked).grant = a.grant) ∧
    (a.restore cap masked).req = a.req

/-! ### The Management Agent (12) -/

/-- (tier 2) R185, R186: a Management Request from a manager's node has the effect of the row that it
asks, with the operands that its data bytes hold in the layout of 13: each of the five access kinds,
each command code with its argument, a kind or a code that is not defined, and a kind with too few
bytes, which is answered Bad Value. Bytes beyond a format's last field are ignored. One from another
node is counted and ignored; one that finds four waiting is answered Busy and changes nothing; one that
finds the head held joins the tail. The model's own choices in it: log entries 5 and 11. -/
def Obligations.RequestsTaken : Prop :=
  ∀ (m : Manager) (src : Byte) (tag : BitVec 4) (data : List Byte) (s : State), live s →
    2 ≤ data.length → data.length ≤ 8 →
    (s.cfg.managerNode .terminal ≠ src.toNat → s.cfg.managerNode .service ≠ src.toNat →
      exec (.managementRequest src tag data) s = .next (s.setAgent { s.agent with
        foreignRequests := bump s.agent.foreignRequests })) ∧
    (s.cfg.managerNode .terminal ≠ s.cfg.managerNode .service → s.cfg.managerNode m = src.toNat →
      (4 ≤ s.agent.queue.length → s.agent.hold ≠ .none → controlOpen s →
        exec (.managementRequest src tag data) s = .next ((s.setAgent { s.agent with
          statusCounts := s.agent.statusCounts.set 2 (bump s.agent.statusCounts[2]) }).offered
            (s.answerTo m tag (parseRequest data) (plain .busy)))) ∧
      (s.agent.queue.length < 4 → s.agent.hold ≠ .none →
        exec (.managementRequest src tag data) s = .next (s.setAgent { s.agent with
          queue := s.agent.queue ++ [⟨m, src, tag, parseRequest data⟩] })) ∧
      let same (c : Instr) : Prop := exec (.managementRequest src tag data) s = exec c s
      (∀ (a b n : Byte) (l : List Byte),
        (data = 1 :: a :: b :: n :: l → same (.read m tag (b ++ a) n)) ∧
        (data = 2 :: a :: b :: n :: l → same (.write m tag (b ++ a) n l)) ∧
        (data = 3 :: a :: b :: l → same (.setPointer m tag (b ++ a))) ∧
        (data = 4 :: n :: l → same (.readNext m tag n)) ∧
        (data = 5 :: n :: l → same (.writeNext m tag n l)) ∧
        (a = 0 ∨ 6 < a.toNat → data = a :: b :: l → same (.unknownRequest m tag a b)) ∧
        (((a = 1 ∨ a = 2) ∧ data.length < 4) ∨ (a = 3 ∧ data.length < 3) ∨
            (a = 6 ∧ data.length < 6) → data = a :: l → serving s →
          exec (.managementRequest src tag data) s =
            .next (s.answered m tag (.short a) ⟨.badValue, []⟩))) ∧
      (data = [6, 1, 0, 0, 0, 0] → same (.tableOpen m tag)) ∧
      (data = [6, 2, 0, 0, 0, 0] → same (.tableClose m tag)) ∧
      (data = [6, 3, 0, 0, 0, 0] → same (.insert m tag)) ∧
      (data = [6, 4, 0, 0, 0, 0] → same (.update m tag)) ∧
      (data = [6, 5, 0, 0, 0, 0] → same (.delete m tag)) ∧
      (data = [6, 6, 0, 0, 0, 0] → same (.openPeriod m tag)) ∧
      (data = [6, 9, 0, 0, 0, 0] → same (.clearTotals m tag)) ∧
      (data = [6, 16, 0, 0, 0, 0] → same (.configurationOpen m tag)) ∧
      (data = [6, 17, 0, 0, 0, 0] → same (.commit m tag)) ∧
      (data = [6, 18, 0, 0, 0, 0] → same (.maintenanceEnter m tag)) ∧
      (data = [6, 19, 0, 0, 0, 0] → same (.maintenanceLeave m tag)) ∧
      (data = [6, 20, 0, 0, 0, 0] → same (.bodyReset m tag)) ∧
      (∀ a b c d : Byte, let arg : BitVec 32 := d ++ c ++ b ++ a
        (data = [6, 8, a, b, c, d] → same (.latch m tag arg)) ∧
        (data = [6, 10, a, b, c, d] → same (.clearFlags m tag arg)) ∧
        (data = [6, 11, a, b, c, d] → same (.acknowledgeNotices m tag arg)) ∧
        (data = [6, 12, a, b, c, d] → same (.acknowledgeChanges m tag arg)) ∧
        (data = [6, 15, a, b, c, d] → same (.setClock m tag arg)) ∧
        ((c = 0 ∧ d = 0) ∨ serving s →
          data = [6, 7, a, b, c, d] → same (.release m tag (b ++ a))) ∧
        ((b = 0 ∧ c = 0 ∧ d = 0) ∨ serving s →
          (data = [6, 13, a, b, c, d] → same (.zeroCapture m tag a)) ∧
          (data = [6, 14, a, b, c, d] → same (.setLowest m tag a)))) ∧
      (∀ code : Byte, code = 0 ∨ 20 < code.toNat → data = [6, code, 0, 0, 0, 0] →
        same (.unknownRequest m tag 6 code)))

/-- (tier 2) R186, R187: a Read of 1 to 4 bytes below the Node Mirror, the Snapshot Port apart, is
answered with the bytes as they stand and changes nothing; Busy for household bytes while a move runs;
Bad Address where a byte lies beyond the mapped ranges, or outside the one Node Mirror slot that the
others lie in; Bad Value for another length. A Bank Area byte is the Retained Store's. The model's own
choices in it: log entries 5 and 11. -/
def Obligations.ReadAnswers : Prop :=
  ∀ (m : Manager) (tag : BitVec 4) (addr : BitVec 16) (len : Byte) (s : State), serving s →
    let a := addr.toNat
    let n := len.toNat
    let answers (x : Answer) : Prop :=
      exec (.read m tag addr len) s = .next (s.answered m tag (.read addr len) x)
    let household (x : Nat) : Prop :=
      0x1000 ≤ x ∧ x < 0x9000 ∧ s.agent.bankBase * 0x1000 + (x - 0x1000) < 0x60000
    (n = 0 ∨ 4 < n → answers ⟨.badValue, []⟩) ∧
    (1 ≤ n → n ≤ 4 → 0xE000 < a + n ∨ (a < 0xA000 ∧ 0xA000 < a + n) ∨
        (0xA000 ≤ a ∧ (a - 0xA000) / 0x400 ≠ (a + n - 1 - 0xA000) / 0x400) →
      answers ⟨.badAddress, []⟩) ∧
    (1 ≤ n → n ≤ 4 → a + n ≤ 0xA000 → a + n ≤ 4 ∨ 8 ≤ a →
      (s.table.moving = true → (∃ x, a ≤ x ∧ x < a + n ∧ household x) →
        answers ⟨.busy, []⟩) ∧
      (s.table.moving = false ∨ (∀ x, a ≤ x → x < a + n → ¬ household x) →
        answers ⟨.done, (List.range n).map fun k => s.windowByte (a + k)⟩)) ∧
    (∀ x, 0x1000 ≤ x → x < 0x9000 → s.agent.bankBase * 0x1000 + (x - 0x1000) < 0x63100 →
      s.windowByte x = s.store.read (s.agent.bankBase * 0x1000 + (x - 0x1000)))

/-- (tier 2) R188: a Write of 1 to 4 bytes to one region of the Bank Area stores exactly its bytes in
the region's state (Open; Maintenance with an empty Charge Queue; Configuring; Maintenance), and is
answered Locked in any other and Bad Address beyond the regions, changing nothing. A Write to Record
Staging is taken in any state. One to any other address of the Control Area, the settable items apart,
and to the Queue Area, is answered Locked; one to the Snapshot Port, and one that enters or leaves the
Node Mirror, crosses its slots, or passes the mapped ranges, Bad Address; none of them changes a thing.
The model's own choices in it: log entries 5, 11 and 19. -/
def Obligations.WriteRegions : Prop :=
  (∀ (m : Manager) (tag : BitVec 4) (addr : BitVec 16) (bytes : List Byte) (s : State), serving s →
    1 ≤ bytes.length → bytes.length ≤ 4 →
    let a := addr.toNat
    let n := bytes.length
    let body : ReqBody := .write addr (BitVec.ofNat 8 n) bytes
    let answers (u : State) (x : Status) : Prop :=
      exec (.write m tag addr (BitVec.ofNat 8 n) bytes) s = .next (u.answered m tag body ⟨x, []⟩)
    let within (lo hi : Nat) : Prop := lo ≤ a ∧ a + n ≤ hi
    (within 0x10 0x30 → s.table.staging.length = 32 → answers (s.setTable { s.table with
      staging := s.table.staging.take (a - 0x10) ++ bytes ++ s.table.staging.drop (a - 0x10 + n) })
        .done) ∧
    (within 0 2 ∨ within 0xA 0xC ∨ within 0x30 0x1000 ∨ within 0x9000 0xA000 → answers s .locked) ∧
    (within 4 8 → answers s .badAddress) ∧
    (0xE000 < a + n ∨ (a < 0xA000 ∧ 0xA000 < a + n) ∨
        (0xA000 ≤ a ∧ (a - 0xA000) / 0x400 ≠ (a + n - 1 - 0xA000) / 0x400) →
      answers s .badAddress)) ∧
  ∀ (m : Manager) (tag : BitVec 4) (addr : BitVec 16) (bytes : List Byte) (s : State), serving s →
    storesWell s → bytes.length ≤ 4 → bytes ≠ [] → 0x1000 ≤ addr.toNat →
    addr.toNat + bytes.length ≤ 0x9000 →
    let base := s.agent.bankBase * 0x1000 + (addr.toNat - 0x1000)
    let body : ReqBody := .write addr (BitVec.ofNat 8 bytes.length) bytes
    let c : Instr := .write m tag addr (BitVec.ofNat 8 bytes.length) bytes
    let stores : Prop := ∃ t, exec c s = .next t ∧
      (∀ k, k < bytes.length → t.store.read (base + k) = bytes.getD k 0) ∧
      (∀ x, x < base ∨ base + bytes.length ≤ x → t.store.read x = s.store.read x) ∧
      t = (s.setStore t.store).answered m tag body ⟨.done, []⟩
    let locked : Prop := exec c s = .next (s.answered m tag body ⟨.locked, []⟩)
    let within (lo hi : Nat) : Prop := lo ≤ base ∧ base + bytes.length ≤ hi
    let emptyQueue : Prop := s.mode.maintenance = true ∧ s.queue.count = 0 ∧ s.queue.reserved = 0
    (within 0 0x60000 → (s.table.state = .opened → stores) ∧ (s.table.state ≠ .opened → locked)) ∧
    (within 0x60000 0x62000 → (emptyQueue → stores) ∧ (¬ emptyQueue → locked)) ∧
    (within 0x62000 0x63000 → (s.mode.configuring = true → stores) ∧
      (s.mode.configuring = false → locked)) ∧
    (within 0x63000 0x63100 → (s.mode.maintenance = true → stores) ∧
      (s.mode.maintenance = false → locked)) ∧
    (0x63100 ≤ base → exec c s = .next (s.answered m tag body ⟨.badAddress, []⟩)) ∧
    (∀ (len : Byte), len = 0 ∨ 4 < len.toNat ∨ bytes.length < len.toNat →
      exec (.write m tag addr len bytes) s =
        .next (s.answered m tag (.write addr len bytes) ⟨.badValue, []⟩))

/-- (tier 2) R189: Set Pointer sets the manager's own pointer; a Read Next or Write Next that is
answered Done acts at the pointer and advances it by the length; one that is refused leaves it. A Write
Next is taken or refused in each region of the Bank Area, in Record Staging, in the locked ranges of the
window and at the Snapshot Port as a Write is (R188). The model's own choices in it: log entries 5, 11
and 19. -/
def Obligations.PointerRequests : Prop :=
  ∀ (m : Manager) (tag : BitVec 4) (s : State), serving s → storesWell s →
    let ptr := s.agent.pointer m
    let moved (u : State) (n : Nat) : State := u.setAgent (u.agent.setPointer m (ptr + n))
    let base := s.agent.bankBase * 0x1000 + (ptr - 0x1000)
    (∀ addr : BitVec 16, exec (.setPointer m tag addr) s =
      .next ((s.setAgent (s.agent.setPointer m addr.toNat)).answered m tag (.setPointer addr)
        ⟨.done, []⟩)) ∧
    (∀ len : Byte, len = 0 ∨ 6 < len.toNat → exec (.readNext m tag len) s =
      .next (s.answered m tag (.readNext len) ⟨.badValue, []⟩)) ∧
    (∀ len : Byte, 1 ≤ len.toNat → len.toNat ≤ 6 → 8 ≤ ptr → ptr + len.toNat ≤ 0xA000 →
      s.table.moving = false → exec (.readNext m tag len) s =
        .next ((moved s len.toNat).answered m tag (.readNext len)
          ⟨.done, (List.range len.toNat).map fun k => s.windowByte (ptr + k)⟩)) ∧
    (∀ len : Byte, 1 ≤ len.toNat → len.toNat ≤ 6 → 0xE000 < ptr + len.toNat →
      exec (.readNext m tag len) s =
        .next (s.answered m tag (.readNext len) ⟨.badAddress, []⟩)) ∧
    (∀ bytes : List Byte, bytes.length ≤ 6 → bytes ≠ [] →
      let len := BitVec.ofNat 8 bytes.length
      let answers (u : State) (x : Status) : Prop :=
        exec (.writeNext m tag len bytes) s = .next (u.answered m tag (.writeNext len bytes) ⟨x, []⟩)
      let placed (lo hi : Nat) : Prop := lo ≤ ptr ∧ ptr + bytes.length ≤ hi
      (placed 0x1000 0x9000 →
        let within (lo hi : Nat) : Prop := lo ≤ base ∧ base + bytes.length ≤ hi
        let emptyQueue : Prop :=
          s.mode.maintenance = true ∧ s.queue.count = 0 ∧ s.queue.reserved = 0
        let region (lo hi : Nat) (opened : Prop) : Prop := within lo hi →
          (opened → ∃ t, exec (.writeNext m tag len bytes) s = .next t ∧
            (∀ k, k < bytes.length → t.store.read (base + k) = bytes.getD k 0) ∧
            (∀ x, x < base ∨ base + bytes.length ≤ x → t.store.read x = s.store.read x) ∧
            t = (moved (s.setStore t.store) bytes.length).answered m tag (.writeNext len bytes)
              ⟨.done, []⟩) ∧
          (¬ opened → answers s .locked)
        region 0 0x60000 (s.table.state = .opened) ∧ region 0x60000 0x62000 emptyQueue ∧
        region 0x62000 0x63000 (s.mode.configuring = true) ∧
        region 0x63000 0x63100 (s.mode.maintenance = true) ∧
        (0x63100 ≤ base → answers s .badAddress)) ∧
      (placed 0x10 0x30 → s.table.staging.length = 32 →
        answers (moved (s.setTable { s.table with
          staging := s.table.staging.take (ptr - 0x10) ++ bytes ++
            s.table.staging.drop (ptr - 0x10 + bytes.length) }) bytes.length) .done) ∧
      (placed 0 2 ∨ placed 0xA 0xC ∨ placed 0x30 0x1000 ∨ placed 0x9000 0xA000 →
        answers s .locked) ∧
      (placed 4 8 → answers s .badAddress) ∧
      (0xE000 < ptr + bytes.length ∨ (ptr < 0xA000 ∧ 0xA000 < ptr + bytes.length) →
        answers s .badAddress) ∧
      (∀ n : Byte, n = 0 ∨ 6 < n.toNat ∨ bytes.length < n.toNat →
        exec (.writeNext m tag n bytes) s =
          .next (s.answered m tag (.writeNext n bytes) ⟨.badValue, []⟩)))

/-- (tier 2) R116, R188: the Bank Base takes 0 to 120 and Next Sequence any value but 0 in Maintenance
with an empty Charge Queue; anything else is refused and changes nothing. In Open a write of Record
Count is accepted for every value and answered Done, and no lookup uses it while the table is not
Closed; in every other state it is refused Locked and Record Count keeps its value. A value above 12,288
makes the check fail. That the request is served and answered at once is log entry 5, and the order of
its tests log entry 11. -/
def Obligations.ControlWords : Prop :=
  ∀ (m : Manager) (tag : BitVec 4) (v : BitVec 16) (q : BitVec 32) (s : State), serving s →
    let bank : ReqBody := .write 2 2 (leBytes 2 v.toNat)
    let seq : ReqBody := .write 0xC 4 (leBytes 4 q.toNat)
    let body : ReqBody := .write 8 2 (leBytes 2 v.toNat)
    let emptyQueue : Prop := s.mode.maintenance = true ∧ s.queue.count = 0 ∧ s.queue.reserved = 0
    (v.toNat ≤ 120 → exec (.bankBaseWrite m tag v) s =
      .next ((s.setAgent { s.agent with bankBase := v.toNat }).answered m tag bank ⟨.done, []⟩)) ∧
    (120 < v.toNat → exec (.bankBaseWrite m tag v) s =
      .next (s.answered m tag bank ⟨.badValue, []⟩)) ∧
    (emptyQueue → q ≠ 0 → exec (.nextSequenceWrite m tag q) s =
      .next ((s.setQueue { s.queue with nextSeq := q.toNat }).answered m tag seq ⟨.done, []⟩)) ∧
    (emptyQueue → q = 0 → exec (.nextSequenceWrite m tag q) s =
      .next (s.answered m tag seq ⟨.badValue, []⟩)) ∧
    (¬ emptyQueue → exec (.nextSequenceWrite m tag q) s =
      .next (s.answered m tag seq ⟨.locked, []⟩)) ∧
    (s.table.state = .opened →
      ∃ t, exec (.setRecordCount m tag v) s = .next t ∧
        t = (s.setTable { s.table with recordCount := v.toNat }).answered m tag body ⟨.done, []⟩ ∧
        (∀ k, t.lookupResult k = .unavailable) ∧
        (12288 < v.toNat → (t.store.check t.table.recordCount).result = .countTooLarge)) ∧
    (s.table.state ≠ .opened → exec (.setRecordCount m tag v) s =
      .next (s.answered m tag body ⟨.locked, []⟩))

/-- (tier 2) R183, R184: Latch copies each named item that is Unlatched and names it in the answer; a
read that takes a byte of the Snapshot Port takes one word of the Status buffer before the Totals
buffer, and after a buffer's last word it is Unlatched; with neither Latched the port reads zeros. Its
answer holds the word's bytes that the read names, with the window's bytes before and after the port,
and a length outside 1 to 4 is answered Bad Value and takes no word. The model's own choices in it: log
entry 5. -/
def Obligations.Snapshots : Prop :=
  ∀ (m : Manager) (tag : BitVec 4) (sel : BitVec 32) (first : Fin 4) (len : Byte) (s : State),
    serving s →
    let body : ReqBody := .read (BitVec.ofNat 16 (4 + first.val)) len
    let taken (p : Snaps) (word : List Byte) : Prop := 1 ≤ len.toNat → len.toNat ≤ 4 →
      exec (.snapshotPortRead m tag first len) s = .next ((s.setSnaps p).answered m tag body
        ⟨.done, (word.drop first.val ++
          (List.range 3).map fun k => s.windowByte (8 + k)).take len.toNat⟩) ∧
      ∀ a : BitVec 16, 1 ≤ a.toNat → a.toNat < 4 → 4 < a.toNat + len.toNat →
        exec (.read m tag a len) s = .next ((s.setSnaps p).answered m tag (.read a len)
          ⟨.done, ((List.range (4 - a.toNat)).map fun k => s.windowByte (a.toNat + k)) ++
            word.take (a.toNat + len.toNat - 4)⟩)
    let p := s.snaps
    (len = 0 ∨ 4 < len.toNat → exec (.snapshotPortRead m tag first len) s =
      .next (s.answered m tag body ⟨.badValue, []⟩)) ∧
    (p.status.latched = false → p.totals.latched = false → taken p [0, 0, 0, 0]) ∧
    (p.status.latched = true → p.status.bytes.length = 16 →
      (p.status.pos < 3 → taken { p with status := { p.status with pos := p.status.pos + 1 } }
        ((p.status.bytes.drop (4 * p.status.pos)).take 4)) ∧
      (p.status.pos = 3 → taken { p with status := ⟨false, List.replicate 16 0, 0⟩ }
        ((p.status.bytes.drop 12).take 4))) ∧
    (p.status.latched = false → p.totals.latched = true → p.totals.bytes.length = 48 →
      (p.totals.pos < 11 → taken { p with totals := { p.totals with pos := p.totals.pos + 1 } }
        ((p.totals.bytes.drop (4 * p.totals.pos)).take 4)) ∧
      (p.totals.pos = 11 → taken { p with totals := ⟨false, List.replicate 48 0, 0⟩ }
        ((p.totals.bytes.drop 44).take 4))) ∧
    exec (.latch m tag sel) s = .next ((s.setSnaps
      { status := if sel.getLsbD 0 = true ∧ p.status.latched = false then ⟨true, s.statusBytes, 0⟩
          else p.status
        totals := if sel.getLsbD 1 = true ∧ p.totals.latched = false then
            ⟨true, s.store.readBytes 0x63000 48, 0⟩
          else p.totals }).answered m tag (.command 8 sel)
      ⟨.done, [BitVec.ofNat 8
        ((if sel.getLsbD 0 = true ∧ p.status.latched = false then 1 else 0) +
          (if sel.getLsbD 1 = true ∧ p.totals.latched = false then 2 else 0))]⟩)

/-- (tier 2) R191, R192: a mirror access to a disabled entry is a Bad Address; into a Free slot it is
taken with a new query tag, its Node Query goes out, and it is answered Deferred; an identical repeat is
answered Deferred until the result is there, then collects it and frees the slot; any other access is
answered Busy. R192: Node Data that passes the four tests makes the slot Ready for 2 s, any other is
stray; the query timer sends the query once more and then gives Node Timeout; the result timer frees the
slot. The model's own choices in it: log entries 3, 5, 11 and 29. -/
def Obligations.MirrorAccesses : Prop :=
  (∀ (m : Manager) (tag : BitVec 4) (body : ReqBody) (o : Op) (s : State), serving s →
     body.isAccess = true → body.wf = true → bodyOp (s.agent.pointer m) body = some o →
     o.malformed = false → o.inOneSlot = true →
     let slot := (o.addr - 0xA000) / 0x400
     let answers (u : State) (x : Answer) : Prop :=
       exec (.mirrorAccess m tag body) s = .next (u.answered m tag body x)
     (s.cfg.nodeEnabled slot = false → answers s ⟨.badAddress, []⟩) ∧
     (s.cfg.nodeEnabled slot = true →
       (s.agent.deferred = .free → s.control.length + 2 ≤ 8 →
         answers ((s.setAgent { s.agent with
           queryTag := s.agent.queryTag + 1
           deferred := .querying ⟨m, normalBody body, o.addr,
             BitVec.ofNat 8 (s.cfg.listNode slot), s.agent.queryTag + 1, o.query⟩
             (.running (s.sys.now + 100000)) }).offered
           (s.bodyFrame .nodeQuery (BitVec.ofNat 8 (s.cfg.listNode slot))
             (s.agent.queryTag + 1) o.query)) ⟨.deferred, []⟩) ∧
       (∀ a t, s.agent.deferred = .querying a t ∨ s.agent.deferred = .requerying a t →
         answers s ⟨if a.mgr = m ∧ a.body = normalBody body ∧ a.addr = o.addr then .deferred
           else .busy, []⟩) ∧
       (∀ a r t, s.agent.deferred = .ready a r t →
         (¬ (a.mgr = m ∧ a.body = normalBody body ∧ a.addr = o.addr) → answers s ⟨.busy, []⟩) ∧
         (a.mgr = m ∧ a.body = normalBody body ∧ a.addr = o.addr →
           (r = .timeout → answers (s.setAgent { s.agent with deferred := .free })
             ⟨.nodeTimeout, []⟩) ∧
           (∀ d, r = .data d → answers (s.setAgent
             (if isNext body then
               ({ s.agent with deferred := .free } : Agent).setPointer m (s.agent.pointer m + o.len)
              else { s.agent with deferred := .free })) ⟨.done, d⟩))))) ∧
  ∀ (src : Byte) (tag : BitVec 4) (data : List Byte) (a : Access) (e : Nat) (s : State), live s →
    2 ≤ data.length → data.length ≤ 8 →
    let fits : Prop := src = a.node ∧ tag = a.qtag ∧ data.take 2 = a.query.take 2 ∧
      data.length = 2 + a.readLen.getD 0
    let asked (t : Timer) : Prop :=
      s.agent.deferred = .querying a t ∨ s.agent.deferred = .requerying a t
    let stray := s.setAgent { s.agent with strayNodeData := bump s.agent.strayNodeData }
    (∀ t, asked t → fits → exec (.nodeData src tag data) s = .next (s.setAgent { s.agent with
      deferred := .ready a (.data (data.drop 2)) (.running (s.sys.now + 2000000)) })) ∧
    (∀ t, asked t → ¬ fits → exec (.nodeData src tag data) s = .next stray) ∧
    (s.agent.deferred = .free ∨ (∃ r t, s.agent.deferred = .ready a r t) →
      exec (.nodeData src tag data) s = .next stray) ∧
    (s.agent.deferred = .querying a (.running e) → controlOpen s →
      exec .queryTimerExpiry s = .next (((s.reach e).setAgent { s.agent with
        deferred := .requerying a (.running (max s.sys.now e + 100000)) }).offered
          (s.bodyFrame .nodeQuery a.node a.qtag a.query))) ∧
    (s.agent.deferred = .requerying a (.running e) →
      exec .queryTimerExpiry s = .next ((s.reach e).setAgent { s.agent with
        deferred := .ready a .timeout (.running (max s.sys.now e + 2000000)) })) ∧
    (∀ r, s.agent.deferred = .ready a r (.running e) →
      exec .resultTimerExpiry s = .next ((s.reach e).setAgent { s.agent with
        deferred := .free }))

/-! ### Commands (12, and the owners' chapters) -/

/-- (tier 2) R115, R117, R119: Table Open, Table Close and Update, each with the states that refuse it.
The model's own choices in it: that the request is served and answered at once (log entry 5), the search
behind Update's find (log entry 18), and that Table Open of an Open table is answered Done whatever the
stations do (log entry 26): that clause is the model's choice, the manual gives both rows and no order.
-/
def Obligations.TableCommands : Prop :=
  ∀ (m : Manager) (tag : BitVec 4) (s : State), serving s → storesWell s →
    let answers (c : Instr) (code : Byte) (u : State) (x : Answer) : Prop :=
      exec c s = .next (u.answered m tag (.command code 0) x)
    let idle : Prop := ∀ st : Station, (s.lift st).state = .idle
    let still : Prop := s.table.state = .closed ∧ s.table.busy = false
    let count (f : TableCounts → TableCounts) (tb : Table) : State :=
      s.setTable { tb with counts := f s.table.counts }
    (s.table.state = .opened → answers (.tableOpen m tag) 1 s ⟨.done, []⟩) ∧
    (s.table.state ≠ .opened → idle → still ∨ s.table.state = .invalid →
      answers (.tableOpen m tag) 1 (count (fun c => { c with opens := bump c.opens })
        { s.table with state := .opened }) ⟨.done, []⟩) ∧
    (s.table.state ≠ .opened → ¬ idle ∨ ¬ (still ∨ s.table.state = .invalid) →
      answers (.tableOpen m tag) 1 s ⟨.notPermitted, []⟩) ∧
    (s.table.state ≠ .opened → answers (.tableClose m tag) 2 s ⟨.notPermitted, []⟩) ∧
    (s.table.state = .opened → 0 < s.table.recordCount → s.table.recordCount ≤ 12288 →
      ∃ n, 0 < n ∧ n ≤ s.table.recordCount ∧ answers (.tableClose m tag) 2
        (s.setTable { s.table with
          state := .checking, checkTimer := .running (s.sys.now + 2 * n) }) ⟨.done, []⟩) ∧
    (s.table.state = .opened → s.table.recordCount = 0 ∨ 12288 < s.table.recordCount →
      ∃ t, exec (.tableClose m tag) s = .next t ∧
        t.table.state = (if s.table.recordCount = 0 then .closed else .invalid) ∧
        t.table.counts = { s.table.counts with checks := bump s.table.counts.checks } ∧
        t = { s with table := t.table, agent := t.agent, body := t.body, control := t.control }) ∧
    (¬ still → answers (.update m tag) 4 s ⟨.notPermitted, []⟩) ∧
    (still → badRecord s.table.staging = true →
      answers (.update m tag) 4 (s.setTable { s.table with lastResult := .badRecord })
        ⟨.badValue, [1]⟩) ∧
    (still → badRecord s.table.staging = false → s.find (recTag s.table.staging) = none →
      answers (.update m tag) 4 (s.setTable { s.table with lastResult := .notFound })
        ⟨.badValue, [4]⟩) ∧
    (∀ p, still → badRecord s.table.staging = false → s.table.staging.length = 32 →
      s.find (recTag s.table.staging) = some p →
      ∃ t, exec (.update m tag) s = .next t ∧
        (∀ k, k < 9 → t.store.read (32 * p + 5 + k) = s.table.staging.getD (5 + k) 0) ∧
        (∀ x, x < 32 * p + 5 ∨ 32 * p + 14 ≤ x → t.store.read x = s.store.read x) ∧
        t = ((count (fun c => { c with updates := bump c.updates })
          { s.table with lastResult := .done }).setStore t.store).answered m tag (.command 4 0)
            ⟨.done, [0]⟩)

/-- (tier 2) R118, R120 to R123, R185: Insert, Delete and Open Period are refused unless the table is
Closed and not Busy; each test that fails ends them with its Table Result; otherwise the journal is
written, the first step is 2 µs on, and the request is held unanswered. A Delete of the last record and
an Open Period of an empty table end at once. The model's own choices in it: log entries 5, 18 and 28.
-/
def Obligations.EditCommands : Prop :=
  ∀ (m : Manager) (tag : BitVec 4) (s : State), serving s →
    let answers (c : Instr) (code : Byte) (u : State) (x : Answer) : Prop :=
      exec c s = .next (u.answered m tag (.command code 0) x)
    let still : Prop := s.table.state = .closed ∧ s.table.busy = false
    let held (c : Instr) (code : Byte) (j : Journal) : Prop :=
      exec c s = .next ((s.setTable { s.table with
        journal := j, moveTimer := .running (s.sys.now + 2) }).setAgent { s.agent with
          hold := .table
          queue := [⟨m, BitVec.ofNat 8 (s.cfg.managerNode m), tag, .command code 0⟩] })
    let key := recTag s.table.staging
    let ended (r : TableResult) : State := s.setTable { s.table with lastResult := r }
    (¬ still → answers (.insert m tag) 3 s ⟨.notPermitted, []⟩ ∧
      answers (.delete m tag) 5 s ⟨.notPermitted, []⟩ ∧
      answers (.openPeriod m tag) 6 s ⟨.notPermitted, []⟩) ∧
    (still → badRecord s.table.staging = true →
      answers (.insert m tag) 3 (ended .badRecord) ⟨.badValue, [1]⟩) ∧
    (still → badRecord s.table.staging = false → s.find key ≠ none →
      answers (.insert m tag) 3 (ended .duplicate) ⟨.badValue, [2]⟩) ∧
    (still → badRecord s.table.staging = false → s.find key = none →
      s.table.recordCount = 12288 → answers (.insert m tag) 3 (ended .full) ⟨.badValue, [3]⟩) ∧
    (still → badRecord s.table.staging = false → s.find key = none →
      s.table.recordCount ≠ 12288 → ∃ p, p ≤ s.table.recordCount ∧
        (∀ k, k < p → recTag (s.store.record k) ≤ key) ∧
        (p < s.table.recordCount → key < recTag (s.store.record p)) ∧
        held (.insert m tag) 3 ⟨.insert, p, (s.table.recordCount : Int) - 1, s.table.staging⟩) ∧
    (still → s.find key = none →
      answers (.delete m tag) 5 (ended .notFound) ⟨.badValue, [4]⟩) ∧
    (∀ p, still → s.find key = some p → p + 1 < s.table.recordCount →
      held (.delete m tag) 5 ⟨.delete, p, (p : Int), []⟩) ∧
    (∀ p, still → s.table.waiting = [] → s.find key = some p → s.table.recordCount ≤ p + 1 →
      answers (.delete m tag) 5 (s.setTable { s.table with
        journal := Journal.clear, moveTimer := .stopped, recordCount := s.table.recordCount - 1
        lastResult := .done
        counts := { s.table.counts with deletes := bump s.table.counts.deletes } })
        ⟨.done, [0]⟩) ∧
    (still → 0 < s.table.recordCount → held (.openPeriod m tag) 6 ⟨.openPeriod, 0, 0, []⟩) ∧
    (still → s.table.waiting = [] → s.table.recordCount = 0 →
      answers (.openPeriod m tag) 6 (s.setTable { s.table with
        journal := Journal.clear, moveTimer := .stopped
        counts := { s.table.counts with periods := bump s.table.counts.periods } }) ⟨.done, []⟩)

/-- (tier 2) R39, R77, R142, R179, R182, R186, R190, R197: Release, Clear Totals, Clear Flags,
Acknowledge Notices, Acknowledge Changes, Set Clock, and an undefined request or command. R105, R149:
Zero Capture and Set Lowest, with their refusals. After Set Lowest the station is the last of the group
order and the other two keep their order. The model's own choices in it: log entries 5 and 14. -/
def Obligations.PlainAndStationCommands : Prop :=
  (∀ (m : Manager) (tag : BitVec 4) (n : BitVec 16) (x : BitVec 32) (s : State), serving s →
     storesWell s →
     let answers (c : Instr) (code : Byte) (arg : BitVec 32) (u : State) (y : Answer) : Prop :=
       exec c s = .next (u.answered m tag (.command code arg) y)
     let k := min n.toNat s.queue.count
     let apart : Nat := (x.toNat - s.clock.seconds) + (s.clock.seconds - x.toNat)
     answers (.release m tag n) 7 (n.setWidth 32) (s.setQueue { s.queue with
       head := (s.queue.head + k) % 256, count := s.queue.count - k
       released := min (s.queue.released + k) 0xFFFF }) ⟨.done, leBytes 2 k⟩ ∧
     (∃ t, exec (.clearTotals m tag) s = .next t ∧
       (∀ a, 0x63000 ≤ a → a < 0x63030 → t.store.read a = 0) ∧
       (∀ a, a < 0x63000 ∨ 0x63030 ≤ a → t.store.read a = s.store.read a) ∧
       t = (s.setStore t.store).answered m tag (.command 9 0) ⟨.done, []⟩) ∧
     answers (.clearFlags m tag x) 10 x (s.setTags { s.tags with
       overrun := s.tags.overrun && !x.getLsbD 0 }) ⟨.done, []⟩ ∧
     (∃ t, exec (.acknowledgeNotices m tag x) s = .next t ∧
       (∀ i, i < 16 → t.agent.notices.getLsbD i =
         (s.agent.notices.getLsbD i && !(x.getLsbD i && !s.cfg.noticeModes.getLsbD i))) ∧
       t = (s.setAgent { s.agent with notices := t.agent.notices }).answered m tag (.command 11 x)
         ⟨.done, []⟩) ∧
     answers (.acknowledgeChanges m tag x) 12 x (s.setScanner { s.scanner with
       changeMap := s.scanner.changeMap &&& ~~~ x }) ⟨.done, []⟩ ∧
     (x = 0 → answers (.setClock m tag x) 15 x s ⟨.badValue, []⟩) ∧
     (x ≠ 0 → s.clock.valid = false → answers (.setClock m tag x) 15 x (s.setClock { s.clock with
       seconds := x.toNat, valid := true, syncsSet := bump s.clock.syncsSet }) ⟨.done, []⟩) ∧
     (x ≠ 0 → s.clock.valid = true → apart ≤ s.cfg.syncTolerance →
       answers (.setClock m tag x) 15 x (s.setClock { s.clock with seconds := x.toNat })
         ⟨.done, []⟩) ∧
     (x ≠ 0 → s.clock.valid = true → s.cfg.syncTolerance < apart →
       ∃ t, exec (.setClock m tag x) s = .next t ∧
         t.total .clockSteps = min (s.total .clockSteps + 1) 0xFFFFFFFF ∧
         (∀ a, a < 0x6302C ∨ 0x63030 ≤ a → t.store.read a = s.store.read a) ∧
         t = { s with
           clock := { s.clock with
             seconds := x.toNat, stepCount := bump s.clock.stepCount, stepped := true }
           store := t.store, agent := t.agent, body := t.body, control := t.control }) ∧
     (∀ kind code : Byte, kind = 0 ∨ 6 < kind.toNat →
       exec (.unknownRequest m tag kind code) s =
         .next (s.answered m tag (.unknown kind) ⟨.unknownRequest, []⟩)) ∧
     (∀ code : Byte, code = 0 ∨ 20 < code.toNat → exec (.unknownRequest m tag 6 code) s =
       .next (s.answered m tag (.command code 0) ⟨.unknownRequest, []⟩))) ∧
  ∀ (m : Manager) (tag : BitVec 4) (b : Byte) (s : State), serving s →
    let zero (u : State) (x : Answer) : Prop := exec (.zeroCapture m tag b) s =
      .next (u.answered m tag (.command 13 (b.setWidth 32)) x)
    (2 < b.toNat → zero s ⟨.badValue, []⟩ ∧ exec (.setLowest m tag b) s =
      .next (s.answered m tag (.command 14 (b.setWidth 32)) ⟨.badValue, []⟩)) ∧
    (∀ st, Station.ofNum b.toNat = some st →
      (s.configured = false ∨ (s.lift st).state ≠ .idle → zero s ⟨.notPermitted, []⟩) ∧
      (s.configured = true → (s.lift st).state = .idle → (s.scale st).capture.isRunning = true →
        zero s ⟨.busy, []⟩) ∧
      (s.configured = true → (s.lift st).state = .idle → (s.scale st).capture.isRunning = false →
        zero (s.setScale st { s.scale st with
          capture := .running (s.sys.now + 5000000), captureRun := Run.empty }) ⟨.done, []⟩) ∧
      ∃ t, exec (.setLowest m tag b) s = .next t ∧
        t.arbiter.group = s.arbiter.group.filter (fun y => y != st) ++ [st] ∧
        t.arbiter.req = s.arbiter.req ∧
        t.arbiter.arbitrations = bump s.arbiter.arbitrations ∧ pacedBut [] s t ∧
        t = (s.reflow t).answered m tag (.command 14 (b.setWidth 32)) ⟨.done, []⟩)

/-- (tier 2) R193, R195, R198: Configuration Open, Maintenance Enter and Leave, and Body Reset. Entry
needs every function at rest and the other mode off; the Terminal may not use Maintenance; a Body Reset
is answered Done and held until its response has left. The model's own choices in it: log entries 5 and
11. -/
def Obligations.ModeCommands : Prop :=
  ∀ (m : Manager) (tag : BitVec 4) (s : State), serving s →
    let answers (c : Instr) (code : Byte) (u : State) (x : Answer) : Prop :=
      exec c s = .next (u.answered m tag (.command code 0) x)
    let rest : Prop := (∀ st : Station, (s.lift st).state = .idle) ∧ s.packer.state = .parked ∧
      s.tailgate.state = .closed
    let noPack : Packer := { s.packer with packPending := false }
    (s.mode.configuring = true → answers (.configurationOpen m tag) 16 s ⟨.done, []⟩) ∧
    (s.mode.configuring = false → ¬ (rest ∧ s.mode.maintenance = false) →
      answers (.configurationOpen m tag) 16 s ⟨.notPermitted, []⟩) ∧
    (s.mode.configuring = false → rest → s.mode.maintenance = false →
      ∃ t, exec (.configurationOpen m tag) s = .next t ∧ t.mode.configuring = true ∧
        t.configured = false ∧
        (∀ i : Fin 64, (t.route i).held = none ∧ (t.route i).timing = .stopped) ∧
        (∀ st : Station, (t.scale st).capture.isRunning = false ∧
          ((s.scale st).capture.isRunning = true → (t.scale st).lastResult = .cancelled)) ∧
        ((∀ st : Station, (s.scale st).capture.isRunning = false) → t.control = s.control ++
          [⟨s.answerTo m tag (.command 16 0) ⟨.done, []⟩, false⟩]) ∧
        t = { s with
          mode := { s.mode with configuring := true }, packer := noPack, routes := t.routes
          weigh := t.weigh, agent := t.agent, body := t.body, control := t.control }) ∧
    (m = .terminal → answers (.maintenanceEnter m tag) 18 s ⟨.notPermitted, []⟩ ∧
      answers (.maintenanceLeave m tag) 19 s ⟨.notPermitted, []⟩) ∧
    (m = .service →
      (s.mode.maintenance = true → answers (.maintenanceEnter m tag) 18 s ⟨.done, []⟩) ∧
      (s.mode.maintenance = false → ¬ (rest ∧ s.mode.configuring = false) →
        answers (.maintenanceEnter m tag) 18 s ⟨.notPermitted, []⟩) ∧
      (s.mode.maintenance = false → rest → s.mode.configuring = false →
        answers (.maintenanceEnter m tag) 18
          ((s.setMode { s.mode with maintenance := true }).setPacker noPack) ⟨.done, []⟩) ∧
      answers (.maintenanceLeave m tag) 19 (s.setMode { s.mode with maintenance := false })
        ⟨.done, []⟩) ∧
    exec (.bodyReset m tag) s = .next (chooseTx .body ((s.setAgent { s.agent with
      hold := .bodyReset, served := bump s.agent.served
      queue := [⟨m, BitVec.ofNat 8 (s.cfg.managerNode m), tag, .command 20 0⟩]
      statusCounts := s.agent.statusCounts.set 0 (bump s.agent.statusCounts[0]) }).setControl
        (s.control ++ [⟨s.answerTo m tag (.command 20 0) ⟨.done, []⟩, true⟩])))

/-- (tier 2) R194: Commit outside Configuring is answered Not Permitted; a failing check is answered Bad
Value with its item and index, and nothing changes; a success puts the written copy in force, leaves
Configuring, sets the route counts to 0, restarts the status timer, takes the commissioned zeros, and is
answered Done, behind a Notice that it may send. A station may be Homing then, and the tailgate moving,
as long as neither owes a record. R43: every disagreement count is 0. An input whose Invert setting
changed has its logical and its filtered state inverted, and after Scan Ready its published state and its
Change Map bit with them, which no phase rule hears of; Input Change follows a masked bit that becomes
set, or a set one that becomes masked. The pairs are evaluated on the new table, and their beginnings are
counted and noticed (R40). An E-Stop or a pair error that begins faults a function still in motion (R41,
R42). Before Scan Ready nothing is published, and a full-scan count above the new Debounce Count is cut
to it. R84: under the new Association Window, entries of the Tag Queue whose window has passed leave it,
the others keep their order, and a register empties by the same test while its station holds no Lift
Record. The model's own choices in it: log entries 5, 10, 12, 19 and 27. -/
def Obligations.CommitCommand : Prop :=
  ∀ (m : Manager) (tag : BitVec 4) (s : State), serving s → storesWell s →
    (s.mode.configuring = false → exec (.commit m tag) s =
      .next (s.answered m tag (.command 17 0) ⟨.notPermitted, []⟩)) ∧
    (∀ f, s.mode.configuring = true →
      s.writtenCopy.commitFailure s.sys.ownNode.toNat = some f →
      exec (.commit m tag) s = .next (s.answered m tag (.command 17 0)
        ⟨.badValue, [BitVec.ofNat 8 f.item, BitVec.ofNat 8 f.index,
          BitVec.ofNat 8 (f.index / 256)]⟩)) ∧
    (s.mode.configuring = true → s.writtenCopy.commitFailure s.sys.ownNode.toNat = none →
      (∀ st : Station, s.stationMoving st = true →
        (s.lift st).state = .homing ∧ ∀ r, (s.lift st).record = some r → r.requested = true) →
      (s.tailgate.state = .ejecting → s.tailgate.unloadPending = true) →
      ∃ t, exec (.commit m tag) s = .next t ∧
        (∀ a, 0x62000 ≤ a → a < 0x63000 → t.cfg.read a = s.store.read a) ∧
        t.mode.configuring = false ∧ t.mode.committed = true ∧
        t.mode.maintenance = s.mode.maintenance ∧
        t.store = s.store ∧
        (∀ i : Fin 64, (t.route i).matched = 0 ∧ (t.route i).dropped = 0 ∧
          (t.route i).held = (s.route i).held) ∧
        t.statusTimer = .running (s.sys.now + t.cfg.statusPeriod) ∧
        t.signals = t.outputs ∧ t.arbiter.group = t.cfg.groupStart ∧
        (∀ st : Station, (t.zero st).za = t.cfg.commissionedZero st ∧
          (t.zero st).defined = true ∧ (t.scale st).pendingZero = none) ∧
        (∀ c : Fin 12, (t.channels[c]).periodStart = s.sys.now) ∧
        t.payload.bodyFull = t.bodyFullTest ∧
        (let x := s.scanner
         let y := t.scanner
         let flips (i : Fin 32) : Bool := s.cfg.inverted i != t.cfg.inverted i
         let begun := y.pairErrors &&& ~~~ x.pairErrors
         let stops : Prop := x.ready = true ∧ s.eStop = false ∧ t.eStop = true
         let halts (r : Requester) : Prop := t.cfg.begunFor begun r = true ∨ stops
         let cause {α : Type} (r : Requester) (pair stop : α) : Option α :=
           some (if t.cfg.begunFor begun r = true then pair else stop)
         y.raw = x.raw ∧ y.pointer = x.pointer ∧ y.nextRead = x.nextRead ∧ y.ready = x.ready ∧
         y.scans = (if x.ready = true then x.scans else min x.scans t.cfg.debounceCount) ∧
         (∀ i : Fin 32, y.disagree[i] = 0 ∧
           y.logical.getLsbD i = (x.logical.getLsbD i != flips i) ∧
           y.filtered.getLsbD i = (x.filtered.getLsbD i != flips i) ∧
           y.published.getLsbD i = (x.published.getLsbD i != (x.ready && flips i)) ∧
           y.changeMap.getLsbD i = (x.changeMap.getLsbD i || (x.ready && flips i))) ∧
         (let calls : Prop := x.ready = true ∧ ∃ i : Fin 32,
            y.changeMap.getLsbD i = true ∧ t.cfg.changeMask.getLsbD i = true ∧
              (x.changeMap.getLsbD i = false ∨ s.cfg.changeMask.getLsbD i = false)
          (calls → s.noticed t 2) ∧ (¬ calls → s.quiet t 2)) ∧
         (∀ j : Fin 8, y.pairErrors.getLsbD j = (if x.ready = true then
             t.cfg.pairEnabled j && t.input (t.cfg.pairA j) && t.input (t.cfg.pairB j)
           else x.pairErrors.getLsbD j) ∧
           y.pairCounts[j] = if begun.getLsbD j then bump x.pairCounts[j] else x.pairCounts[j]) ∧
         (begun ≠ 0 → s.noticed t 3) ∧ (begun = 0 → s.quiet t 3) ∧
         (∀ st : Station, (t.lift st).record = (s.lift st).record ∧
           if s.stationMoving st = true ∧ halts (.station st) then
             (t.lift st).state = .fault ∧
               (t.lift st).lastFault = cause (.station st) .sensorError .eStop
           else (t.lift st).state = (s.lift st).state) ∧
         (if s.tailgateMoving = true ∧ halts .tailgate then
           t.tailgate.state = .fault ∧ t.tailgate.lastFault = cause .tailgate .sensorError .eStop
         else t.tailgate.state = s.tailgate.state) ∧
         (halts .packer → t.packer.packPending = false ∧
           (t.packer.state = .parked ∨ t.packer.state = .fault))) ∧
        (let passed (last : Nat) : Prop := last + t.cfg.associationWindow ≤ s.tagTime
         t.tags = { s.tags with
           queue := s.tags.queue.filter fun x => ¬ passed x.last, assigned := t.tags.assigned } ∧
         ∀ st : Station, t.tags.assigned.get st = (s.tags.assigned.get st).filter fun x =>
           (s.lift st).record.isSome ∨ ¬ passed x.last) ∧
        t.agent.served = bump s.agent.served ∧
        t.agent.statusCounts = s.agent.statusCounts.set 0 (bump s.agent.statusCounts[0]) ∧
        t.agent.queue = [] ∧ t.agent.hold = .none ∧
        (s.control.length + 2 ≤ 8 → t.control.getLast? =
          some ⟨s.answerTo m tag (.command 17 0) ⟨.done, []⟩, false⟩) ∧
        t.sys = s.sys ∧ t.snaps = s.snaps ∧ t.slots = s.slots ∧ t.chassis = s.chassis ∧
        t.statusBuffer = s.statusBuffer ∧ t.foreignCommands = s.foreignCommands ∧
        t.pending = s.pending)
end

