-- ==== Sys2Proof/Laws/State.lean ====
section
/-! SUPPORT. One lemma for each field and each replacement of a field of `State`. -/

namespace Sys2Proof.Laws

open Sys2Proof.Machine

@[simp] theorem setSys_sys (s : State) (x : Sys) : (s.setSys x).sys = x := rfl
@[simp] theorem setSys_mode (s : State) (x : Sys) : (s.setSys x).mode = s.mode := rfl
@[simp] theorem setSys_store (s : State) (x : Sys) : (s.setSys x).store = s.store := rfl
@[simp] theorem setSys_cfg (s : State) (x : Sys) : (s.setSys x).cfg = s.cfg := rfl
@[simp] theorem setSys_chassis (s : State) (x : Sys) : (s.setSys x).chassis = s.chassis := rfl
@[simp] theorem setSys_body (s : State) (x : Sys) : (s.setSys x).body = s.body := rfl
@[simp] theorem setSys_statusBuffer (s : State) (x : Sys) : (s.setSys x).statusBuffer = s.statusBuffer := rfl
@[simp] theorem setSys_control (s : State) (x : Sys) : (s.setSys x).control = s.control := rfl
@[simp] theorem setSys_routes (s : State) (x : Sys) : (s.setSys x).routes = s.routes := rfl
@[simp] theorem setSys_statusTimer (s : State) (x : Sys) : (s.setSys x).statusTimer = s.statusTimer := rfl
@[simp] theorem setSys_slots (s : State) (x : Sys) : (s.setSys x).slots = s.slots := rfl
@[simp] theorem setSys_signals (s : State) (x : Sys) : (s.setSys x).signals = s.signals := rfl
@[simp] theorem setSys_scanner (s : State) (x : Sys) : (s.setSys x).scanner = s.scanner := rfl
@[simp] theorem setSys_lifts (s : State) (x : Sys) : (s.setSys x).lifts = s.lifts := rfl
@[simp] theorem setSys_foreignCommands (s : State) (x : Sys) : (s.setSys x).foreignCommands = s.foreignCommands := rfl
@[simp] theorem setSys_markers (s : State) (x : Sys) : (s.setSys x).markers = s.markers := rfl
@[simp] theorem setSys_tags (s : State) (x : Sys) : (s.setSys x).tags = s.tags := rfl
@[simp] theorem setSys_weigh (s : State) (x : Sys) : (s.setSys x).weigh = s.weigh := rfl
@[simp] theorem setSys_zeros (s : State) (x : Sys) : (s.setSys x).zeros = s.zeros := rfl
@[simp] theorem setSys_table (s : State) (x : Sys) : (s.setSys x).table = s.table := rfl
@[simp] theorem setSys_billing (s : State) (x : Sys) : (s.setSys x).billing = s.billing := rfl
@[simp] theorem setSys_queue (s : State) (x : Sys) : (s.setSys x).queue = s.queue := rfl
@[simp] theorem setSys_arbiter (s : State) (x : Sys) : (s.setSys x).arbiter = s.arbiter := rfl
@[simp] theorem setSys_channels (s : State) (x : Sys) : (s.setSys x).channels = s.channels := rfl
@[simp] theorem setSys_toggles (s : State) (x : Sys) : (s.setSys x).toggles = s.toggles := rfl
@[simp] theorem setSys_packer (s : State) (x : Sys) : (s.setSys x).packer = s.packer := rfl
@[simp] theorem setSys_payload (s : State) (x : Sys) : (s.setSys x).payload = s.payload := rfl
@[simp] theorem setSys_tailgate (s : State) (x : Sys) : (s.setSys x).tailgate = s.tailgate := rfl
@[simp] theorem setSys_clock (s : State) (x : Sys) : (s.setSys x).clock = s.clock := rfl
@[simp] theorem setSys_snaps (s : State) (x : Sys) : (s.setSys x).snaps = s.snaps := rfl
@[simp] theorem setSys_agent (s : State) (x : Sys) : (s.setSys x).agent = s.agent := rfl
@[simp] theorem setSys_pending (s : State) (x : Sys) : (s.setSys x).pending = s.pending := rfl
@[simp] theorem setMode_sys (s : State) (x : Mode) : (s.setMode x).sys = s.sys := rfl
@[simp] theorem setMode_mode (s : State) (x : Mode) : (s.setMode x).mode = x := rfl
@[simp] theorem setMode_store (s : State) (x : Mode) : (s.setMode x).store = s.store := rfl
@[simp] theorem setMode_cfg (s : State) (x : Mode) : (s.setMode x).cfg = s.cfg := rfl
@[simp] theorem setMode_chassis (s : State) (x : Mode) : (s.setMode x).chassis = s.chassis := rfl
@[simp] theorem setMode_body (s : State) (x : Mode) : (s.setMode x).body = s.body := rfl
@[simp] theorem setMode_statusBuffer (s : State) (x : Mode) : (s.setMode x).statusBuffer = s.statusBuffer := rfl
@[simp] theorem setMode_control (s : State) (x : Mode) : (s.setMode x).control = s.control := rfl
@[simp] theorem setMode_routes (s : State) (x : Mode) : (s.setMode x).routes = s.routes := rfl
@[simp] theorem setMode_statusTimer (s : State) (x : Mode) : (s.setMode x).statusTimer = s.statusTimer := rfl
@[simp] theorem setMode_slots (s : State) (x : Mode) : (s.setMode x).slots = s.slots := rfl
@[simp] theorem setMode_signals (s : State) (x : Mode) : (s.setMode x).signals = s.signals := rfl
@[simp] theorem setMode_scanner (s : State) (x : Mode) : (s.setMode x).scanner = s.scanner := rfl
@[simp] theorem setMode_lifts (s : State) (x : Mode) : (s.setMode x).lifts = s.lifts := rfl
@[simp] theorem setMode_foreignCommands (s : State) (x : Mode) : (s.setMode x).foreignCommands = s.foreignCommands := rfl
@[simp] theorem setMode_markers (s : State) (x : Mode) : (s.setMode x).markers = s.markers := rfl
@[simp] theorem setMode_tags (s : State) (x : Mode) : (s.setMode x).tags = s.tags := rfl
@[simp] theorem setMode_weigh (s : State) (x : Mode) : (s.setMode x).weigh = s.weigh := rfl
@[simp] theorem setMode_zeros (s : State) (x : Mode) : (s.setMode x).zeros = s.zeros := rfl
@[simp] theorem setMode_table (s : State) (x : Mode) : (s.setMode x).table = s.table := rfl
@[simp] theorem setMode_billing (s : State) (x : Mode) : (s.setMode x).billing = s.billing := rfl
@[simp] theorem setMode_queue (s : State) (x : Mode) : (s.setMode x).queue = s.queue := rfl
@[simp] theorem setMode_arbiter (s : State) (x : Mode) : (s.setMode x).arbiter = s.arbiter := rfl
@[simp] theorem setMode_channels (s : State) (x : Mode) : (s.setMode x).channels = s.channels := rfl
@[simp] theorem setMode_toggles (s : State) (x : Mode) : (s.setMode x).toggles = s.toggles := rfl
@[simp] theorem setMode_packer (s : State) (x : Mode) : (s.setMode x).packer = s.packer := rfl
@[simp] theorem setMode_payload (s : State) (x : Mode) : (s.setMode x).payload = s.payload := rfl
@[simp] theorem setMode_tailgate (s : State) (x : Mode) : (s.setMode x).tailgate = s.tailgate := rfl
@[simp] theorem setMode_clock (s : State) (x : Mode) : (s.setMode x).clock = s.clock := rfl
@[simp] theorem setMode_snaps (s : State) (x : Mode) : (s.setMode x).snaps = s.snaps := rfl
@[simp] theorem setMode_agent (s : State) (x : Mode) : (s.setMode x).agent = s.agent := rfl
@[simp] theorem setMode_pending (s : State) (x : Mode) : (s.setMode x).pending = s.pending := rfl
@[simp] theorem setStore_sys (s : State) (x : Mem) : (s.setStore x).sys = s.sys := rfl
@[simp] theorem setStore_mode (s : State) (x : Mem) : (s.setStore x).mode = s.mode := rfl
@[simp] theorem setStore_store (s : State) (x : Mem) : (s.setStore x).store = x := rfl
@[simp] theorem setStore_cfg (s : State) (x : Mem) : (s.setStore x).cfg = s.cfg := rfl
@[simp] theorem setStore_chassis (s : State) (x : Mem) : (s.setStore x).chassis = s.chassis := rfl
@[simp] theorem setStore_body (s : State) (x : Mem) : (s.setStore x).body = s.body := rfl
@[simp] theorem setStore_statusBuffer (s : State) (x : Mem) : (s.setStore x).statusBuffer = s.statusBuffer := rfl
@[simp] theorem setStore_control (s : State) (x : Mem) : (s.setStore x).control = s.control := rfl
@[simp] theorem setStore_routes (s : State) (x : Mem) : (s.setStore x).routes = s.routes := rfl
@[simp] theorem setStore_statusTimer (s : State) (x : Mem) : (s.setStore x).statusTimer = s.statusTimer := rfl
@[simp] theorem setStore_slots (s : State) (x : Mem) : (s.setStore x).slots = s.slots := rfl
@[simp] theorem setStore_signals (s : State) (x : Mem) : (s.setStore x).signals = s.signals := rfl
@[simp] theorem setStore_scanner (s : State) (x : Mem) : (s.setStore x).scanner = s.scanner := rfl
@[simp] theorem setStore_lifts (s : State) (x : Mem) : (s.setStore x).lifts = s.lifts := rfl
@[simp] theorem setStore_foreignCommands (s : State) (x : Mem) : (s.setStore x).foreignCommands = s.foreignCommands := rfl
@[simp] theorem setStore_markers (s : State) (x : Mem) : (s.setStore x).markers = s.markers := rfl
@[simp] theorem setStore_tags (s : State) (x : Mem) : (s.setStore x).tags = s.tags := rfl
@[simp] theorem setStore_weigh (s : State) (x : Mem) : (s.setStore x).weigh = s.weigh := rfl
@[simp] theorem setStore_zeros (s : State) (x : Mem) : (s.setStore x).zeros = s.zeros := rfl
@[simp] theorem setStore_table (s : State) (x : Mem) : (s.setStore x).table = s.table := rfl
@[simp] theorem setStore_billing (s : State) (x : Mem) : (s.setStore x).billing = s.billing := rfl
@[simp] theorem setStore_queue (s : State) (x : Mem) : (s.setStore x).queue = s.queue := rfl
@[simp] theorem setStore_arbiter (s : State) (x : Mem) : (s.setStore x).arbiter = s.arbiter := rfl
@[simp] theorem setStore_channels (s : State) (x : Mem) : (s.setStore x).channels = s.channels := rfl
@[simp] theorem setStore_toggles (s : State) (x : Mem) : (s.setStore x).toggles = s.toggles := rfl
@[simp] theorem setStore_packer (s : State) (x : Mem) : (s.setStore x).packer = s.packer := rfl
@[simp] theorem setStore_payload (s : State) (x : Mem) : (s.setStore x).payload = s.payload := rfl
@[simp] theorem setStore_tailgate (s : State) (x : Mem) : (s.setStore x).tailgate = s.tailgate := rfl
@[simp] theorem setStore_clock (s : State) (x : Mem) : (s.setStore x).clock = s.clock := rfl
@[simp] theorem setStore_snaps (s : State) (x : Mem) : (s.setStore x).snaps = s.snaps := rfl
@[simp] theorem setStore_agent (s : State) (x : Mem) : (s.setStore x).agent = s.agent := rfl
@[simp] theorem setStore_pending (s : State) (x : Mem) : (s.setStore x).pending = s.pending := rfl
@[simp] theorem setCfg_sys (s : State) (x : Mem) : (s.setCfg x).sys = s.sys := rfl
@[simp] theorem setCfg_mode (s : State) (x : Mem) : (s.setCfg x).mode = s.mode := rfl
@[simp] theorem setCfg_store (s : State) (x : Mem) : (s.setCfg x).store = s.store := rfl
@[simp] theorem setCfg_cfg (s : State) (x : Mem) : (s.setCfg x).cfg = x := rfl
@[simp] theorem setCfg_chassis (s : State) (x : Mem) : (s.setCfg x).chassis = s.chassis := rfl
@[simp] theorem setCfg_body (s : State) (x : Mem) : (s.setCfg x).body = s.body := rfl
@[simp] theorem setCfg_statusBuffer (s : State) (x : Mem) : (s.setCfg x).statusBuffer = s.statusBuffer := rfl
@[simp] theorem setCfg_control (s : State) (x : Mem) : (s.setCfg x).control = s.control := rfl
@[simp] theorem setCfg_routes (s : State) (x : Mem) : (s.setCfg x).routes = s.routes := rfl
@[simp] theorem setCfg_statusTimer (s : State) (x : Mem) : (s.setCfg x).statusTimer = s.statusTimer := rfl
@[simp] theorem setCfg_slots (s : State) (x : Mem) : (s.setCfg x).slots = s.slots := rfl
@[simp] theorem setCfg_signals (s : State) (x : Mem) : (s.setCfg x).signals = s.signals := rfl
@[simp] theorem setCfg_scanner (s : State) (x : Mem) : (s.setCfg x).scanner = s.scanner := rfl
@[simp] theorem setCfg_lifts (s : State) (x : Mem) : (s.setCfg x).lifts = s.lifts := rfl
@[simp] theorem setCfg_foreignCommands (s : State) (x : Mem) : (s.setCfg x).foreignCommands = s.foreignCommands := rfl
@[simp] theorem setCfg_markers (s : State) (x : Mem) : (s.setCfg x).markers = s.markers := rfl
@[simp] theorem setCfg_tags (s : State) (x : Mem) : (s.setCfg x).tags = s.tags := rfl
@[simp] theorem setCfg_weigh (s : State) (x : Mem) : (s.setCfg x).weigh = s.weigh := rfl
@[simp] theorem setCfg_zeros (s : State) (x : Mem) : (s.setCfg x).zeros = s.zeros := rfl
@[simp] theorem setCfg_table (s : State) (x : Mem) : (s.setCfg x).table = s.table := rfl
@[simp] theorem setCfg_billing (s : State) (x : Mem) : (s.setCfg x).billing = s.billing := rfl
@[simp] theorem setCfg_queue (s : State) (x : Mem) : (s.setCfg x).queue = s.queue := rfl
@[simp] theorem setCfg_arbiter (s : State) (x : Mem) : (s.setCfg x).arbiter = s.arbiter := rfl
@[simp] theorem setCfg_channels (s : State) (x : Mem) : (s.setCfg x).channels = s.channels := rfl
@[simp] theorem setCfg_toggles (s : State) (x : Mem) : (s.setCfg x).toggles = s.toggles := rfl
@[simp] theorem setCfg_packer (s : State) (x : Mem) : (s.setCfg x).packer = s.packer := rfl
@[simp] theorem setCfg_payload (s : State) (x : Mem) : (s.setCfg x).payload = s.payload := rfl
@[simp] theorem setCfg_tailgate (s : State) (x : Mem) : (s.setCfg x).tailgate = s.tailgate := rfl
@[simp] theorem setCfg_clock (s : State) (x : Mem) : (s.setCfg x).clock = s.clock := rfl
@[simp] theorem setCfg_snaps (s : State) (x : Mem) : (s.setCfg x).snaps = s.snaps := rfl
@[simp] theorem setCfg_agent (s : State) (x : Mem) : (s.setCfg x).agent = s.agent := rfl
@[simp] theorem setCfg_pending (s : State) (x : Mem) : (s.setCfg x).pending = s.pending := rfl
@[simp] theorem setChassis_sys (s : State) (x : PortState) : (s.setChassis x).sys = s.sys := rfl
@[simp] theorem setChassis_mode (s : State) (x : PortState) : (s.setChassis x).mode = s.mode := rfl
@[simp] theorem setChassis_store (s : State) (x : PortState) : (s.setChassis x).store = s.store := rfl
@[simp] theorem setChassis_cfg (s : State) (x : PortState) : (s.setChassis x).cfg = s.cfg := rfl
@[simp] theorem setChassis_chassis (s : State) (x : PortState) : (s.setChassis x).chassis = x := rfl
@[simp] theorem setChassis_body (s : State) (x : PortState) : (s.setChassis x).body = s.body := rfl
@[simp] theorem setChassis_statusBuffer (s : State) (x : PortState) : (s.setChassis x).statusBuffer = s.statusBuffer := rfl
@[simp] theorem setChassis_control (s : State) (x : PortState) : (s.setChassis x).control = s.control := rfl
@[simp] theorem setChassis_routes (s : State) (x : PortState) : (s.setChassis x).routes = s.routes := rfl
@[simp] theorem setChassis_statusTimer (s : State) (x : PortState) : (s.setChassis x).statusTimer = s.statusTimer := rfl
@[simp] theorem setChassis_slots (s : State) (x : PortState) : (s.setChassis x).slots = s.slots := rfl
@[simp] theorem setChassis_signals (s : State) (x : PortState) : (s.setChassis x).signals = s.signals := rfl
@[simp] theorem setChassis_scanner (s : State) (x : PortState) : (s.setChassis x).scanner = s.scanner := rfl
@[simp] theorem setChassis_lifts (s : State) (x : PortState) : (s.setChassis x).lifts = s.lifts := rfl
@[simp] theorem setChassis_foreignCommands (s : State) (x : PortState) : (s.setChassis x).foreignCommands = s.foreignCommands := rfl
@[simp] theorem setChassis_markers (s : State) (x : PortState) : (s.setChassis x).markers = s.markers := rfl
@[simp] theorem setChassis_tags (s : State) (x : PortState) : (s.setChassis x).tags = s.tags := rfl
@[simp] theorem setChassis_weigh (s : State) (x : PortState) : (s.setChassis x).weigh = s.weigh := rfl
@[simp] theorem setChassis_zeros (s : State) (x : PortState) : (s.setChassis x).zeros = s.zeros := rfl
@[simp] theorem setChassis_table (s : State) (x : PortState) : (s.setChassis x).table = s.table := rfl
@[simp] theorem setChassis_billing (s : State) (x : PortState) : (s.setChassis x).billing = s.billing := rfl
@[simp] theorem setChassis_queue (s : State) (x : PortState) : (s.setChassis x).queue = s.queue := rfl
@[simp] theorem setChassis_arbiter (s : State) (x : PortState) : (s.setChassis x).arbiter = s.arbiter := rfl
@[simp] theorem setChassis_channels (s : State) (x : PortState) : (s.setChassis x).channels = s.channels := rfl
@[simp] theorem setChassis_toggles (s : State) (x : PortState) : (s.setChassis x).toggles = s.toggles := rfl
@[simp] theorem setChassis_packer (s : State) (x : PortState) : (s.setChassis x).packer = s.packer := rfl
@[simp] theorem setChassis_payload (s : State) (x : PortState) : (s.setChassis x).payload = s.payload := rfl
@[simp] theorem setChassis_tailgate (s : State) (x : PortState) : (s.setChassis x).tailgate = s.tailgate := rfl
@[simp] theorem setChassis_clock (s : State) (x : PortState) : (s.setChassis x).clock = s.clock := rfl
@[simp] theorem setChassis_snaps (s : State) (x : PortState) : (s.setChassis x).snaps = s.snaps := rfl
@[simp] theorem setChassis_agent (s : State) (x : PortState) : (s.setChassis x).agent = s.agent := rfl
@[simp] theorem setChassis_pending (s : State) (x : PortState) : (s.setChassis x).pending = s.pending := rfl
@[simp] theorem setBody_sys (s : State) (x : PortState) : (s.setBody x).sys = s.sys := rfl
@[simp] theorem setBody_mode (s : State) (x : PortState) : (s.setBody x).mode = s.mode := rfl
@[simp] theorem setBody_store (s : State) (x : PortState) : (s.setBody x).store = s.store := rfl
@[simp] theorem setBody_cfg (s : State) (x : PortState) : (s.setBody x).cfg = s.cfg := rfl
@[simp] theorem setBody_chassis (s : State) (x : PortState) : (s.setBody x).chassis = s.chassis := rfl
@[simp] theorem setBody_body (s : State) (x : PortState) : (s.setBody x).body = x := rfl
@[simp] theorem setBody_statusBuffer (s : State) (x : PortState) : (s.setBody x).statusBuffer = s.statusBuffer := rfl
@[simp] theorem setBody_control (s : State) (x : PortState) : (s.setBody x).control = s.control := rfl
@[simp] theorem setBody_routes (s : State) (x : PortState) : (s.setBody x).routes = s.routes := rfl
@[simp] theorem setBody_statusTimer (s : State) (x : PortState) : (s.setBody x).statusTimer = s.statusTimer := rfl
@[simp] theorem setBody_slots (s : State) (x : PortState) : (s.setBody x).slots = s.slots := rfl
@[simp] theorem setBody_signals (s : State) (x : PortState) : (s.setBody x).signals = s.signals := rfl
@[simp] theorem setBody_scanner (s : State) (x : PortState) : (s.setBody x).scanner = s.scanner := rfl
@[simp] theorem setBody_lifts (s : State) (x : PortState) : (s.setBody x).lifts = s.lifts := rfl
@[simp] theorem setBody_foreignCommands (s : State) (x : PortState) : (s.setBody x).foreignCommands = s.foreignCommands := rfl
@[simp] theorem setBody_markers (s : State) (x : PortState) : (s.setBody x).markers = s.markers := rfl
@[simp] theorem setBody_tags (s : State) (x : PortState) : (s.setBody x).tags = s.tags := rfl
@[simp] theorem setBody_weigh (s : State) (x : PortState) : (s.setBody x).weigh = s.weigh := rfl
@[simp] theorem setBody_zeros (s : State) (x : PortState) : (s.setBody x).zeros = s.zeros := rfl
@[simp] theorem setBody_table (s : State) (x : PortState) : (s.setBody x).table = s.table := rfl
@[simp] theorem setBody_billing (s : State) (x : PortState) : (s.setBody x).billing = s.billing := rfl
@[simp] theorem setBody_queue (s : State) (x : PortState) : (s.setBody x).queue = s.queue := rfl
@[simp] theorem setBody_arbiter (s : State) (x : PortState) : (s.setBody x).arbiter = s.arbiter := rfl
@[simp] theorem setBody_channels (s : State) (x : PortState) : (s.setBody x).channels = s.channels := rfl
@[simp] theorem setBody_toggles (s : State) (x : PortState) : (s.setBody x).toggles = s.toggles := rfl
@[simp] theorem setBody_packer (s : State) (x : PortState) : (s.setBody x).packer = s.packer := rfl
@[simp] theorem setBody_payload (s : State) (x : PortState) : (s.setBody x).payload = s.payload := rfl
@[simp] theorem setBody_tailgate (s : State) (x : PortState) : (s.setBody x).tailgate = s.tailgate := rfl
@[simp] theorem setBody_clock (s : State) (x : PortState) : (s.setBody x).clock = s.clock := rfl
@[simp] theorem setBody_snaps (s : State) (x : PortState) : (s.setBody x).snaps = s.snaps := rfl
@[simp] theorem setBody_agent (s : State) (x : PortState) : (s.setBody x).agent = s.agent := rfl
@[simp] theorem setBody_pending (s : State) (x : PortState) : (s.setBody x).pending = s.pending := rfl
@[simp] theorem setStatusBuffer_sys (s : State) (x : Option Frame) : (s.setStatusBuffer x).sys = s.sys := rfl
@[simp] theorem setStatusBuffer_mode (s : State) (x : Option Frame) : (s.setStatusBuffer x).mode = s.mode := rfl
@[simp] theorem setStatusBuffer_store (s : State) (x : Option Frame) : (s.setStatusBuffer x).store = s.store := rfl
@[simp] theorem setStatusBuffer_cfg (s : State) (x : Option Frame) : (s.setStatusBuffer x).cfg = s.cfg := rfl
@[simp] theorem setStatusBuffer_chassis (s : State) (x : Option Frame) : (s.setStatusBuffer x).chassis = s.chassis := rfl
@[simp] theorem setStatusBuffer_body (s : State) (x : Option Frame) : (s.setStatusBuffer x).body = s.body := rfl
@[simp] theorem setStatusBuffer_statusBuffer (s : State) (x : Option Frame) : (s.setStatusBuffer x).statusBuffer = x := rfl
@[simp] theorem setStatusBuffer_control (s : State) (x : Option Frame) : (s.setStatusBuffer x).control = s.control := rfl
@[simp] theorem setStatusBuffer_routes (s : State) (x : Option Frame) : (s.setStatusBuffer x).routes = s.routes := rfl
@[simp] theorem setStatusBuffer_statusTimer (s : State) (x : Option Frame) : (s.setStatusBuffer x).statusTimer = s.statusTimer := rfl
@[simp] theorem setStatusBuffer_slots (s : State) (x : Option Frame) : (s.setStatusBuffer x).slots = s.slots := rfl
@[simp] theorem setStatusBuffer_signals (s : State) (x : Option Frame) : (s.setStatusBuffer x).signals = s.signals := rfl
@[simp] theorem setStatusBuffer_scanner (s : State) (x : Option Frame) : (s.setStatusBuffer x).scanner = s.scanner := rfl
@[simp] theorem setStatusBuffer_lifts (s : State) (x : Option Frame) : (s.setStatusBuffer x).lifts = s.lifts := rfl
@[simp] theorem setStatusBuffer_foreignCommands (s : State) (x : Option Frame) : (s.setStatusBuffer x).foreignCommands = s.foreignCommands := rfl
@[simp] theorem setStatusBuffer_markers (s : State) (x : Option Frame) : (s.setStatusBuffer x).markers = s.markers := rfl
@[simp] theorem setStatusBuffer_tags (s : State) (x : Option Frame) : (s.setStatusBuffer x).tags = s.tags := rfl
@[simp] theorem setStatusBuffer_weigh (s : State) (x : Option Frame) : (s.setStatusBuffer x).weigh = s.weigh := rfl
@[simp] theorem setStatusBuffer_zeros (s : State) (x : Option Frame) : (s.setStatusBuffer x).zeros = s.zeros := rfl
@[simp] theorem setStatusBuffer_table (s : State) (x : Option Frame) : (s.setStatusBuffer x).table = s.table := rfl
@[simp] theorem setStatusBuffer_billing (s : State) (x : Option Frame) : (s.setStatusBuffer x).billing = s.billing := rfl
@[simp] theorem setStatusBuffer_queue (s : State) (x : Option Frame) : (s.setStatusBuffer x).queue = s.queue := rfl
@[simp] theorem setStatusBuffer_arbiter (s : State) (x : Option Frame) : (s.setStatusBuffer x).arbiter = s.arbiter := rfl
@[simp] theorem setStatusBuffer_channels (s : State) (x : Option Frame) : (s.setStatusBuffer x).channels = s.channels := rfl
@[simp] theorem setStatusBuffer_toggles (s : State) (x : Option Frame) : (s.setStatusBuffer x).toggles = s.toggles := rfl
@[simp] theorem setStatusBuffer_packer (s : State) (x : Option Frame) : (s.setStatusBuffer x).packer = s.packer := rfl
@[simp] theorem setStatusBuffer_payload (s : State) (x : Option Frame) : (s.setStatusBuffer x).payload = s.payload := rfl
@[simp] theorem setStatusBuffer_tailgate (s : State) (x : Option Frame) : (s.setStatusBuffer x).tailgate = s.tailgate := rfl
@[simp] theorem setStatusBuffer_clock (s : State) (x : Option Frame) : (s.setStatusBuffer x).clock = s.clock := rfl
@[simp] theorem setStatusBuffer_snaps (s : State) (x : Option Frame) : (s.setStatusBuffer x).snaps = s.snaps := rfl
@[simp] theorem setStatusBuffer_agent (s : State) (x : Option Frame) : (s.setStatusBuffer x).agent = s.agent := rfl
@[simp] theorem setStatusBuffer_pending (s : State) (x : Option Frame) : (s.setStatusBuffer x).pending = s.pending := rfl
@[simp] theorem setControl_sys (s : State) (x : List CtrlFrame) : (s.setControl x).sys = s.sys := rfl
@[simp] theorem setControl_mode (s : State) (x : List CtrlFrame) : (s.setControl x).mode = s.mode := rfl
@[simp] theorem setControl_store (s : State) (x : List CtrlFrame) : (s.setControl x).store = s.store := rfl
@[simp] theorem setControl_cfg (s : State) (x : List CtrlFrame) : (s.setControl x).cfg = s.cfg := rfl
@[simp] theorem setControl_chassis (s : State) (x : List CtrlFrame) : (s.setControl x).chassis = s.chassis := rfl
@[simp] theorem setControl_body (s : State) (x : List CtrlFrame) : (s.setControl x).body = s.body := rfl
@[simp] theorem setControl_statusBuffer (s : State) (x : List CtrlFrame) : (s.setControl x).statusBuffer = s.statusBuffer := rfl
@[simp] theorem setControl_control (s : State) (x : List CtrlFrame) : (s.setControl x).control = x := rfl
@[simp] theorem setControl_routes (s : State) (x : List CtrlFrame) : (s.setControl x).routes = s.routes := rfl
@[simp] theorem setControl_statusTimer (s : State) (x : List CtrlFrame) : (s.setControl x).statusTimer = s.statusTimer := rfl
@[simp] theorem setControl_slots (s : State) (x : List CtrlFrame) : (s.setControl x).slots = s.slots := rfl
@[simp] theorem setControl_signals (s : State) (x : List CtrlFrame) : (s.setControl x).signals = s.signals := rfl
@[simp] theorem setControl_scanner (s : State) (x : List CtrlFrame) : (s.setControl x).scanner = s.scanner := rfl
@[simp] theorem setControl_lifts (s : State) (x : List CtrlFrame) : (s.setControl x).lifts = s.lifts := rfl
@[simp] theorem setControl_foreignCommands (s : State) (x : List CtrlFrame) : (s.setControl x).foreignCommands = s.foreignCommands := rfl
@[simp] theorem setControl_markers (s : State) (x : List CtrlFrame) : (s.setControl x).markers = s.markers := rfl
@[simp] theorem setControl_tags (s : State) (x : List CtrlFrame) : (s.setControl x).tags = s.tags := rfl
@[simp] theorem setControl_weigh (s : State) (x : List CtrlFrame) : (s.setControl x).weigh = s.weigh := rfl
@[simp] theorem setControl_zeros (s : State) (x : List CtrlFrame) : (s.setControl x).zeros = s.zeros := rfl
@[simp] theorem setControl_table (s : State) (x : List CtrlFrame) : (s.setControl x).table = s.table := rfl
@[simp] theorem setControl_billing (s : State) (x : List CtrlFrame) : (s.setControl x).billing = s.billing := rfl
@[simp] theorem setControl_queue (s : State) (x : List CtrlFrame) : (s.setControl x).queue = s.queue := rfl
@[simp] theorem setControl_arbiter (s : State) (x : List CtrlFrame) : (s.setControl x).arbiter = s.arbiter := rfl
@[simp] theorem setControl_channels (s : State) (x : List CtrlFrame) : (s.setControl x).channels = s.channels := rfl
@[simp] theorem setControl_toggles (s : State) (x : List CtrlFrame) : (s.setControl x).toggles = s.toggles := rfl
@[simp] theorem setControl_packer (s : State) (x : List CtrlFrame) : (s.setControl x).packer = s.packer := rfl
@[simp] theorem setControl_payload (s : State) (x : List CtrlFrame) : (s.setControl x).payload = s.payload := rfl
@[simp] theorem setControl_tailgate (s : State) (x : List CtrlFrame) : (s.setControl x).tailgate = s.tailgate := rfl
@[simp] theorem setControl_clock (s : State) (x : List CtrlFrame) : (s.setControl x).clock = s.clock := rfl
@[simp] theorem setControl_snaps (s : State) (x : List CtrlFrame) : (s.setControl x).snaps = s.snaps := rfl
@[simp] theorem setControl_agent (s : State) (x : List CtrlFrame) : (s.setControl x).agent = s.agent := rfl
@[simp] theorem setControl_pending (s : State) (x : List CtrlFrame) : (s.setControl x).pending = s.pending := rfl
@[simp] theorem setRoutes_sys (s : State) (x : Vector RouteState 64) : (s.setRoutes x).sys = s.sys := rfl
@[simp] theorem setRoutes_mode (s : State) (x : Vector RouteState 64) : (s.setRoutes x).mode = s.mode := rfl
@[simp] theorem setRoutes_store (s : State) (x : Vector RouteState 64) : (s.setRoutes x).store = s.store := rfl
@[simp] theorem setRoutes_cfg (s : State) (x : Vector RouteState 64) : (s.setRoutes x).cfg = s.cfg := rfl
@[simp] theorem setRoutes_chassis (s : State) (x : Vector RouteState 64) : (s.setRoutes x).chassis = s.chassis := rfl
@[simp] theorem setRoutes_body (s : State) (x : Vector RouteState 64) : (s.setRoutes x).body = s.body := rfl
@[simp] theorem setRoutes_statusBuffer (s : State) (x : Vector RouteState 64) : (s.setRoutes x).statusBuffer = s.statusBuffer := rfl
@[simp] theorem setRoutes_control (s : State) (x : Vector RouteState 64) : (s.setRoutes x).control = s.control := rfl
@[simp] theorem setRoutes_routes (s : State) (x : Vector RouteState 64) : (s.setRoutes x).routes = x := rfl
@[simp] theorem setRoutes_statusTimer (s : State) (x : Vector RouteState 64) : (s.setRoutes x).statusTimer = s.statusTimer := rfl
@[simp] theorem setRoutes_slots (s : State) (x : Vector RouteState 64) : (s.setRoutes x).slots = s.slots := rfl
@[simp] theorem setRoutes_signals (s : State) (x : Vector RouteState 64) : (s.setRoutes x).signals = s.signals := rfl
@[simp] theorem setRoutes_scanner (s : State) (x : Vector RouteState 64) : (s.setRoutes x).scanner = s.scanner := rfl
@[simp] theorem setRoutes_lifts (s : State) (x : Vector RouteState 64) : (s.setRoutes x).lifts = s.lifts := rfl
@[simp] theorem setRoutes_foreignCommands (s : State) (x : Vector RouteState 64) : (s.setRoutes x).foreignCommands = s.foreignCommands := rfl
@[simp] theorem setRoutes_markers (s : State) (x : Vector RouteState 64) : (s.setRoutes x).markers = s.markers := rfl
@[simp] theorem setRoutes_tags (s : State) (x : Vector RouteState 64) : (s.setRoutes x).tags = s.tags := rfl
@[simp] theorem setRoutes_weigh (s : State) (x : Vector RouteState 64) : (s.setRoutes x).weigh = s.weigh := rfl
@[simp] theorem setRoutes_zeros (s : State) (x : Vector RouteState 64) : (s.setRoutes x).zeros = s.zeros := rfl
@[simp] theorem setRoutes_table (s : State) (x : Vector RouteState 64) : (s.setRoutes x).table = s.table := rfl
@[simp] theorem setRoutes_billing (s : State) (x : Vector RouteState 64) : (s.setRoutes x).billing = s.billing := rfl
@[simp] theorem setRoutes_queue (s : State) (x : Vector RouteState 64) : (s.setRoutes x).queue = s.queue := rfl
@[simp] theorem setRoutes_arbiter (s : State) (x : Vector RouteState 64) : (s.setRoutes x).arbiter = s.arbiter := rfl
@[simp] theorem setRoutes_channels (s : State) (x : Vector RouteState 64) : (s.setRoutes x).channels = s.channels := rfl
@[simp] theorem setRoutes_toggles (s : State) (x : Vector RouteState 64) : (s.setRoutes x).toggles = s.toggles := rfl
@[simp] theorem setRoutes_packer (s : State) (x : Vector RouteState 64) : (s.setRoutes x).packer = s.packer := rfl
@[simp] theorem setRoutes_payload (s : State) (x : Vector RouteState 64) : (s.setRoutes x).payload = s.payload := rfl
@[simp] theorem setRoutes_tailgate (s : State) (x : Vector RouteState 64) : (s.setRoutes x).tailgate = s.tailgate := rfl
@[simp] theorem setRoutes_clock (s : State) (x : Vector RouteState 64) : (s.setRoutes x).clock = s.clock := rfl
@[simp] theorem setRoutes_snaps (s : State) (x : Vector RouteState 64) : (s.setRoutes x).snaps = s.snaps := rfl
@[simp] theorem setRoutes_agent (s : State) (x : Vector RouteState 64) : (s.setRoutes x).agent = s.agent := rfl
@[simp] theorem setRoutes_pending (s : State) (x : Vector RouteState 64) : (s.setRoutes x).pending = s.pending := rfl
@[simp] theorem setStatusTimer_sys (s : State) (x : Timer) : (s.setStatusTimer x).sys = s.sys := rfl
@[simp] theorem setStatusTimer_mode (s : State) (x : Timer) : (s.setStatusTimer x).mode = s.mode := rfl
@[simp] theorem setStatusTimer_store (s : State) (x : Timer) : (s.setStatusTimer x).store = s.store := rfl
@[simp] theorem setStatusTimer_cfg (s : State) (x : Timer) : (s.setStatusTimer x).cfg = s.cfg := rfl
@[simp] theorem setStatusTimer_chassis (s : State) (x : Timer) : (s.setStatusTimer x).chassis = s.chassis := rfl
@[simp] theorem setStatusTimer_body (s : State) (x : Timer) : (s.setStatusTimer x).body = s.body := rfl
@[simp] theorem setStatusTimer_statusBuffer (s : State) (x : Timer) : (s.setStatusTimer x).statusBuffer = s.statusBuffer := rfl
@[simp] theorem setStatusTimer_control (s : State) (x : Timer) : (s.setStatusTimer x).control = s.control := rfl
@[simp] theorem setStatusTimer_routes (s : State) (x : Timer) : (s.setStatusTimer x).routes = s.routes := rfl
@[simp] theorem setStatusTimer_statusTimer (s : State) (x : Timer) : (s.setStatusTimer x).statusTimer = x := rfl
@[simp] theorem setStatusTimer_slots (s : State) (x : Timer) : (s.setStatusTimer x).slots = s.slots := rfl
@[simp] theorem setStatusTimer_signals (s : State) (x : Timer) : (s.setStatusTimer x).signals = s.signals := rfl
@[simp] theorem setStatusTimer_scanner (s : State) (x : Timer) : (s.setStatusTimer x).scanner = s.scanner := rfl
@[simp] theorem setStatusTimer_lifts (s : State) (x : Timer) : (s.setStatusTimer x).lifts = s.lifts := rfl
@[simp] theorem setStatusTimer_foreignCommands (s : State) (x : Timer) : (s.setStatusTimer x).foreignCommands = s.foreignCommands := rfl
@[simp] theorem setStatusTimer_markers (s : State) (x : Timer) : (s.setStatusTimer x).markers = s.markers := rfl
@[simp] theorem setStatusTimer_tags (s : State) (x : Timer) : (s.setStatusTimer x).tags = s.tags := rfl
@[simp] theorem setStatusTimer_weigh (s : State) (x : Timer) : (s.setStatusTimer x).weigh = s.weigh := rfl
@[simp] theorem setStatusTimer_zeros (s : State) (x : Timer) : (s.setStatusTimer x).zeros = s.zeros := rfl
@[simp] theorem setStatusTimer_table (s : State) (x : Timer) : (s.setStatusTimer x).table = s.table := rfl
@[simp] theorem setStatusTimer_billing (s : State) (x : Timer) : (s.setStatusTimer x).billing = s.billing := rfl
@[simp] theorem setStatusTimer_queue (s : State) (x : Timer) : (s.setStatusTimer x).queue = s.queue := rfl
@[simp] theorem setStatusTimer_arbiter (s : State) (x : Timer) : (s.setStatusTimer x).arbiter = s.arbiter := rfl
@[simp] theorem setStatusTimer_channels (s : State) (x : Timer) : (s.setStatusTimer x).channels = s.channels := rfl
@[simp] theorem setStatusTimer_toggles (s : State) (x : Timer) : (s.setStatusTimer x).toggles = s.toggles := rfl
@[simp] theorem setStatusTimer_packer (s : State) (x : Timer) : (s.setStatusTimer x).packer = s.packer := rfl
@[simp] theorem setStatusTimer_payload (s : State) (x : Timer) : (s.setStatusTimer x).payload = s.payload := rfl
@[simp] theorem setStatusTimer_tailgate (s : State) (x : Timer) : (s.setStatusTimer x).tailgate = s.tailgate := rfl
@[simp] theorem setStatusTimer_clock (s : State) (x : Timer) : (s.setStatusTimer x).clock = s.clock := rfl
@[simp] theorem setStatusTimer_snaps (s : State) (x : Timer) : (s.setStatusTimer x).snaps = s.snaps := rfl
@[simp] theorem setStatusTimer_agent (s : State) (x : Timer) : (s.setStatusTimer x).agent = s.agent := rfl
@[simp] theorem setStatusTimer_pending (s : State) (x : Timer) : (s.setStatusTimer x).pending = s.pending := rfl
@[simp] theorem setSlots_sys (s : State) (x : Vector Slot 6) : (s.setSlots x).sys = s.sys := rfl
@[simp] theorem setSlots_mode (s : State) (x : Vector Slot 6) : (s.setSlots x).mode = s.mode := rfl
@[simp] theorem setSlots_store (s : State) (x : Vector Slot 6) : (s.setSlots x).store = s.store := rfl
@[simp] theorem setSlots_cfg (s : State) (x : Vector Slot 6) : (s.setSlots x).cfg = s.cfg := rfl
@[simp] theorem setSlots_chassis (s : State) (x : Vector Slot 6) : (s.setSlots x).chassis = s.chassis := rfl
@[simp] theorem setSlots_body (s : State) (x : Vector Slot 6) : (s.setSlots x).body = s.body := rfl
@[simp] theorem setSlots_statusBuffer (s : State) (x : Vector Slot 6) : (s.setSlots x).statusBuffer = s.statusBuffer := rfl
@[simp] theorem setSlots_control (s : State) (x : Vector Slot 6) : (s.setSlots x).control = s.control := rfl
@[simp] theorem setSlots_routes (s : State) (x : Vector Slot 6) : (s.setSlots x).routes = s.routes := rfl
@[simp] theorem setSlots_statusTimer (s : State) (x : Vector Slot 6) : (s.setSlots x).statusTimer = s.statusTimer := rfl
@[simp] theorem setSlots_slots (s : State) (x : Vector Slot 6) : (s.setSlots x).slots = x := rfl
@[simp] theorem setSlots_signals (s : State) (x : Vector Slot 6) : (s.setSlots x).signals = s.signals := rfl
@[simp] theorem setSlots_scanner (s : State) (x : Vector Slot 6) : (s.setSlots x).scanner = s.scanner := rfl
@[simp] theorem setSlots_lifts (s : State) (x : Vector Slot 6) : (s.setSlots x).lifts = s.lifts := rfl
@[simp] theorem setSlots_foreignCommands (s : State) (x : Vector Slot 6) : (s.setSlots x).foreignCommands = s.foreignCommands := rfl
@[simp] theorem setSlots_markers (s : State) (x : Vector Slot 6) : (s.setSlots x).markers = s.markers := rfl
@[simp] theorem setSlots_tags (s : State) (x : Vector Slot 6) : (s.setSlots x).tags = s.tags := rfl
@[simp] theorem setSlots_weigh (s : State) (x : Vector Slot 6) : (s.setSlots x).weigh = s.weigh := rfl
@[simp] theorem setSlots_zeros (s : State) (x : Vector Slot 6) : (s.setSlots x).zeros = s.zeros := rfl
@[simp] theorem setSlots_table (s : State) (x : Vector Slot 6) : (s.setSlots x).table = s.table := rfl
@[simp] theorem setSlots_billing (s : State) (x : Vector Slot 6) : (s.setSlots x).billing = s.billing := rfl
@[simp] theorem setSlots_queue (s : State) (x : Vector Slot 6) : (s.setSlots x).queue = s.queue := rfl
@[simp] theorem setSlots_arbiter (s : State) (x : Vector Slot 6) : (s.setSlots x).arbiter = s.arbiter := rfl
@[simp] theorem setSlots_channels (s : State) (x : Vector Slot 6) : (s.setSlots x).channels = s.channels := rfl
@[simp] theorem setSlots_toggles (s : State) (x : Vector Slot 6) : (s.setSlots x).toggles = s.toggles := rfl
@[simp] theorem setSlots_packer (s : State) (x : Vector Slot 6) : (s.setSlots x).packer = s.packer := rfl
@[simp] theorem setSlots_payload (s : State) (x : Vector Slot 6) : (s.setSlots x).payload = s.payload := rfl
@[simp] theorem setSlots_tailgate (s : State) (x : Vector Slot 6) : (s.setSlots x).tailgate = s.tailgate := rfl
@[simp] theorem setSlots_clock (s : State) (x : Vector Slot 6) : (s.setSlots x).clock = s.clock := rfl
@[simp] theorem setSlots_snaps (s : State) (x : Vector Slot 6) : (s.setSlots x).snaps = s.snaps := rfl
@[simp] theorem setSlots_agent (s : State) (x : Vector Slot 6) : (s.setSlots x).agent = s.agent := rfl
@[simp] theorem setSlots_pending (s : State) (x : Vector Slot 6) : (s.setSlots x).pending = s.pending := rfl
@[simp] theorem setSignals_sys (s : State) (x : Signals) : (s.setSignals x).sys = s.sys := rfl
@[simp] theorem setSignals_mode (s : State) (x : Signals) : (s.setSignals x).mode = s.mode := rfl
@[simp] theorem setSignals_store (s : State) (x : Signals) : (s.setSignals x).store = s.store := rfl
@[simp] theorem setSignals_cfg (s : State) (x : Signals) : (s.setSignals x).cfg = s.cfg := rfl
@[simp] theorem setSignals_chassis (s : State) (x : Signals) : (s.setSignals x).chassis = s.chassis := rfl
@[simp] theorem setSignals_body (s : State) (x : Signals) : (s.setSignals x).body = s.body := rfl
@[simp] theorem setSignals_statusBuffer (s : State) (x : Signals) : (s.setSignals x).statusBuffer = s.statusBuffer := rfl
@[simp] theorem setSignals_control (s : State) (x : Signals) : (s.setSignals x).control = s.control := rfl
@[simp] theorem setSignals_routes (s : State) (x : Signals) : (s.setSignals x).routes = s.routes := rfl
@[simp] theorem setSignals_statusTimer (s : State) (x : Signals) : (s.setSignals x).statusTimer = s.statusTimer := rfl
@[simp] theorem setSignals_slots (s : State) (x : Signals) : (s.setSignals x).slots = s.slots := rfl
@[simp] theorem setSignals_signals (s : State) (x : Signals) : (s.setSignals x).signals = x := rfl
@[simp] theorem setSignals_scanner (s : State) (x : Signals) : (s.setSignals x).scanner = s.scanner := rfl
@[simp] theorem setSignals_lifts (s : State) (x : Signals) : (s.setSignals x).lifts = s.lifts := rfl
@[simp] theorem setSignals_foreignCommands (s : State) (x : Signals) : (s.setSignals x).foreignCommands = s.foreignCommands := rfl
@[simp] theorem setSignals_markers (s : State) (x : Signals) : (s.setSignals x).markers = s.markers := rfl
@[simp] theorem setSignals_tags (s : State) (x : Signals) : (s.setSignals x).tags = s.tags := rfl
@[simp] theorem setSignals_weigh (s : State) (x : Signals) : (s.setSignals x).weigh = s.weigh := rfl
@[simp] theorem setSignals_zeros (s : State) (x : Signals) : (s.setSignals x).zeros = s.zeros := rfl
@[simp] theorem setSignals_table (s : State) (x : Signals) : (s.setSignals x).table = s.table := rfl
@[simp] theorem setSignals_billing (s : State) (x : Signals) : (s.setSignals x).billing = s.billing := rfl
@[simp] theorem setSignals_queue (s : State) (x : Signals) : (s.setSignals x).queue = s.queue := rfl
@[simp] theorem setSignals_arbiter (s : State) (x : Signals) : (s.setSignals x).arbiter = s.arbiter := rfl
@[simp] theorem setSignals_channels (s : State) (x : Signals) : (s.setSignals x).channels = s.channels := rfl
@[simp] theorem setSignals_toggles (s : State) (x : Signals) : (s.setSignals x).toggles = s.toggles := rfl
@[simp] theorem setSignals_packer (s : State) (x : Signals) : (s.setSignals x).packer = s.packer := rfl
@[simp] theorem setSignals_payload (s : State) (x : Signals) : (s.setSignals x).payload = s.payload := rfl
@[simp] theorem setSignals_tailgate (s : State) (x : Signals) : (s.setSignals x).tailgate = s.tailgate := rfl
@[simp] theorem setSignals_clock (s : State) (x : Signals) : (s.setSignals x).clock = s.clock := rfl
@[simp] theorem setSignals_snaps (s : State) (x : Signals) : (s.setSignals x).snaps = s.snaps := rfl
@[simp] theorem setSignals_agent (s : State) (x : Signals) : (s.setSignals x).agent = s.agent := rfl
@[simp] theorem setSignals_pending (s : State) (x : Signals) : (s.setSignals x).pending = s.pending := rfl
@[simp] theorem setScanner_sys (s : State) (x : Scanner) : (s.setScanner x).sys = s.sys := rfl
@[simp] theorem setScanner_mode (s : State) (x : Scanner) : (s.setScanner x).mode = s.mode := rfl
@[simp] theorem setScanner_store (s : State) (x : Scanner) : (s.setScanner x).store = s.store := rfl
@[simp] theorem setScanner_cfg (s : State) (x : Scanner) : (s.setScanner x).cfg = s.cfg := rfl
@[simp] theorem setScanner_chassis (s : State) (x : Scanner) : (s.setScanner x).chassis = s.chassis := rfl
@[simp] theorem setScanner_body (s : State) (x : Scanner) : (s.setScanner x).body = s.body := rfl
@[simp] theorem setScanner_statusBuffer (s : State) (x : Scanner) : (s.setScanner x).statusBuffer = s.statusBuffer := rfl
@[simp] theorem setScanner_control (s : State) (x : Scanner) : (s.setScanner x).control = s.control := rfl
@[simp] theorem setScanner_routes (s : State) (x : Scanner) : (s.setScanner x).routes = s.routes := rfl
@[simp] theorem setScanner_statusTimer (s : State) (x : Scanner) : (s.setScanner x).statusTimer = s.statusTimer := rfl
@[simp] theorem setScanner_slots (s : State) (x : Scanner) : (s.setScanner x).slots = s.slots := rfl
@[simp] theorem setScanner_signals (s : State) (x : Scanner) : (s.setScanner x).signals = s.signals := rfl
@[simp] theorem setScanner_scanner (s : State) (x : Scanner) : (s.setScanner x).scanner = x := rfl
@[simp] theorem setScanner_lifts (s : State) (x : Scanner) : (s.setScanner x).lifts = s.lifts := rfl
@[simp] theorem setScanner_foreignCommands (s : State) (x : Scanner) : (s.setScanner x).foreignCommands = s.foreignCommands := rfl
@[simp] theorem setScanner_markers (s : State) (x : Scanner) : (s.setScanner x).markers = s.markers := rfl
@[simp] theorem setScanner_tags (s : State) (x : Scanner) : (s.setScanner x).tags = s.tags := rfl
@[simp] theorem setScanner_weigh (s : State) (x : Scanner) : (s.setScanner x).weigh = s.weigh := rfl
@[simp] theorem setScanner_zeros (s : State) (x : Scanner) : (s.setScanner x).zeros = s.zeros := rfl
@[simp] theorem setScanner_table (s : State) (x : Scanner) : (s.setScanner x).table = s.table := rfl
@[simp] theorem setScanner_billing (s : State) (x : Scanner) : (s.setScanner x).billing = s.billing := rfl
@[simp] theorem setScanner_queue (s : State) (x : Scanner) : (s.setScanner x).queue = s.queue := rfl
@[simp] theorem setScanner_arbiter (s : State) (x : Scanner) : (s.setScanner x).arbiter = s.arbiter := rfl
@[simp] theorem setScanner_channels (s : State) (x : Scanner) : (s.setScanner x).channels = s.channels := rfl
@[simp] theorem setScanner_toggles (s : State) (x : Scanner) : (s.setScanner x).toggles = s.toggles := rfl
@[simp] theorem setScanner_packer (s : State) (x : Scanner) : (s.setScanner x).packer = s.packer := rfl
@[simp] theorem setScanner_payload (s : State) (x : Scanner) : (s.setScanner x).payload = s.payload := rfl
@[simp] theorem setScanner_tailgate (s : State) (x : Scanner) : (s.setScanner x).tailgate = s.tailgate := rfl
@[simp] theorem setScanner_clock (s : State) (x : Scanner) : (s.setScanner x).clock = s.clock := rfl
@[simp] theorem setScanner_snaps (s : State) (x : Scanner) : (s.setScanner x).snaps = s.snaps := rfl
@[simp] theorem setScanner_agent (s : State) (x : Scanner) : (s.setScanner x).agent = s.agent := rfl
@[simp] theorem setScanner_pending (s : State) (x : Scanner) : (s.setScanner x).pending = s.pending := rfl
@[simp] theorem setLifts_sys (s : State) (x : Tri Lift) : (s.setLifts x).sys = s.sys := rfl
@[simp] theorem setLifts_mode (s : State) (x : Tri Lift) : (s.setLifts x).mode = s.mode := rfl
@[simp] theorem setLifts_store (s : State) (x : Tri Lift) : (s.setLifts x).store = s.store := rfl
@[simp] theorem setLifts_cfg (s : State) (x : Tri Lift) : (s.setLifts x).cfg = s.cfg := rfl
@[simp] theorem setLifts_chassis (s : State) (x : Tri Lift) : (s.setLifts x).chassis = s.chassis := rfl
@[simp] theorem setLifts_body (s : State) (x : Tri Lift) : (s.setLifts x).body = s.body := rfl
@[simp] theorem setLifts_statusBuffer (s : State) (x : Tri Lift) : (s.setLifts x).statusBuffer = s.statusBuffer := rfl
@[simp] theorem setLifts_control (s : State) (x : Tri Lift) : (s.setLifts x).control = s.control := rfl
@[simp] theorem setLifts_routes (s : State) (x : Tri Lift) : (s.setLifts x).routes = s.routes := rfl
@[simp] theorem setLifts_statusTimer (s : State) (x : Tri Lift) : (s.setLifts x).statusTimer = s.statusTimer := rfl
@[simp] theorem setLifts_slots (s : State) (x : Tri Lift) : (s.setLifts x).slots = s.slots := rfl
@[simp] theorem setLifts_signals (s : State) (x : Tri Lift) : (s.setLifts x).signals = s.signals := rfl
@[simp] theorem setLifts_scanner (s : State) (x : Tri Lift) : (s.setLifts x).scanner = s.scanner := rfl
@[simp] theorem setLifts_lifts (s : State) (x : Tri Lift) : (s.setLifts x).lifts = x := rfl
@[simp] theorem setLifts_foreignCommands (s : State) (x : Tri Lift) : (s.setLifts x).foreignCommands = s.foreignCommands := rfl
@[simp] theorem setLifts_markers (s : State) (x : Tri Lift) : (s.setLifts x).markers = s.markers := rfl
@[simp] theorem setLifts_tags (s : State) (x : Tri Lift) : (s.setLifts x).tags = s.tags := rfl
@[simp] theorem setLifts_weigh (s : State) (x : Tri Lift) : (s.setLifts x).weigh = s.weigh := rfl
@[simp] theorem setLifts_zeros (s : State) (x : Tri Lift) : (s.setLifts x).zeros = s.zeros := rfl
@[simp] theorem setLifts_table (s : State) (x : Tri Lift) : (s.setLifts x).table = s.table := rfl
@[simp] theorem setLifts_billing (s : State) (x : Tri Lift) : (s.setLifts x).billing = s.billing := rfl
@[simp] theorem setLifts_queue (s : State) (x : Tri Lift) : (s.setLifts x).queue = s.queue := rfl
@[simp] theorem setLifts_arbiter (s : State) (x : Tri Lift) : (s.setLifts x).arbiter = s.arbiter := rfl
@[simp] theorem setLifts_channels (s : State) (x : Tri Lift) : (s.setLifts x).channels = s.channels := rfl
@[simp] theorem setLifts_toggles (s : State) (x : Tri Lift) : (s.setLifts x).toggles = s.toggles := rfl
@[simp] theorem setLifts_packer (s : State) (x : Tri Lift) : (s.setLifts x).packer = s.packer := rfl
@[simp] theorem setLifts_payload (s : State) (x : Tri Lift) : (s.setLifts x).payload = s.payload := rfl
@[simp] theorem setLifts_tailgate (s : State) (x : Tri Lift) : (s.setLifts x).tailgate = s.tailgate := rfl
@[simp] theorem setLifts_clock (s : State) (x : Tri Lift) : (s.setLifts x).clock = s.clock := rfl
@[simp] theorem setLifts_snaps (s : State) (x : Tri Lift) : (s.setLifts x).snaps = s.snaps := rfl
@[simp] theorem setLifts_agent (s : State) (x : Tri Lift) : (s.setLifts x).agent = s.agent := rfl
@[simp] theorem setLifts_pending (s : State) (x : Tri Lift) : (s.setLifts x).pending = s.pending := rfl
@[simp] theorem setForeignCommands_sys (s : State) (x : Nat) : (s.setForeignCommands x).sys = s.sys := rfl
@[simp] theorem setForeignCommands_mode (s : State) (x : Nat) : (s.setForeignCommands x).mode = s.mode := rfl
@[simp] theorem setForeignCommands_store (s : State) (x : Nat) : (s.setForeignCommands x).store = s.store := rfl
@[simp] theorem setForeignCommands_cfg (s : State) (x : Nat) : (s.setForeignCommands x).cfg = s.cfg := rfl
@[simp] theorem setForeignCommands_chassis (s : State) (x : Nat) : (s.setForeignCommands x).chassis = s.chassis := rfl
@[simp] theorem setForeignCommands_body (s : State) (x : Nat) : (s.setForeignCommands x).body = s.body := rfl
@[simp] theorem setForeignCommands_statusBuffer (s : State) (x : Nat) : (s.setForeignCommands x).statusBuffer = s.statusBuffer := rfl
@[simp] theorem setForeignCommands_control (s : State) (x : Nat) : (s.setForeignCommands x).control = s.control := rfl
@[simp] theorem setForeignCommands_routes (s : State) (x : Nat) : (s.setForeignCommands x).routes = s.routes := rfl
@[simp] theorem setForeignCommands_statusTimer (s : State) (x : Nat) : (s.setForeignCommands x).statusTimer = s.statusTimer := rfl
@[simp] theorem setForeignCommands_slots (s : State) (x : Nat) : (s.setForeignCommands x).slots = s.slots := rfl
@[simp] theorem setForeignCommands_signals (s : State) (x : Nat) : (s.setForeignCommands x).signals = s.signals := rfl
@[simp] theorem setForeignCommands_scanner (s : State) (x : Nat) : (s.setForeignCommands x).scanner = s.scanner := rfl
@[simp] theorem setForeignCommands_lifts (s : State) (x : Nat) : (s.setForeignCommands x).lifts = s.lifts := rfl
@[simp] theorem setForeignCommands_foreignCommands (s : State) (x : Nat) : (s.setForeignCommands x).foreignCommands = x := rfl
@[simp] theorem setForeignCommands_markers (s : State) (x : Nat) : (s.setForeignCommands x).markers = s.markers := rfl
@[simp] theorem setForeignCommands_tags (s : State) (x : Nat) : (s.setForeignCommands x).tags = s.tags := rfl
@[simp] theorem setForeignCommands_weigh (s : State) (x : Nat) : (s.setForeignCommands x).weigh = s.weigh := rfl
@[simp] theorem setForeignCommands_zeros (s : State) (x : Nat) : (s.setForeignCommands x).zeros = s.zeros := rfl
@[simp] theorem setForeignCommands_table (s : State) (x : Nat) : (s.setForeignCommands x).table = s.table := rfl
@[simp] theorem setForeignCommands_billing (s : State) (x : Nat) : (s.setForeignCommands x).billing = s.billing := rfl
@[simp] theorem setForeignCommands_queue (s : State) (x : Nat) : (s.setForeignCommands x).queue = s.queue := rfl
@[simp] theorem setForeignCommands_arbiter (s : State) (x : Nat) : (s.setForeignCommands x).arbiter = s.arbiter := rfl
@[simp] theorem setForeignCommands_channels (s : State) (x : Nat) : (s.setForeignCommands x).channels = s.channels := rfl
@[simp] theorem setForeignCommands_toggles (s : State) (x : Nat) : (s.setForeignCommands x).toggles = s.toggles := rfl
@[simp] theorem setForeignCommands_packer (s : State) (x : Nat) : (s.setForeignCommands x).packer = s.packer := rfl
@[simp] theorem setForeignCommands_payload (s : State) (x : Nat) : (s.setForeignCommands x).payload = s.payload := rfl
@[simp] theorem setForeignCommands_tailgate (s : State) (x : Nat) : (s.setForeignCommands x).tailgate = s.tailgate := rfl
@[simp] theorem setForeignCommands_clock (s : State) (x : Nat) : (s.setForeignCommands x).clock = s.clock := rfl
@[simp] theorem setForeignCommands_snaps (s : State) (x : Nat) : (s.setForeignCommands x).snaps = s.snaps := rfl
@[simp] theorem setForeignCommands_agent (s : State) (x : Nat) : (s.setForeignCommands x).agent = s.agent := rfl
@[simp] theorem setForeignCommands_pending (s : State) (x : Nat) : (s.setForeignCommands x).pending = s.pending := rfl
@[simp] theorem setMarkers_sys (s : State) (x : Tri Marker) : (s.setMarkers x).sys = s.sys := rfl
@[simp] theorem setMarkers_mode (s : State) (x : Tri Marker) : (s.setMarkers x).mode = s.mode := rfl
@[simp] theorem setMarkers_store (s : State) (x : Tri Marker) : (s.setMarkers x).store = s.store := rfl
@[simp] theorem setMarkers_cfg (s : State) (x : Tri Marker) : (s.setMarkers x).cfg = s.cfg := rfl
@[simp] theorem setMarkers_chassis (s : State) (x : Tri Marker) : (s.setMarkers x).chassis = s.chassis := rfl
@[simp] theorem setMarkers_body (s : State) (x : Tri Marker) : (s.setMarkers x).body = s.body := rfl
@[simp] theorem setMarkers_statusBuffer (s : State) (x : Tri Marker) : (s.setMarkers x).statusBuffer = s.statusBuffer := rfl
@[simp] theorem setMarkers_control (s : State) (x : Tri Marker) : (s.setMarkers x).control = s.control := rfl
@[simp] theorem setMarkers_routes (s : State) (x : Tri Marker) : (s.setMarkers x).routes = s.routes := rfl
@[simp] theorem setMarkers_statusTimer (s : State) (x : Tri Marker) : (s.setMarkers x).statusTimer = s.statusTimer := rfl
@[simp] theorem setMarkers_slots (s : State) (x : Tri Marker) : (s.setMarkers x).slots = s.slots := rfl
@[simp] theorem setMarkers_signals (s : State) (x : Tri Marker) : (s.setMarkers x).signals = s.signals := rfl
@[simp] theorem setMarkers_scanner (s : State) (x : Tri Marker) : (s.setMarkers x).scanner = s.scanner := rfl
@[simp] theorem setMarkers_lifts (s : State) (x : Tri Marker) : (s.setMarkers x).lifts = s.lifts := rfl
@[simp] theorem setMarkers_foreignCommands (s : State) (x : Tri Marker) : (s.setMarkers x).foreignCommands = s.foreignCommands := rfl
@[simp] theorem setMarkers_markers (s : State) (x : Tri Marker) : (s.setMarkers x).markers = x := rfl
@[simp] theorem setMarkers_tags (s : State) (x : Tri Marker) : (s.setMarkers x).tags = s.tags := rfl
@[simp] theorem setMarkers_weigh (s : State) (x : Tri Marker) : (s.setMarkers x).weigh = s.weigh := rfl
@[simp] theorem setMarkers_zeros (s : State) (x : Tri Marker) : (s.setMarkers x).zeros = s.zeros := rfl
@[simp] theorem setMarkers_table (s : State) (x : Tri Marker) : (s.setMarkers x).table = s.table := rfl
@[simp] theorem setMarkers_billing (s : State) (x : Tri Marker) : (s.setMarkers x).billing = s.billing := rfl
@[simp] theorem setMarkers_queue (s : State) (x : Tri Marker) : (s.setMarkers x).queue = s.queue := rfl
@[simp] theorem setMarkers_arbiter (s : State) (x : Tri Marker) : (s.setMarkers x).arbiter = s.arbiter := rfl
@[simp] theorem setMarkers_channels (s : State) (x : Tri Marker) : (s.setMarkers x).channels = s.channels := rfl
@[simp] theorem setMarkers_toggles (s : State) (x : Tri Marker) : (s.setMarkers x).toggles = s.toggles := rfl
@[simp] theorem setMarkers_packer (s : State) (x : Tri Marker) : (s.setMarkers x).packer = s.packer := rfl
@[simp] theorem setMarkers_payload (s : State) (x : Tri Marker) : (s.setMarkers x).payload = s.payload := rfl
@[simp] theorem setMarkers_tailgate (s : State) (x : Tri Marker) : (s.setMarkers x).tailgate = s.tailgate := rfl
@[simp] theorem setMarkers_clock (s : State) (x : Tri Marker) : (s.setMarkers x).clock = s.clock := rfl
@[simp] theorem setMarkers_snaps (s : State) (x : Tri Marker) : (s.setMarkers x).snaps = s.snaps := rfl
@[simp] theorem setMarkers_agent (s : State) (x : Tri Marker) : (s.setMarkers x).agent = s.agent := rfl
@[simp] theorem setMarkers_pending (s : State) (x : Tri Marker) : (s.setMarkers x).pending = s.pending := rfl
@[simp] theorem setTags_sys (s : State) (x : Tags) : (s.setTags x).sys = s.sys := rfl
@[simp] theorem setTags_mode (s : State) (x : Tags) : (s.setTags x).mode = s.mode := rfl
@[simp] theorem setTags_store (s : State) (x : Tags) : (s.setTags x).store = s.store := rfl
@[simp] theorem setTags_cfg (s : State) (x : Tags) : (s.setTags x).cfg = s.cfg := rfl
@[simp] theorem setTags_chassis (s : State) (x : Tags) : (s.setTags x).chassis = s.chassis := rfl
@[simp] theorem setTags_body (s : State) (x : Tags) : (s.setTags x).body = s.body := rfl
@[simp] theorem setTags_statusBuffer (s : State) (x : Tags) : (s.setTags x).statusBuffer = s.statusBuffer := rfl
@[simp] theorem setTags_control (s : State) (x : Tags) : (s.setTags x).control = s.control := rfl
@[simp] theorem setTags_routes (s : State) (x : Tags) : (s.setTags x).routes = s.routes := rfl
@[simp] theorem setTags_statusTimer (s : State) (x : Tags) : (s.setTags x).statusTimer = s.statusTimer := rfl
@[simp] theorem setTags_slots (s : State) (x : Tags) : (s.setTags x).slots = s.slots := rfl
@[simp] theorem setTags_signals (s : State) (x : Tags) : (s.setTags x).signals = s.signals := rfl
@[simp] theorem setTags_scanner (s : State) (x : Tags) : (s.setTags x).scanner = s.scanner := rfl
@[simp] theorem setTags_lifts (s : State) (x : Tags) : (s.setTags x).lifts = s.lifts := rfl
@[simp] theorem setTags_foreignCommands (s : State) (x : Tags) : (s.setTags x).foreignCommands = s.foreignCommands := rfl
@[simp] theorem setTags_markers (s : State) (x : Tags) : (s.setTags x).markers = s.markers := rfl
@[simp] theorem setTags_tags (s : State) (x : Tags) : (s.setTags x).tags = x := rfl
@[simp] theorem setTags_weigh (s : State) (x : Tags) : (s.setTags x).weigh = s.weigh := rfl
@[simp] theorem setTags_zeros (s : State) (x : Tags) : (s.setTags x).zeros = s.zeros := rfl
@[simp] theorem setTags_table (s : State) (x : Tags) : (s.setTags x).table = s.table := rfl
@[simp] theorem setTags_billing (s : State) (x : Tags) : (s.setTags x).billing = s.billing := rfl
@[simp] theorem setTags_queue (s : State) (x : Tags) : (s.setTags x).queue = s.queue := rfl
@[simp] theorem setTags_arbiter (s : State) (x : Tags) : (s.setTags x).arbiter = s.arbiter := rfl
@[simp] theorem setTags_channels (s : State) (x : Tags) : (s.setTags x).channels = s.channels := rfl
@[simp] theorem setTags_toggles (s : State) (x : Tags) : (s.setTags x).toggles = s.toggles := rfl
@[simp] theorem setTags_packer (s : State) (x : Tags) : (s.setTags x).packer = s.packer := rfl
@[simp] theorem setTags_payload (s : State) (x : Tags) : (s.setTags x).payload = s.payload := rfl
@[simp] theorem setTags_tailgate (s : State) (x : Tags) : (s.setTags x).tailgate = s.tailgate := rfl
@[simp] theorem setTags_clock (s : State) (x : Tags) : (s.setTags x).clock = s.clock := rfl
@[simp] theorem setTags_snaps (s : State) (x : Tags) : (s.setTags x).snaps = s.snaps := rfl
@[simp] theorem setTags_agent (s : State) (x : Tags) : (s.setTags x).agent = s.agent := rfl
@[simp] theorem setTags_pending (s : State) (x : Tags) : (s.setTags x).pending = s.pending := rfl
@[simp] theorem setWeigh_sys (s : State) (x : Weigh) : (s.setWeigh x).sys = s.sys := rfl
@[simp] theorem setWeigh_mode (s : State) (x : Weigh) : (s.setWeigh x).mode = s.mode := rfl
@[simp] theorem setWeigh_store (s : State) (x : Weigh) : (s.setWeigh x).store = s.store := rfl
@[simp] theorem setWeigh_cfg (s : State) (x : Weigh) : (s.setWeigh x).cfg = s.cfg := rfl
@[simp] theorem setWeigh_chassis (s : State) (x : Weigh) : (s.setWeigh x).chassis = s.chassis := rfl
@[simp] theorem setWeigh_body (s : State) (x : Weigh) : (s.setWeigh x).body = s.body := rfl
@[simp] theorem setWeigh_statusBuffer (s : State) (x : Weigh) : (s.setWeigh x).statusBuffer = s.statusBuffer := rfl
@[simp] theorem setWeigh_control (s : State) (x : Weigh) : (s.setWeigh x).control = s.control := rfl
@[simp] theorem setWeigh_routes (s : State) (x : Weigh) : (s.setWeigh x).routes = s.routes := rfl
@[simp] theorem setWeigh_statusTimer (s : State) (x : Weigh) : (s.setWeigh x).statusTimer = s.statusTimer := rfl
@[simp] theorem setWeigh_slots (s : State) (x : Weigh) : (s.setWeigh x).slots = s.slots := rfl
@[simp] theorem setWeigh_signals (s : State) (x : Weigh) : (s.setWeigh x).signals = s.signals := rfl
@[simp] theorem setWeigh_scanner (s : State) (x : Weigh) : (s.setWeigh x).scanner = s.scanner := rfl
@[simp] theorem setWeigh_lifts (s : State) (x : Weigh) : (s.setWeigh x).lifts = s.lifts := rfl
@[simp] theorem setWeigh_foreignCommands (s : State) (x : Weigh) : (s.setWeigh x).foreignCommands = s.foreignCommands := rfl
@[simp] theorem setWeigh_markers (s : State) (x : Weigh) : (s.setWeigh x).markers = s.markers := rfl
@[simp] theorem setWeigh_tags (s : State) (x : Weigh) : (s.setWeigh x).tags = s.tags := rfl
@[simp] theorem setWeigh_weigh (s : State) (x : Weigh) : (s.setWeigh x).weigh = x := rfl
@[simp] theorem setWeigh_zeros (s : State) (x : Weigh) : (s.setWeigh x).zeros = s.zeros := rfl
@[simp] theorem setWeigh_table (s : State) (x : Weigh) : (s.setWeigh x).table = s.table := rfl
@[simp] theorem setWeigh_billing (s : State) (x : Weigh) : (s.setWeigh x).billing = s.billing := rfl
@[simp] theorem setWeigh_queue (s : State) (x : Weigh) : (s.setWeigh x).queue = s.queue := rfl
@[simp] theorem setWeigh_arbiter (s : State) (x : Weigh) : (s.setWeigh x).arbiter = s.arbiter := rfl
@[simp] theorem setWeigh_channels (s : State) (x : Weigh) : (s.setWeigh x).channels = s.channels := rfl
@[simp] theorem setWeigh_toggles (s : State) (x : Weigh) : (s.setWeigh x).toggles = s.toggles := rfl
@[simp] theorem setWeigh_packer (s : State) (x : Weigh) : (s.setWeigh x).packer = s.packer := rfl
@[simp] theorem setWeigh_payload (s : State) (x : Weigh) : (s.setWeigh x).payload = s.payload := rfl
@[simp] theorem setWeigh_tailgate (s : State) (x : Weigh) : (s.setWeigh x).tailgate = s.tailgate := rfl
@[simp] theorem setWeigh_clock (s : State) (x : Weigh) : (s.setWeigh x).clock = s.clock := rfl
@[simp] theorem setWeigh_snaps (s : State) (x : Weigh) : (s.setWeigh x).snaps = s.snaps := rfl
@[simp] theorem setWeigh_agent (s : State) (x : Weigh) : (s.setWeigh x).agent = s.agent := rfl
@[simp] theorem setWeigh_pending (s : State) (x : Weigh) : (s.setWeigh x).pending = s.pending := rfl
@[simp] theorem setZeros_sys (s : State) (x : Tri Zero) : (s.setZeros x).sys = s.sys := rfl
@[simp] theorem setZeros_mode (s : State) (x : Tri Zero) : (s.setZeros x).mode = s.mode := rfl
@[simp] theorem setZeros_store (s : State) (x : Tri Zero) : (s.setZeros x).store = s.store := rfl
@[simp] theorem setZeros_cfg (s : State) (x : Tri Zero) : (s.setZeros x).cfg = s.cfg := rfl
@[simp] theorem setZeros_chassis (s : State) (x : Tri Zero) : (s.setZeros x).chassis = s.chassis := rfl
@[simp] theorem setZeros_body (s : State) (x : Tri Zero) : (s.setZeros x).body = s.body := rfl
@[simp] theorem setZeros_statusBuffer (s : State) (x : Tri Zero) : (s.setZeros x).statusBuffer = s.statusBuffer := rfl
@[simp] theorem setZeros_control (s : State) (x : Tri Zero) : (s.setZeros x).control = s.control := rfl
@[simp] theorem setZeros_routes (s : State) (x : Tri Zero) : (s.setZeros x).routes = s.routes := rfl
@[simp] theorem setZeros_statusTimer (s : State) (x : Tri Zero) : (s.setZeros x).statusTimer = s.statusTimer := rfl
@[simp] theorem setZeros_slots (s : State) (x : Tri Zero) : (s.setZeros x).slots = s.slots := rfl
@[simp] theorem setZeros_signals (s : State) (x : Tri Zero) : (s.setZeros x).signals = s.signals := rfl
@[simp] theorem setZeros_scanner (s : State) (x : Tri Zero) : (s.setZeros x).scanner = s.scanner := rfl
@[simp] theorem setZeros_lifts (s : State) (x : Tri Zero) : (s.setZeros x).lifts = s.lifts := rfl
@[simp] theorem setZeros_foreignCommands (s : State) (x : Tri Zero) : (s.setZeros x).foreignCommands = s.foreignCommands := rfl
@[simp] theorem setZeros_markers (s : State) (x : Tri Zero) : (s.setZeros x).markers = s.markers := rfl
@[simp] theorem setZeros_tags (s : State) (x : Tri Zero) : (s.setZeros x).tags = s.tags := rfl
@[simp] theorem setZeros_weigh (s : State) (x : Tri Zero) : (s.setZeros x).weigh = s.weigh := rfl
@[simp] theorem setZeros_zeros (s : State) (x : Tri Zero) : (s.setZeros x).zeros = x := rfl
@[simp] theorem setZeros_table (s : State) (x : Tri Zero) : (s.setZeros x).table = s.table := rfl
@[simp] theorem setZeros_billing (s : State) (x : Tri Zero) : (s.setZeros x).billing = s.billing := rfl
@[simp] theorem setZeros_queue (s : State) (x : Tri Zero) : (s.setZeros x).queue = s.queue := rfl
@[simp] theorem setZeros_arbiter (s : State) (x : Tri Zero) : (s.setZeros x).arbiter = s.arbiter := rfl
@[simp] theorem setZeros_channels (s : State) (x : Tri Zero) : (s.setZeros x).channels = s.channels := rfl
@[simp] theorem setZeros_toggles (s : State) (x : Tri Zero) : (s.setZeros x).toggles = s.toggles := rfl
@[simp] theorem setZeros_packer (s : State) (x : Tri Zero) : (s.setZeros x).packer = s.packer := rfl
@[simp] theorem setZeros_payload (s : State) (x : Tri Zero) : (s.setZeros x).payload = s.payload := rfl
@[simp] theorem setZeros_tailgate (s : State) (x : Tri Zero) : (s.setZeros x).tailgate = s.tailgate := rfl
@[simp] theorem setZeros_clock (s : State) (x : Tri Zero) : (s.setZeros x).clock = s.clock := rfl
@[simp] theorem setZeros_snaps (s : State) (x : Tri Zero) : (s.setZeros x).snaps = s.snaps := rfl
@[simp] theorem setZeros_agent (s : State) (x : Tri Zero) : (s.setZeros x).agent = s.agent := rfl
@[simp] theorem setZeros_pending (s : State) (x : Tri Zero) : (s.setZeros x).pending = s.pending := rfl
@[simp] theorem setTable_sys (s : State) (x : Table) : (s.setTable x).sys = s.sys := rfl
@[simp] theorem setTable_mode (s : State) (x : Table) : (s.setTable x).mode = s.mode := rfl
@[simp] theorem setTable_store (s : State) (x : Table) : (s.setTable x).store = s.store := rfl
@[simp] theorem setTable_cfg (s : State) (x : Table) : (s.setTable x).cfg = s.cfg := rfl
@[simp] theorem setTable_chassis (s : State) (x : Table) : (s.setTable x).chassis = s.chassis := rfl
@[simp] theorem setTable_body (s : State) (x : Table) : (s.setTable x).body = s.body := rfl
@[simp] theorem setTable_statusBuffer (s : State) (x : Table) : (s.setTable x).statusBuffer = s.statusBuffer := rfl
@[simp] theorem setTable_control (s : State) (x : Table) : (s.setTable x).control = s.control := rfl
@[simp] theorem setTable_routes (s : State) (x : Table) : (s.setTable x).routes = s.routes := rfl
@[simp] theorem setTable_statusTimer (s : State) (x : Table) : (s.setTable x).statusTimer = s.statusTimer := rfl
@[simp] theorem setTable_slots (s : State) (x : Table) : (s.setTable x).slots = s.slots := rfl
@[simp] theorem setTable_signals (s : State) (x : Table) : (s.setTable x).signals = s.signals := rfl
@[simp] theorem setTable_scanner (s : State) (x : Table) : (s.setTable x).scanner = s.scanner := rfl
@[simp] theorem setTable_lifts (s : State) (x : Table) : (s.setTable x).lifts = s.lifts := rfl
@[simp] theorem setTable_foreignCommands (s : State) (x : Table) : (s.setTable x).foreignCommands = s.foreignCommands := rfl
@[simp] theorem setTable_markers (s : State) (x : Table) : (s.setTable x).markers = s.markers := rfl
@[simp] theorem setTable_tags (s : State) (x : Table) : (s.setTable x).tags = s.tags := rfl
@[simp] theorem setTable_weigh (s : State) (x : Table) : (s.setTable x).weigh = s.weigh := rfl
@[simp] theorem setTable_zeros (s : State) (x : Table) : (s.setTable x).zeros = s.zeros := rfl
@[simp] theorem setTable_table (s : State) (x : Table) : (s.setTable x).table = x := rfl
@[simp] theorem setTable_billing (s : State) (x : Table) : (s.setTable x).billing = s.billing := rfl
@[simp] theorem setTable_queue (s : State) (x : Table) : (s.setTable x).queue = s.queue := rfl
@[simp] theorem setTable_arbiter (s : State) (x : Table) : (s.setTable x).arbiter = s.arbiter := rfl
@[simp] theorem setTable_channels (s : State) (x : Table) : (s.setTable x).channels = s.channels := rfl
@[simp] theorem setTable_toggles (s : State) (x : Table) : (s.setTable x).toggles = s.toggles := rfl
@[simp] theorem setTable_packer (s : State) (x : Table) : (s.setTable x).packer = s.packer := rfl
@[simp] theorem setTable_payload (s : State) (x : Table) : (s.setTable x).payload = s.payload := rfl
@[simp] theorem setTable_tailgate (s : State) (x : Table) : (s.setTable x).tailgate = s.tailgate := rfl
@[simp] theorem setTable_clock (s : State) (x : Table) : (s.setTable x).clock = s.clock := rfl
@[simp] theorem setTable_snaps (s : State) (x : Table) : (s.setTable x).snaps = s.snaps := rfl
@[simp] theorem setTable_agent (s : State) (x : Table) : (s.setTable x).agent = s.agent := rfl
@[simp] theorem setTable_pending (s : State) (x : Table) : (s.setTable x).pending = s.pending := rfl
@[simp] theorem setBilling_sys (s : State) (x : Billing) : (s.setBilling x).sys = s.sys := rfl
@[simp] theorem setBilling_mode (s : State) (x : Billing) : (s.setBilling x).mode = s.mode := rfl
@[simp] theorem setBilling_store (s : State) (x : Billing) : (s.setBilling x).store = s.store := rfl
@[simp] theorem setBilling_cfg (s : State) (x : Billing) : (s.setBilling x).cfg = s.cfg := rfl
@[simp] theorem setBilling_chassis (s : State) (x : Billing) : (s.setBilling x).chassis = s.chassis := rfl
@[simp] theorem setBilling_body (s : State) (x : Billing) : (s.setBilling x).body = s.body := rfl
@[simp] theorem setBilling_statusBuffer (s : State) (x : Billing) : (s.setBilling x).statusBuffer = s.statusBuffer := rfl
@[simp] theorem setBilling_control (s : State) (x : Billing) : (s.setBilling x).control = s.control := rfl
@[simp] theorem setBilling_routes (s : State) (x : Billing) : (s.setBilling x).routes = s.routes := rfl
@[simp] theorem setBilling_statusTimer (s : State) (x : Billing) : (s.setBilling x).statusTimer = s.statusTimer := rfl
@[simp] theorem setBilling_slots (s : State) (x : Billing) : (s.setBilling x).slots = s.slots := rfl
@[simp] theorem setBilling_signals (s : State) (x : Billing) : (s.setBilling x).signals = s.signals := rfl
@[simp] theorem setBilling_scanner (s : State) (x : Billing) : (s.setBilling x).scanner = s.scanner := rfl
@[simp] theorem setBilling_lifts (s : State) (x : Billing) : (s.setBilling x).lifts = s.lifts := rfl
@[simp] theorem setBilling_foreignCommands (s : State) (x : Billing) : (s.setBilling x).foreignCommands = s.foreignCommands := rfl
@[simp] theorem setBilling_markers (s : State) (x : Billing) : (s.setBilling x).markers = s.markers := rfl
@[simp] theorem setBilling_tags (s : State) (x : Billing) : (s.setBilling x).tags = s.tags := rfl
@[simp] theorem setBilling_weigh (s : State) (x : Billing) : (s.setBilling x).weigh = s.weigh := rfl
@[simp] theorem setBilling_zeros (s : State) (x : Billing) : (s.setBilling x).zeros = s.zeros := rfl
@[simp] theorem setBilling_table (s : State) (x : Billing) : (s.setBilling x).table = s.table := rfl
@[simp] theorem setBilling_billing (s : State) (x : Billing) : (s.setBilling x).billing = x := rfl
@[simp] theorem setBilling_queue (s : State) (x : Billing) : (s.setBilling x).queue = s.queue := rfl
@[simp] theorem setBilling_arbiter (s : State) (x : Billing) : (s.setBilling x).arbiter = s.arbiter := rfl
@[simp] theorem setBilling_channels (s : State) (x : Billing) : (s.setBilling x).channels = s.channels := rfl
@[simp] theorem setBilling_toggles (s : State) (x : Billing) : (s.setBilling x).toggles = s.toggles := rfl
@[simp] theorem setBilling_packer (s : State) (x : Billing) : (s.setBilling x).packer = s.packer := rfl
@[simp] theorem setBilling_payload (s : State) (x : Billing) : (s.setBilling x).payload = s.payload := rfl
@[simp] theorem setBilling_tailgate (s : State) (x : Billing) : (s.setBilling x).tailgate = s.tailgate := rfl
@[simp] theorem setBilling_clock (s : State) (x : Billing) : (s.setBilling x).clock = s.clock := rfl
@[simp] theorem setBilling_snaps (s : State) (x : Billing) : (s.setBilling x).snaps = s.snaps := rfl
@[simp] theorem setBilling_agent (s : State) (x : Billing) : (s.setBilling x).agent = s.agent := rfl
@[simp] theorem setBilling_pending (s : State) (x : Billing) : (s.setBilling x).pending = s.pending := rfl
@[simp] theorem setQueue_sys (s : State) (x : Queue) : (s.setQueue x).sys = s.sys := rfl
@[simp] theorem setQueue_mode (s : State) (x : Queue) : (s.setQueue x).mode = s.mode := rfl
@[simp] theorem setQueue_store (s : State) (x : Queue) : (s.setQueue x).store = s.store := rfl
@[simp] theorem setQueue_cfg (s : State) (x : Queue) : (s.setQueue x).cfg = s.cfg := rfl
@[simp] theorem setQueue_chassis (s : State) (x : Queue) : (s.setQueue x).chassis = s.chassis := rfl
@[simp] theorem setQueue_body (s : State) (x : Queue) : (s.setQueue x).body = s.body := rfl
@[simp] theorem setQueue_statusBuffer (s : State) (x : Queue) : (s.setQueue x).statusBuffer = s.statusBuffer := rfl
@[simp] theorem setQueue_control (s : State) (x : Queue) : (s.setQueue x).control = s.control := rfl
@[simp] theorem setQueue_routes (s : State) (x : Queue) : (s.setQueue x).routes = s.routes := rfl
@[simp] theorem setQueue_statusTimer (s : State) (x : Queue) : (s.setQueue x).statusTimer = s.statusTimer := rfl
@[simp] theorem setQueue_slots (s : State) (x : Queue) : (s.setQueue x).slots = s.slots := rfl
@[simp] theorem setQueue_signals (s : State) (x : Queue) : (s.setQueue x).signals = s.signals := rfl
@[simp] theorem setQueue_scanner (s : State) (x : Queue) : (s.setQueue x).scanner = s.scanner := rfl
@[simp] theorem setQueue_lifts (s : State) (x : Queue) : (s.setQueue x).lifts = s.lifts := rfl
@[simp] theorem setQueue_foreignCommands (s : State) (x : Queue) : (s.setQueue x).foreignCommands = s.foreignCommands := rfl
@[simp] theorem setQueue_markers (s : State) (x : Queue) : (s.setQueue x).markers = s.markers := rfl
@[simp] theorem setQueue_tags (s : State) (x : Queue) : (s.setQueue x).tags = s.tags := rfl
@[simp] theorem setQueue_weigh (s : State) (x : Queue) : (s.setQueue x).weigh = s.weigh := rfl
@[simp] theorem setQueue_zeros (s : State) (x : Queue) : (s.setQueue x).zeros = s.zeros := rfl
@[simp] theorem setQueue_table (s : State) (x : Queue) : (s.setQueue x).table = s.table := rfl
@[simp] theorem setQueue_billing (s : State) (x : Queue) : (s.setQueue x).billing = s.billing := rfl
@[simp] theorem setQueue_queue (s : State) (x : Queue) : (s.setQueue x).queue = x := rfl
@[simp] theorem setQueue_arbiter (s : State) (x : Queue) : (s.setQueue x).arbiter = s.arbiter := rfl
@[simp] theorem setQueue_channels (s : State) (x : Queue) : (s.setQueue x).channels = s.channels := rfl
@[simp] theorem setQueue_toggles (s : State) (x : Queue) : (s.setQueue x).toggles = s.toggles := rfl
@[simp] theorem setQueue_packer (s : State) (x : Queue) : (s.setQueue x).packer = s.packer := rfl
@[simp] theorem setQueue_payload (s : State) (x : Queue) : (s.setQueue x).payload = s.payload := rfl
@[simp] theorem setQueue_tailgate (s : State) (x : Queue) : (s.setQueue x).tailgate = s.tailgate := rfl
@[simp] theorem setQueue_clock (s : State) (x : Queue) : (s.setQueue x).clock = s.clock := rfl
@[simp] theorem setQueue_snaps (s : State) (x : Queue) : (s.setQueue x).snaps = s.snaps := rfl
@[simp] theorem setQueue_agent (s : State) (x : Queue) : (s.setQueue x).agent = s.agent := rfl
@[simp] theorem setQueue_pending (s : State) (x : Queue) : (s.setQueue x).pending = s.pending := rfl
@[simp] theorem setArbiter_sys (s : State) (x : Arbiter) : (s.setArbiter x).sys = s.sys := rfl
@[simp] theorem setArbiter_mode (s : State) (x : Arbiter) : (s.setArbiter x).mode = s.mode := rfl
@[simp] theorem setArbiter_store (s : State) (x : Arbiter) : (s.setArbiter x).store = s.store := rfl
@[simp] theorem setArbiter_cfg (s : State) (x : Arbiter) : (s.setArbiter x).cfg = s.cfg := rfl
@[simp] theorem setArbiter_chassis (s : State) (x : Arbiter) : (s.setArbiter x).chassis = s.chassis := rfl
@[simp] theorem setArbiter_body (s : State) (x : Arbiter) : (s.setArbiter x).body = s.body := rfl
@[simp] theorem setArbiter_statusBuffer (s : State) (x : Arbiter) : (s.setArbiter x).statusBuffer = s.statusBuffer := rfl
@[simp] theorem setArbiter_control (s : State) (x : Arbiter) : (s.setArbiter x).control = s.control := rfl
@[simp] theorem setArbiter_routes (s : State) (x : Arbiter) : (s.setArbiter x).routes = s.routes := rfl
@[simp] theorem setArbiter_statusTimer (s : State) (x : Arbiter) : (s.setArbiter x).statusTimer = s.statusTimer := rfl
@[simp] theorem setArbiter_slots (s : State) (x : Arbiter) : (s.setArbiter x).slots = s.slots := rfl
@[simp] theorem setArbiter_signals (s : State) (x : Arbiter) : (s.setArbiter x).signals = s.signals := rfl
@[simp] theorem setArbiter_scanner (s : State) (x : Arbiter) : (s.setArbiter x).scanner = s.scanner := rfl
@[simp] theorem setArbiter_lifts (s : State) (x : Arbiter) : (s.setArbiter x).lifts = s.lifts := rfl
@[simp] theorem setArbiter_foreignCommands (s : State) (x : Arbiter) : (s.setArbiter x).foreignCommands = s.foreignCommands := rfl
@[simp] theorem setArbiter_markers (s : State) (x : Arbiter) : (s.setArbiter x).markers = s.markers := rfl
@[simp] theorem setArbiter_tags (s : State) (x : Arbiter) : (s.setArbiter x).tags = s.tags := rfl
@[simp] theorem setArbiter_weigh (s : State) (x : Arbiter) : (s.setArbiter x).weigh = s.weigh := rfl
@[simp] theorem setArbiter_zeros (s : State) (x : Arbiter) : (s.setArbiter x).zeros = s.zeros := rfl
@[simp] theorem setArbiter_table (s : State) (x : Arbiter) : (s.setArbiter x).table = s.table := rfl
@[simp] theorem setArbiter_billing (s : State) (x : Arbiter) : (s.setArbiter x).billing = s.billing := rfl
@[simp] theorem setArbiter_queue (s : State) (x : Arbiter) : (s.setArbiter x).queue = s.queue := rfl
@[simp] theorem setArbiter_arbiter (s : State) (x : Arbiter) : (s.setArbiter x).arbiter = x := rfl
@[simp] theorem setArbiter_channels (s : State) (x : Arbiter) : (s.setArbiter x).channels = s.channels := rfl
@[simp] theorem setArbiter_toggles (s : State) (x : Arbiter) : (s.setArbiter x).toggles = s.toggles := rfl
@[simp] theorem setArbiter_packer (s : State) (x : Arbiter) : (s.setArbiter x).packer = s.packer := rfl
@[simp] theorem setArbiter_payload (s : State) (x : Arbiter) : (s.setArbiter x).payload = s.payload := rfl
@[simp] theorem setArbiter_tailgate (s : State) (x : Arbiter) : (s.setArbiter x).tailgate = s.tailgate := rfl
@[simp] theorem setArbiter_clock (s : State) (x : Arbiter) : (s.setArbiter x).clock = s.clock := rfl
@[simp] theorem setArbiter_snaps (s : State) (x : Arbiter) : (s.setArbiter x).snaps = s.snaps := rfl
@[simp] theorem setArbiter_agent (s : State) (x : Arbiter) : (s.setArbiter x).agent = s.agent := rfl
@[simp] theorem setArbiter_pending (s : State) (x : Arbiter) : (s.setArbiter x).pending = s.pending := rfl
@[simp] theorem setChannels_sys (s : State) (x : Vector Channel 12) : (s.setChannels x).sys = s.sys := rfl
@[simp] theorem setChannels_mode (s : State) (x : Vector Channel 12) : (s.setChannels x).mode = s.mode := rfl
@[simp] theorem setChannels_store (s : State) (x : Vector Channel 12) : (s.setChannels x).store = s.store := rfl
@[simp] theorem setChannels_cfg (s : State) (x : Vector Channel 12) : (s.setChannels x).cfg = s.cfg := rfl
@[simp] theorem setChannels_chassis (s : State) (x : Vector Channel 12) : (s.setChannels x).chassis = s.chassis := rfl
@[simp] theorem setChannels_body (s : State) (x : Vector Channel 12) : (s.setChannels x).body = s.body := rfl
@[simp] theorem setChannels_statusBuffer (s : State) (x : Vector Channel 12) : (s.setChannels x).statusBuffer = s.statusBuffer := rfl
@[simp] theorem setChannels_control (s : State) (x : Vector Channel 12) : (s.setChannels x).control = s.control := rfl
@[simp] theorem setChannels_routes (s : State) (x : Vector Channel 12) : (s.setChannels x).routes = s.routes := rfl
@[simp] theorem setChannels_statusTimer (s : State) (x : Vector Channel 12) : (s.setChannels x).statusTimer = s.statusTimer := rfl
@[simp] theorem setChannels_slots (s : State) (x : Vector Channel 12) : (s.setChannels x).slots = s.slots := rfl
@[simp] theorem setChannels_signals (s : State) (x : Vector Channel 12) : (s.setChannels x).signals = s.signals := rfl
@[simp] theorem setChannels_scanner (s : State) (x : Vector Channel 12) : (s.setChannels x).scanner = s.scanner := rfl
@[simp] theorem setChannels_lifts (s : State) (x : Vector Channel 12) : (s.setChannels x).lifts = s.lifts := rfl
@[simp] theorem setChannels_foreignCommands (s : State) (x : Vector Channel 12) : (s.setChannels x).foreignCommands = s.foreignCommands := rfl
@[simp] theorem setChannels_markers (s : State) (x : Vector Channel 12) : (s.setChannels x).markers = s.markers := rfl
@[simp] theorem setChannels_tags (s : State) (x : Vector Channel 12) : (s.setChannels x).tags = s.tags := rfl
@[simp] theorem setChannels_weigh (s : State) (x : Vector Channel 12) : (s.setChannels x).weigh = s.weigh := rfl
@[simp] theorem setChannels_zeros (s : State) (x : Vector Channel 12) : (s.setChannels x).zeros = s.zeros := rfl
@[simp] theorem setChannels_table (s : State) (x : Vector Channel 12) : (s.setChannels x).table = s.table := rfl
@[simp] theorem setChannels_billing (s : State) (x : Vector Channel 12) : (s.setChannels x).billing = s.billing := rfl
@[simp] theorem setChannels_queue (s : State) (x : Vector Channel 12) : (s.setChannels x).queue = s.queue := rfl
@[simp] theorem setChannels_arbiter (s : State) (x : Vector Channel 12) : (s.setChannels x).arbiter = s.arbiter := rfl
@[simp] theorem setChannels_channels (s : State) (x : Vector Channel 12) : (s.setChannels x).channels = x := rfl
@[simp] theorem setChannels_toggles (s : State) (x : Vector Channel 12) : (s.setChannels x).toggles = s.toggles := rfl
@[simp] theorem setChannels_packer (s : State) (x : Vector Channel 12) : (s.setChannels x).packer = s.packer := rfl
@[simp] theorem setChannels_payload (s : State) (x : Vector Channel 12) : (s.setChannels x).payload = s.payload := rfl
@[simp] theorem setChannels_tailgate (s : State) (x : Vector Channel 12) : (s.setChannels x).tailgate = s.tailgate := rfl
@[simp] theorem setChannels_clock (s : State) (x : Vector Channel 12) : (s.setChannels x).clock = s.clock := rfl
@[simp] theorem setChannels_snaps (s : State) (x : Vector Channel 12) : (s.setChannels x).snaps = s.snaps := rfl
@[simp] theorem setChannels_agent (s : State) (x : Vector Channel 12) : (s.setChannels x).agent = s.agent := rfl
@[simp] theorem setChannels_pending (s : State) (x : Vector Channel 12) : (s.setChannels x).pending = s.pending := rfl
@[simp] theorem setToggles_sys (s : State) (x : Toggles) : (s.setToggles x).sys = s.sys := rfl
@[simp] theorem setToggles_mode (s : State) (x : Toggles) : (s.setToggles x).mode = s.mode := rfl
@[simp] theorem setToggles_store (s : State) (x : Toggles) : (s.setToggles x).store = s.store := rfl
@[simp] theorem setToggles_cfg (s : State) (x : Toggles) : (s.setToggles x).cfg = s.cfg := rfl
@[simp] theorem setToggles_chassis (s : State) (x : Toggles) : (s.setToggles x).chassis = s.chassis := rfl
@[simp] theorem setToggles_body (s : State) (x : Toggles) : (s.setToggles x).body = s.body := rfl
@[simp] theorem setToggles_statusBuffer (s : State) (x : Toggles) : (s.setToggles x).statusBuffer = s.statusBuffer := rfl
@[simp] theorem setToggles_control (s : State) (x : Toggles) : (s.setToggles x).control = s.control := rfl
@[simp] theorem setToggles_routes (s : State) (x : Toggles) : (s.setToggles x).routes = s.routes := rfl
@[simp] theorem setToggles_statusTimer (s : State) (x : Toggles) : (s.setToggles x).statusTimer = s.statusTimer := rfl
@[simp] theorem setToggles_slots (s : State) (x : Toggles) : (s.setToggles x).slots = s.slots := rfl
@[simp] theorem setToggles_signals (s : State) (x : Toggles) : (s.setToggles x).signals = s.signals := rfl
@[simp] theorem setToggles_scanner (s : State) (x : Toggles) : (s.setToggles x).scanner = s.scanner := rfl
@[simp] theorem setToggles_lifts (s : State) (x : Toggles) : (s.setToggles x).lifts = s.lifts := rfl
@[simp] theorem setToggles_foreignCommands (s : State) (x : Toggles) : (s.setToggles x).foreignCommands = s.foreignCommands := rfl
@[simp] theorem setToggles_markers (s : State) (x : Toggles) : (s.setToggles x).markers = s.markers := rfl
@[simp] theorem setToggles_tags (s : State) (x : Toggles) : (s.setToggles x).tags = s.tags := rfl
@[simp] theorem setToggles_weigh (s : State) (x : Toggles) : (s.setToggles x).weigh = s.weigh := rfl
@[simp] theorem setToggles_zeros (s : State) (x : Toggles) : (s.setToggles x).zeros = s.zeros := rfl
@[simp] theorem setToggles_table (s : State) (x : Toggles) : (s.setToggles x).table = s.table := rfl
@[simp] theorem setToggles_billing (s : State) (x : Toggles) : (s.setToggles x).billing = s.billing := rfl
@[simp] theorem setToggles_queue (s : State) (x : Toggles) : (s.setToggles x).queue = s.queue := rfl
@[simp] theorem setToggles_arbiter (s : State) (x : Toggles) : (s.setToggles x).arbiter = s.arbiter := rfl
@[simp] theorem setToggles_channels (s : State) (x : Toggles) : (s.setToggles x).channels = s.channels := rfl
@[simp] theorem setToggles_toggles (s : State) (x : Toggles) : (s.setToggles x).toggles = x := rfl
@[simp] theorem setToggles_packer (s : State) (x : Toggles) : (s.setToggles x).packer = s.packer := rfl
@[simp] theorem setToggles_payload (s : State) (x : Toggles) : (s.setToggles x).payload = s.payload := rfl
@[simp] theorem setToggles_tailgate (s : State) (x : Toggles) : (s.setToggles x).tailgate = s.tailgate := rfl
@[simp] theorem setToggles_clock (s : State) (x : Toggles) : (s.setToggles x).clock = s.clock := rfl
@[simp] theorem setToggles_snaps (s : State) (x : Toggles) : (s.setToggles x).snaps = s.snaps := rfl
@[simp] theorem setToggles_agent (s : State) (x : Toggles) : (s.setToggles x).agent = s.agent := rfl
@[simp] theorem setToggles_pending (s : State) (x : Toggles) : (s.setToggles x).pending = s.pending := rfl
@[simp] theorem setPacker_sys (s : State) (x : Packer) : (s.setPacker x).sys = s.sys := rfl
@[simp] theorem setPacker_mode (s : State) (x : Packer) : (s.setPacker x).mode = s.mode := rfl
@[simp] theorem setPacker_store (s : State) (x : Packer) : (s.setPacker x).store = s.store := rfl
@[simp] theorem setPacker_cfg (s : State) (x : Packer) : (s.setPacker x).cfg = s.cfg := rfl
@[simp] theorem setPacker_chassis (s : State) (x : Packer) : (s.setPacker x).chassis = s.chassis := rfl
@[simp] theorem setPacker_body (s : State) (x : Packer) : (s.setPacker x).body = s.body := rfl
@[simp] theorem setPacker_statusBuffer (s : State) (x : Packer) : (s.setPacker x).statusBuffer = s.statusBuffer := rfl
@[simp] theorem setPacker_control (s : State) (x : Packer) : (s.setPacker x).control = s.control := rfl
@[simp] theorem setPacker_routes (s : State) (x : Packer) : (s.setPacker x).routes = s.routes := rfl
@[simp] theorem setPacker_statusTimer (s : State) (x : Packer) : (s.setPacker x).statusTimer = s.statusTimer := rfl
@[simp] theorem setPacker_slots (s : State) (x : Packer) : (s.setPacker x).slots = s.slots := rfl
@[simp] theorem setPacker_signals (s : State) (x : Packer) : (s.setPacker x).signals = s.signals := rfl
@[simp] theorem setPacker_scanner (s : State) (x : Packer) : (s.setPacker x).scanner = s.scanner := rfl
@[simp] theorem setPacker_lifts (s : State) (x : Packer) : (s.setPacker x).lifts = s.lifts := rfl
@[simp] theorem setPacker_foreignCommands (s : State) (x : Packer) : (s.setPacker x).foreignCommands = s.foreignCommands := rfl
@[simp] theorem setPacker_markers (s : State) (x : Packer) : (s.setPacker x).markers = s.markers := rfl
@[simp] theorem setPacker_tags (s : State) (x : Packer) : (s.setPacker x).tags = s.tags := rfl
@[simp] theorem setPacker_weigh (s : State) (x : Packer) : (s.setPacker x).weigh = s.weigh := rfl
@[simp] theorem setPacker_zeros (s : State) (x : Packer) : (s.setPacker x).zeros = s.zeros := rfl
@[simp] theorem setPacker_table (s : State) (x : Packer) : (s.setPacker x).table = s.table := rfl
@[simp] theorem setPacker_billing (s : State) (x : Packer) : (s.setPacker x).billing = s.billing := rfl
@[simp] theorem setPacker_queue (s : State) (x : Packer) : (s.setPacker x).queue = s.queue := rfl
@[simp] theorem setPacker_arbiter (s : State) (x : Packer) : (s.setPacker x).arbiter = s.arbiter := rfl
@[simp] theorem setPacker_channels (s : State) (x : Packer) : (s.setPacker x).channels = s.channels := rfl
@[simp] theorem setPacker_toggles (s : State) (x : Packer) : (s.setPacker x).toggles = s.toggles := rfl
@[simp] theorem setPacker_packer (s : State) (x : Packer) : (s.setPacker x).packer = x := rfl
@[simp] theorem setPacker_payload (s : State) (x : Packer) : (s.setPacker x).payload = s.payload := rfl
@[simp] theorem setPacker_tailgate (s : State) (x : Packer) : (s.setPacker x).tailgate = s.tailgate := rfl
@[simp] theorem setPacker_clock (s : State) (x : Packer) : (s.setPacker x).clock = s.clock := rfl
@[simp] theorem setPacker_snaps (s : State) (x : Packer) : (s.setPacker x).snaps = s.snaps := rfl
@[simp] theorem setPacker_agent (s : State) (x : Packer) : (s.setPacker x).agent = s.agent := rfl
@[simp] theorem setPacker_pending (s : State) (x : Packer) : (s.setPacker x).pending = s.pending := rfl
@[simp] theorem setPayload_sys (s : State) (x : Payload) : (s.setPayload x).sys = s.sys := rfl
@[simp] theorem setPayload_mode (s : State) (x : Payload) : (s.setPayload x).mode = s.mode := rfl
@[simp] theorem setPayload_store (s : State) (x : Payload) : (s.setPayload x).store = s.store := rfl
@[simp] theorem setPayload_cfg (s : State) (x : Payload) : (s.setPayload x).cfg = s.cfg := rfl
@[simp] theorem setPayload_chassis (s : State) (x : Payload) : (s.setPayload x).chassis = s.chassis := rfl
@[simp] theorem setPayload_body (s : State) (x : Payload) : (s.setPayload x).body = s.body := rfl
@[simp] theorem setPayload_statusBuffer (s : State) (x : Payload) : (s.setPayload x).statusBuffer = s.statusBuffer := rfl
@[simp] theorem setPayload_control (s : State) (x : Payload) : (s.setPayload x).control = s.control := rfl
@[simp] theorem setPayload_routes (s : State) (x : Payload) : (s.setPayload x).routes = s.routes := rfl
@[simp] theorem setPayload_statusTimer (s : State) (x : Payload) : (s.setPayload x).statusTimer = s.statusTimer := rfl
@[simp] theorem setPayload_slots (s : State) (x : Payload) : (s.setPayload x).slots = s.slots := rfl
@[simp] theorem setPayload_signals (s : State) (x : Payload) : (s.setPayload x).signals = s.signals := rfl
@[simp] theorem setPayload_scanner (s : State) (x : Payload) : (s.setPayload x).scanner = s.scanner := rfl
@[simp] theorem setPayload_lifts (s : State) (x : Payload) : (s.setPayload x).lifts = s.lifts := rfl
@[simp] theorem setPayload_foreignCommands (s : State) (x : Payload) : (s.setPayload x).foreignCommands = s.foreignCommands := rfl
@[simp] theorem setPayload_markers (s : State) (x : Payload) : (s.setPayload x).markers = s.markers := rfl
@[simp] theorem setPayload_tags (s : State) (x : Payload) : (s.setPayload x).tags = s.tags := rfl
@[simp] theorem setPayload_weigh (s : State) (x : Payload) : (s.setPayload x).weigh = s.weigh := rfl
@[simp] theorem setPayload_zeros (s : State) (x : Payload) : (s.setPayload x).zeros = s.zeros := rfl
@[simp] theorem setPayload_table (s : State) (x : Payload) : (s.setPayload x).table = s.table := rfl
@[simp] theorem setPayload_billing (s : State) (x : Payload) : (s.setPayload x).billing = s.billing := rfl
@[simp] theorem setPayload_queue (s : State) (x : Payload) : (s.setPayload x).queue = s.queue := rfl
@[simp] theorem setPayload_arbiter (s : State) (x : Payload) : (s.setPayload x).arbiter = s.arbiter := rfl
@[simp] theorem setPayload_channels (s : State) (x : Payload) : (s.setPayload x).channels = s.channels := rfl
@[simp] theorem setPayload_toggles (s : State) (x : Payload) : (s.setPayload x).toggles = s.toggles := rfl
@[simp] theorem setPayload_packer (s : State) (x : Payload) : (s.setPayload x).packer = s.packer := rfl
@[simp] theorem setPayload_payload (s : State) (x : Payload) : (s.setPayload x).payload = x := rfl
@[simp] theorem setPayload_tailgate (s : State) (x : Payload) : (s.setPayload x).tailgate = s.tailgate := rfl
@[simp] theorem setPayload_clock (s : State) (x : Payload) : (s.setPayload x).clock = s.clock := rfl
@[simp] theorem setPayload_snaps (s : State) (x : Payload) : (s.setPayload x).snaps = s.snaps := rfl
@[simp] theorem setPayload_agent (s : State) (x : Payload) : (s.setPayload x).agent = s.agent := rfl
@[simp] theorem setPayload_pending (s : State) (x : Payload) : (s.setPayload x).pending = s.pending := rfl
@[simp] theorem setTailgate_sys (s : State) (x : Tailgate) : (s.setTailgate x).sys = s.sys := rfl
@[simp] theorem setTailgate_mode (s : State) (x : Tailgate) : (s.setTailgate x).mode = s.mode := rfl
@[simp] theorem setTailgate_store (s : State) (x : Tailgate) : (s.setTailgate x).store = s.store := rfl
@[simp] theorem setTailgate_cfg (s : State) (x : Tailgate) : (s.setTailgate x).cfg = s.cfg := rfl
@[simp] theorem setTailgate_chassis (s : State) (x : Tailgate) : (s.setTailgate x).chassis = s.chassis := rfl
@[simp] theorem setTailgate_body (s : State) (x : Tailgate) : (s.setTailgate x).body = s.body := rfl
@[simp] theorem setTailgate_statusBuffer (s : State) (x : Tailgate) : (s.setTailgate x).statusBuffer = s.statusBuffer := rfl
@[simp] theorem setTailgate_control (s : State) (x : Tailgate) : (s.setTailgate x).control = s.control := rfl
@[simp] theorem setTailgate_routes (s : State) (x : Tailgate) : (s.setTailgate x).routes = s.routes := rfl
@[simp] theorem setTailgate_statusTimer (s : State) (x : Tailgate) : (s.setTailgate x).statusTimer = s.statusTimer := rfl
@[simp] theorem setTailgate_slots (s : State) (x : Tailgate) : (s.setTailgate x).slots = s.slots := rfl
@[simp] theorem setTailgate_signals (s : State) (x : Tailgate) : (s.setTailgate x).signals = s.signals := rfl
@[simp] theorem setTailgate_scanner (s : State) (x : Tailgate) : (s.setTailgate x).scanner = s.scanner := rfl
@[simp] theorem setTailgate_lifts (s : State) (x : Tailgate) : (s.setTailgate x).lifts = s.lifts := rfl
@[simp] theorem setTailgate_foreignCommands (s : State) (x : Tailgate) : (s.setTailgate x).foreignCommands = s.foreignCommands := rfl
@[simp] theorem setTailgate_markers (s : State) (x : Tailgate) : (s.setTailgate x).markers = s.markers := rfl
@[simp] theorem setTailgate_tags (s : State) (x : Tailgate) : (s.setTailgate x).tags = s.tags := rfl
@[simp] theorem setTailgate_weigh (s : State) (x : Tailgate) : (s.setTailgate x).weigh = s.weigh := rfl
@[simp] theorem setTailgate_zeros (s : State) (x : Tailgate) : (s.setTailgate x).zeros = s.zeros := rfl
@[simp] theorem setTailgate_table (s : State) (x : Tailgate) : (s.setTailgate x).table = s.table := rfl
@[simp] theorem setTailgate_billing (s : State) (x : Tailgate) : (s.setTailgate x).billing = s.billing := rfl
@[simp] theorem setTailgate_queue (s : State) (x : Tailgate) : (s.setTailgate x).queue = s.queue := rfl
@[simp] theorem setTailgate_arbiter (s : State) (x : Tailgate) : (s.setTailgate x).arbiter = s.arbiter := rfl
@[simp] theorem setTailgate_channels (s : State) (x : Tailgate) : (s.setTailgate x).channels = s.channels := rfl
@[simp] theorem setTailgate_toggles (s : State) (x : Tailgate) : (s.setTailgate x).toggles = s.toggles := rfl
@[simp] theorem setTailgate_packer (s : State) (x : Tailgate) : (s.setTailgate x).packer = s.packer := rfl
@[simp] theorem setTailgate_payload (s : State) (x : Tailgate) : (s.setTailgate x).payload = s.payload := rfl
@[simp] theorem setTailgate_tailgate (s : State) (x : Tailgate) : (s.setTailgate x).tailgate = x := rfl
@[simp] theorem setTailgate_clock (s : State) (x : Tailgate) : (s.setTailgate x).clock = s.clock := rfl
@[simp] theorem setTailgate_snaps (s : State) (x : Tailgate) : (s.setTailgate x).snaps = s.snaps := rfl
@[simp] theorem setTailgate_agent (s : State) (x : Tailgate) : (s.setTailgate x).agent = s.agent := rfl
@[simp] theorem setTailgate_pending (s : State) (x : Tailgate) : (s.setTailgate x).pending = s.pending := rfl
@[simp] theorem setClock_sys (s : State) (x : Clock) : (s.setClock x).sys = s.sys := rfl
@[simp] theorem setClock_mode (s : State) (x : Clock) : (s.setClock x).mode = s.mode := rfl
@[simp] theorem setClock_store (s : State) (x : Clock) : (s.setClock x).store = s.store := rfl
@[simp] theorem setClock_cfg (s : State) (x : Clock) : (s.setClock x).cfg = s.cfg := rfl
@[simp] theorem setClock_chassis (s : State) (x : Clock) : (s.setClock x).chassis = s.chassis := rfl
@[simp] theorem setClock_body (s : State) (x : Clock) : (s.setClock x).body = s.body := rfl
@[simp] theorem setClock_statusBuffer (s : State) (x : Clock) : (s.setClock x).statusBuffer = s.statusBuffer := rfl
@[simp] theorem setClock_control (s : State) (x : Clock) : (s.setClock x).control = s.control := rfl
@[simp] theorem setClock_routes (s : State) (x : Clock) : (s.setClock x).routes = s.routes := rfl
@[simp] theorem setClock_statusTimer (s : State) (x : Clock) : (s.setClock x).statusTimer = s.statusTimer := rfl
@[simp] theorem setClock_slots (s : State) (x : Clock) : (s.setClock x).slots = s.slots := rfl
@[simp] theorem setClock_signals (s : State) (x : Clock) : (s.setClock x).signals = s.signals := rfl
@[simp] theorem setClock_scanner (s : State) (x : Clock) : (s.setClock x).scanner = s.scanner := rfl
@[simp] theorem setClock_lifts (s : State) (x : Clock) : (s.setClock x).lifts = s.lifts := rfl
@[simp] theorem setClock_foreignCommands (s : State) (x : Clock) : (s.setClock x).foreignCommands = s.foreignCommands := rfl
@[simp] theorem setClock_markers (s : State) (x : Clock) : (s.setClock x).markers = s.markers := rfl
@[simp] theorem setClock_tags (s : State) (x : Clock) : (s.setClock x).tags = s.tags := rfl
@[simp] theorem setClock_weigh (s : State) (x : Clock) : (s.setClock x).weigh = s.weigh := rfl
@[simp] theorem setClock_zeros (s : State) (x : Clock) : (s.setClock x).zeros = s.zeros := rfl
@[simp] theorem setClock_table (s : State) (x : Clock) : (s.setClock x).table = s.table := rfl
@[simp] theorem setClock_billing (s : State) (x : Clock) : (s.setClock x).billing = s.billing := rfl
@[simp] theorem setClock_queue (s : State) (x : Clock) : (s.setClock x).queue = s.queue := rfl
@[simp] theorem setClock_arbiter (s : State) (x : Clock) : (s.setClock x).arbiter = s.arbiter := rfl
@[simp] theorem setClock_channels (s : State) (x : Clock) : (s.setClock x).channels = s.channels := rfl
@[simp] theorem setClock_toggles (s : State) (x : Clock) : (s.setClock x).toggles = s.toggles := rfl
@[simp] theorem setClock_packer (s : State) (x : Clock) : (s.setClock x).packer = s.packer := rfl
@[simp] theorem setClock_payload (s : State) (x : Clock) : (s.setClock x).payload = s.payload := rfl
@[simp] theorem setClock_tailgate (s : State) (x : Clock) : (s.setClock x).tailgate = s.tailgate := rfl
@[simp] theorem setClock_clock (s : State) (x : Clock) : (s.setClock x).clock = x := rfl
@[simp] theorem setClock_snaps (s : State) (x : Clock) : (s.setClock x).snaps = s.snaps := rfl
@[simp] theorem setClock_agent (s : State) (x : Clock) : (s.setClock x).agent = s.agent := rfl
@[simp] theorem setClock_pending (s : State) (x : Clock) : (s.setClock x).pending = s.pending := rfl
@[simp] theorem setSnaps_sys (s : State) (x : Snaps) : (s.setSnaps x).sys = s.sys := rfl
@[simp] theorem setSnaps_mode (s : State) (x : Snaps) : (s.setSnaps x).mode = s.mode := rfl
@[simp] theorem setSnaps_store (s : State) (x : Snaps) : (s.setSnaps x).store = s.store := rfl
@[simp] theorem setSnaps_cfg (s : State) (x : Snaps) : (s.setSnaps x).cfg = s.cfg := rfl
@[simp] theorem setSnaps_chassis (s : State) (x : Snaps) : (s.setSnaps x).chassis = s.chassis := rfl
@[simp] theorem setSnaps_body (s : State) (x : Snaps) : (s.setSnaps x).body = s.body := rfl
@[simp] theorem setSnaps_statusBuffer (s : State) (x : Snaps) : (s.setSnaps x).statusBuffer = s.statusBuffer := rfl
@[simp] theorem setSnaps_control (s : State) (x : Snaps) : (s.setSnaps x).control = s.control := rfl
@[simp] theorem setSnaps_routes (s : State) (x : Snaps) : (s.setSnaps x).routes = s.routes := rfl
@[simp] theorem setSnaps_statusTimer (s : State) (x : Snaps) : (s.setSnaps x).statusTimer = s.statusTimer := rfl
@[simp] theorem setSnaps_slots (s : State) (x : Snaps) : (s.setSnaps x).slots = s.slots := rfl
@[simp] theorem setSnaps_signals (s : State) (x : Snaps) : (s.setSnaps x).signals = s.signals := rfl
@[simp] theorem setSnaps_scanner (s : State) (x : Snaps) : (s.setSnaps x).scanner = s.scanner := rfl
@[simp] theorem setSnaps_lifts (s : State) (x : Snaps) : (s.setSnaps x).lifts = s.lifts := rfl
@[simp] theorem setSnaps_foreignCommands (s : State) (x : Snaps) : (s.setSnaps x).foreignCommands = s.foreignCommands := rfl
@[simp] theorem setSnaps_markers (s : State) (x : Snaps) : (s.setSnaps x).markers = s.markers := rfl
@[simp] theorem setSnaps_tags (s : State) (x : Snaps) : (s.setSnaps x).tags = s.tags := rfl
@[simp] theorem setSnaps_weigh (s : State) (x : Snaps) : (s.setSnaps x).weigh = s.weigh := rfl
@[simp] theorem setSnaps_zeros (s : State) (x : Snaps) : (s.setSnaps x).zeros = s.zeros := rfl
@[simp] theorem setSnaps_table (s : State) (x : Snaps) : (s.setSnaps x).table = s.table := rfl
@[simp] theorem setSnaps_billing (s : State) (x : Snaps) : (s.setSnaps x).billing = s.billing := rfl
@[simp] theorem setSnaps_queue (s : State) (x : Snaps) : (s.setSnaps x).queue = s.queue := rfl
@[simp] theorem setSnaps_arbiter (s : State) (x : Snaps) : (s.setSnaps x).arbiter = s.arbiter := rfl
@[simp] theorem setSnaps_channels (s : State) (x : Snaps) : (s.setSnaps x).channels = s.channels := rfl
@[simp] theorem setSnaps_toggles (s : State) (x : Snaps) : (s.setSnaps x).toggles = s.toggles := rfl
@[simp] theorem setSnaps_packer (s : State) (x : Snaps) : (s.setSnaps x).packer = s.packer := rfl
@[simp] theorem setSnaps_payload (s : State) (x : Snaps) : (s.setSnaps x).payload = s.payload := rfl
@[simp] theorem setSnaps_tailgate (s : State) (x : Snaps) : (s.setSnaps x).tailgate = s.tailgate := rfl
@[simp] theorem setSnaps_clock (s : State) (x : Snaps) : (s.setSnaps x).clock = s.clock := rfl
@[simp] theorem setSnaps_snaps (s : State) (x : Snaps) : (s.setSnaps x).snaps = x := rfl
@[simp] theorem setSnaps_agent (s : State) (x : Snaps) : (s.setSnaps x).agent = s.agent := rfl
@[simp] theorem setSnaps_pending (s : State) (x : Snaps) : (s.setSnaps x).pending = s.pending := rfl
@[simp] theorem setAgent_sys (s : State) (x : Agent) : (s.setAgent x).sys = s.sys := rfl
@[simp] theorem setAgent_mode (s : State) (x : Agent) : (s.setAgent x).mode = s.mode := rfl
@[simp] theorem setAgent_store (s : State) (x : Agent) : (s.setAgent x).store = s.store := rfl
@[simp] theorem setAgent_cfg (s : State) (x : Agent) : (s.setAgent x).cfg = s.cfg := rfl
@[simp] theorem setAgent_chassis (s : State) (x : Agent) : (s.setAgent x).chassis = s.chassis := rfl
@[simp] theorem setAgent_body (s : State) (x : Agent) : (s.setAgent x).body = s.body := rfl
@[simp] theorem setAgent_statusBuffer (s : State) (x : Agent) : (s.setAgent x).statusBuffer = s.statusBuffer := rfl
@[simp] theorem setAgent_control (s : State) (x : Agent) : (s.setAgent x).control = s.control := rfl
@[simp] theorem setAgent_routes (s : State) (x : Agent) : (s.setAgent x).routes = s.routes := rfl
@[simp] theorem setAgent_statusTimer (s : State) (x : Agent) : (s.setAgent x).statusTimer = s.statusTimer := rfl
@[simp] theorem setAgent_slots (s : State) (x : Agent) : (s.setAgent x).slots = s.slots := rfl
@[simp] theorem setAgent_signals (s : State) (x : Agent) : (s.setAgent x).signals = s.signals := rfl
@[simp] theorem setAgent_scanner (s : State) (x : Agent) : (s.setAgent x).scanner = s.scanner := rfl
@[simp] theorem setAgent_lifts (s : State) (x : Agent) : (s.setAgent x).lifts = s.lifts := rfl
@[simp] theorem setAgent_foreignCommands (s : State) (x : Agent) : (s.setAgent x).foreignCommands = s.foreignCommands := rfl
@[simp] theorem setAgent_markers (s : State) (x : Agent) : (s.setAgent x).markers = s.markers := rfl
@[simp] theorem setAgent_tags (s : State) (x : Agent) : (s.setAgent x).tags = s.tags := rfl
@[simp] theorem setAgent_weigh (s : State) (x : Agent) : (s.setAgent x).weigh = s.weigh := rfl
@[simp] theorem setAgent_zeros (s : State) (x : Agent) : (s.setAgent x).zeros = s.zeros := rfl
@[simp] theorem setAgent_table (s : State) (x : Agent) : (s.setAgent x).table = s.table := rfl
@[simp] theorem setAgent_billing (s : State) (x : Agent) : (s.setAgent x).billing = s.billing := rfl
@[simp] theorem setAgent_queue (s : State) (x : Agent) : (s.setAgent x).queue = s.queue := rfl
@[simp] theorem setAgent_arbiter (s : State) (x : Agent) : (s.setAgent x).arbiter = s.arbiter := rfl
@[simp] theorem setAgent_channels (s : State) (x : Agent) : (s.setAgent x).channels = s.channels := rfl
@[simp] theorem setAgent_toggles (s : State) (x : Agent) : (s.setAgent x).toggles = s.toggles := rfl
@[simp] theorem setAgent_packer (s : State) (x : Agent) : (s.setAgent x).packer = s.packer := rfl
@[simp] theorem setAgent_payload (s : State) (x : Agent) : (s.setAgent x).payload = s.payload := rfl
@[simp] theorem setAgent_tailgate (s : State) (x : Agent) : (s.setAgent x).tailgate = s.tailgate := rfl
@[simp] theorem setAgent_clock (s : State) (x : Agent) : (s.setAgent x).clock = s.clock := rfl
@[simp] theorem setAgent_snaps (s : State) (x : Agent) : (s.setAgent x).snaps = s.snaps := rfl
@[simp] theorem setAgent_agent (s : State) (x : Agent) : (s.setAgent x).agent = x := rfl
@[simp] theorem setAgent_pending (s : State) (x : Agent) : (s.setAgent x).pending = s.pending := rfl
@[simp] theorem setPending_sys (s : State) (x : List Instr) : (s.setPending x).sys = s.sys := rfl
@[simp] theorem setPending_mode (s : State) (x : List Instr) : (s.setPending x).mode = s.mode := rfl
@[simp] theorem setPending_store (s : State) (x : List Instr) : (s.setPending x).store = s.store := rfl
@[simp] theorem setPending_cfg (s : State) (x : List Instr) : (s.setPending x).cfg = s.cfg := rfl
@[simp] theorem setPending_chassis (s : State) (x : List Instr) : (s.setPending x).chassis = s.chassis := rfl
@[simp] theorem setPending_body (s : State) (x : List Instr) : (s.setPending x).body = s.body := rfl
@[simp] theorem setPending_statusBuffer (s : State) (x : List Instr) : (s.setPending x).statusBuffer = s.statusBuffer := rfl
@[simp] theorem setPending_control (s : State) (x : List Instr) : (s.setPending x).control = s.control := rfl
@[simp] theorem setPending_routes (s : State) (x : List Instr) : (s.setPending x).routes = s.routes := rfl
@[simp] theorem setPending_statusTimer (s : State) (x : List Instr) : (s.setPending x).statusTimer = s.statusTimer := rfl
@[simp] theorem setPending_slots (s : State) (x : List Instr) : (s.setPending x).slots = s.slots := rfl
@[simp] theorem setPending_signals (s : State) (x : List Instr) : (s.setPending x).signals = s.signals := rfl
@[simp] theorem setPending_scanner (s : State) (x : List Instr) : (s.setPending x).scanner = s.scanner := rfl
@[simp] theorem setPending_lifts (s : State) (x : List Instr) : (s.setPending x).lifts = s.lifts := rfl
@[simp] theorem setPending_foreignCommands (s : State) (x : List Instr) : (s.setPending x).foreignCommands = s.foreignCommands := rfl
@[simp] theorem setPending_markers (s : State) (x : List Instr) : (s.setPending x).markers = s.markers := rfl
@[simp] theorem setPending_tags (s : State) (x : List Instr) : (s.setPending x).tags = s.tags := rfl
@[simp] theorem setPending_weigh (s : State) (x : List Instr) : (s.setPending x).weigh = s.weigh := rfl
@[simp] theorem setPending_zeros (s : State) (x : List Instr) : (s.setPending x).zeros = s.zeros := rfl
@[simp] theorem setPending_table (s : State) (x : List Instr) : (s.setPending x).table = s.table := rfl
@[simp] theorem setPending_billing (s : State) (x : List Instr) : (s.setPending x).billing = s.billing := rfl
@[simp] theorem setPending_queue (s : State) (x : List Instr) : (s.setPending x).queue = s.queue := rfl
@[simp] theorem setPending_arbiter (s : State) (x : List Instr) : (s.setPending x).arbiter = s.arbiter := rfl
@[simp] theorem setPending_channels (s : State) (x : List Instr) : (s.setPending x).channels = s.channels := rfl
@[simp] theorem setPending_toggles (s : State) (x : List Instr) : (s.setPending x).toggles = s.toggles := rfl
@[simp] theorem setPending_packer (s : State) (x : List Instr) : (s.setPending x).packer = s.packer := rfl
@[simp] theorem setPending_payload (s : State) (x : List Instr) : (s.setPending x).payload = s.payload := rfl
@[simp] theorem setPending_tailgate (s : State) (x : List Instr) : (s.setPending x).tailgate = s.tailgate := rfl
@[simp] theorem setPending_clock (s : State) (x : List Instr) : (s.setPending x).clock = s.clock := rfl
@[simp] theorem setPending_snaps (s : State) (x : List Instr) : (s.setPending x).snaps = s.snaps := rfl
@[simp] theorem setPending_agent (s : State) (x : List Instr) : (s.setPending x).agent = s.agent := rfl
@[simp] theorem setPending_pending (s : State) (x : List Instr) : (s.setPending x).pending = x := rfl

end Sys2Proof.Laws
end

