-- ==== Sys2Proof/Laws/Keeps.lean ====
section
/-! SUPPORT. What each operation leaves alone. `Field` names the replacements of the state's fields, and
`arb` the arbitration, which replaces six of them. A reading `π` of the state is blind to a replacement
that it does not see; an operation keeps every reading that is blind to what it replaces. -/

namespace Sys2Proof.Laws

open Sys2Proof Sys2Proof.Machine

set_option Elab.async false
set_option linter.unusedSimpArgs false
set_option linter.unusedTactic false
set_option linter.unreachableTactic false
set_option linter.unnecessarySeqFocus false

/-- The replacements. -/
inductive Field where
  | arb | sys | mode | store | cfg | chassis | body | statusBuffer | control | routes | statusTimer | slots | signals | scanner | lifts | foreignCommands | markers | tags | weigh | zeros | table | billing | queue | arbiter | channels | toggles | packer | payload | tailgate | clock | snaps | agent | pending
  deriving DecidableEq, Repr

/-- A reading that a replacement does not change. -/
def Blind {α : Type} (π : State → α) : Field → Prop
  | .arb => ∀ s, π (arbitrate s) = π s
  | .sys => ∀ s x, π (State.setSys s x) = π s
  | .mode => ∀ s x, π (State.setMode s x) = π s
  | .store => ∀ s x, π (State.setStore s x) = π s
  | .cfg => ∀ s x, π (State.setCfg s x) = π s
  | .chassis => ∀ s x, π (State.setChassis s x) = π s
  | .body => ∀ s x, π (State.setBody s x) = π s
  | .statusBuffer => ∀ s x, π (State.setStatusBuffer s x) = π s
  | .control => ∀ s x, π (State.setControl s x) = π s
  | .routes => ∀ s x, π (State.setRoutes s x) = π s
  | .statusTimer => ∀ s x, π (State.setStatusTimer s x) = π s
  | .slots => ∀ s x, π (State.setSlots s x) = π s
  | .signals => ∀ s x, π (State.setSignals s x) = π s
  | .scanner => ∀ s x, π (State.setScanner s x) = π s
  | .lifts => ∀ s x, π (State.setLifts s x) = π s
  | .foreignCommands => ∀ s x, π (State.setForeignCommands s x) = π s
  | .markers => ∀ s x, π (State.setMarkers s x) = π s
  | .tags => ∀ s x, π (State.setTags s x) = π s
  | .weigh => ∀ s x, π (State.setWeigh s x) = π s
  | .zeros => ∀ s x, π (State.setZeros s x) = π s
  | .table => ∀ s x, π (State.setTable s x) = π s
  | .billing => ∀ s x, π (State.setBilling s x) = π s
  | .queue => ∀ s x, π (State.setQueue s x) = π s
  | .arbiter => ∀ s x, π (State.setArbiter s x) = π s
  | .channels => ∀ s x, π (State.setChannels s x) = π s
  | .toggles => ∀ s x, π (State.setToggles s x) = π s
  | .packer => ∀ s x, π (State.setPacker s x) = π s
  | .payload => ∀ s x, π (State.setPayload s x) = π s
  | .tailgate => ∀ s x, π (State.setTailgate s x) = π s
  | .clock => ∀ s x, π (State.setClock s x) = π s
  | .snaps => ∀ s x, π (State.setSnaps s x) = π s
  | .agent => ∀ s x, π (State.setAgent s x) = π s
  | .pending => ∀ s x, π (State.setPending s x) = π s

/-- A reading that no replacement of a list changes. -/
def Keeps {α : Type} (π : State → α) (l : List Field) : Prop := ∀ f ∈ l, Blind π f

theorem Keeps.mono {α : Type} {π : State → α} {l m : List Field} (h : Keeps π m)
    (hs : l.all m.contains = true := by decide) : Keeps π l := by
  intro f hf
  exact h f (by simpa using List.all_eq_true.mp hs f hf)

theorem Keeps.at {α : Type} {π : State → α} {m : List Field} (h : Keeps π m) (f : Field)
    (hf : m.contains f = true := by decide) : Blind π f := h f (by simpa using hf)

theorem Keeps.arb {α : Type} {π : State → α} {m : List Field} (h : Keeps π m)
    (hf : m.contains .arb = true := by decide) : ∀ s, π (arbitrate s) = π s := h.at .arb hf

theorem Keeps.sys {α : Type} {π : State → α} {m : List Field} (h : Keeps π m)
    (hf : m.contains .sys = true := by decide) : ∀ s x, π (State.setSys s x) = π s := h.at .sys hf

theorem Keeps.mode {α : Type} {π : State → α} {m : List Field} (h : Keeps π m)
    (hf : m.contains .mode = true := by decide) : ∀ s x, π (State.setMode s x) = π s := h.at .mode hf

theorem Keeps.store {α : Type} {π : State → α} {m : List Field} (h : Keeps π m)
    (hf : m.contains .store = true := by decide) : ∀ s x, π (State.setStore s x) = π s := h.at .store hf

theorem Keeps.cfg {α : Type} {π : State → α} {m : List Field} (h : Keeps π m)
    (hf : m.contains .cfg = true := by decide) : ∀ s x, π (State.setCfg s x) = π s := h.at .cfg hf

theorem Keeps.chassis {α : Type} {π : State → α} {m : List Field} (h : Keeps π m)
    (hf : m.contains .chassis = true := by decide) : ∀ s x, π (State.setChassis s x) = π s := h.at .chassis hf

theorem Keeps.body {α : Type} {π : State → α} {m : List Field} (h : Keeps π m)
    (hf : m.contains .body = true := by decide) : ∀ s x, π (State.setBody s x) = π s := h.at .body hf

theorem Keeps.statusBuffer {α : Type} {π : State → α} {m : List Field} (h : Keeps π m)
    (hf : m.contains .statusBuffer = true := by decide) : ∀ s x, π (State.setStatusBuffer s x) = π s := h.at .statusBuffer hf

theorem Keeps.control {α : Type} {π : State → α} {m : List Field} (h : Keeps π m)
    (hf : m.contains .control = true := by decide) : ∀ s x, π (State.setControl s x) = π s := h.at .control hf

theorem Keeps.routes {α : Type} {π : State → α} {m : List Field} (h : Keeps π m)
    (hf : m.contains .routes = true := by decide) : ∀ s x, π (State.setRoutes s x) = π s := h.at .routes hf

theorem Keeps.statusTimer {α : Type} {π : State → α} {m : List Field} (h : Keeps π m)
    (hf : m.contains .statusTimer = true := by decide) : ∀ s x, π (State.setStatusTimer s x) = π s := h.at .statusTimer hf

theorem Keeps.slots {α : Type} {π : State → α} {m : List Field} (h : Keeps π m)
    (hf : m.contains .slots = true := by decide) : ∀ s x, π (State.setSlots s x) = π s := h.at .slots hf

theorem Keeps.signals {α : Type} {π : State → α} {m : List Field} (h : Keeps π m)
    (hf : m.contains .signals = true := by decide) : ∀ s x, π (State.setSignals s x) = π s := h.at .signals hf

theorem Keeps.scanner {α : Type} {π : State → α} {m : List Field} (h : Keeps π m)
    (hf : m.contains .scanner = true := by decide) : ∀ s x, π (State.setScanner s x) = π s := h.at .scanner hf

theorem Keeps.lifts {α : Type} {π : State → α} {m : List Field} (h : Keeps π m)
    (hf : m.contains .lifts = true := by decide) : ∀ s x, π (State.setLifts s x) = π s := h.at .lifts hf

theorem Keeps.foreignCommands {α : Type} {π : State → α} {m : List Field} (h : Keeps π m)
    (hf : m.contains .foreignCommands = true := by decide) : ∀ s x, π (State.setForeignCommands s x) = π s := h.at .foreignCommands hf

theorem Keeps.markers {α : Type} {π : State → α} {m : List Field} (h : Keeps π m)
    (hf : m.contains .markers = true := by decide) : ∀ s x, π (State.setMarkers s x) = π s := h.at .markers hf

theorem Keeps.tags {α : Type} {π : State → α} {m : List Field} (h : Keeps π m)
    (hf : m.contains .tags = true := by decide) : ∀ s x, π (State.setTags s x) = π s := h.at .tags hf

theorem Keeps.weigh {α : Type} {π : State → α} {m : List Field} (h : Keeps π m)
    (hf : m.contains .weigh = true := by decide) : ∀ s x, π (State.setWeigh s x) = π s := h.at .weigh hf

theorem Keeps.zeros {α : Type} {π : State → α} {m : List Field} (h : Keeps π m)
    (hf : m.contains .zeros = true := by decide) : ∀ s x, π (State.setZeros s x) = π s := h.at .zeros hf

theorem Keeps.table {α : Type} {π : State → α} {m : List Field} (h : Keeps π m)
    (hf : m.contains .table = true := by decide) : ∀ s x, π (State.setTable s x) = π s := h.at .table hf

theorem Keeps.billing {α : Type} {π : State → α} {m : List Field} (h : Keeps π m)
    (hf : m.contains .billing = true := by decide) : ∀ s x, π (State.setBilling s x) = π s := h.at .billing hf

theorem Keeps.queue {α : Type} {π : State → α} {m : List Field} (h : Keeps π m)
    (hf : m.contains .queue = true := by decide) : ∀ s x, π (State.setQueue s x) = π s := h.at .queue hf

theorem Keeps.arbiter {α : Type} {π : State → α} {m : List Field} (h : Keeps π m)
    (hf : m.contains .arbiter = true := by decide) : ∀ s x, π (State.setArbiter s x) = π s := h.at .arbiter hf

theorem Keeps.channels {α : Type} {π : State → α} {m : List Field} (h : Keeps π m)
    (hf : m.contains .channels = true := by decide) : ∀ s x, π (State.setChannels s x) = π s := h.at .channels hf

theorem Keeps.toggles {α : Type} {π : State → α} {m : List Field} (h : Keeps π m)
    (hf : m.contains .toggles = true := by decide) : ∀ s x, π (State.setToggles s x) = π s := h.at .toggles hf

theorem Keeps.packer {α : Type} {π : State → α} {m : List Field} (h : Keeps π m)
    (hf : m.contains .packer = true := by decide) : ∀ s x, π (State.setPacker s x) = π s := h.at .packer hf

theorem Keeps.payload {α : Type} {π : State → α} {m : List Field} (h : Keeps π m)
    (hf : m.contains .payload = true := by decide) : ∀ s x, π (State.setPayload s x) = π s := h.at .payload hf

theorem Keeps.tailgate {α : Type} {π : State → α} {m : List Field} (h : Keeps π m)
    (hf : m.contains .tailgate = true := by decide) : ∀ s x, π (State.setTailgate s x) = π s := h.at .tailgate hf

theorem Keeps.clock {α : Type} {π : State → α} {m : List Field} (h : Keeps π m)
    (hf : m.contains .clock = true := by decide) : ∀ s x, π (State.setClock s x) = π s := h.at .clock hf

theorem Keeps.snaps {α : Type} {π : State → α} {m : List Field} (h : Keeps π m)
    (hf : m.contains .snaps = true := by decide) : ∀ s x, π (State.setSnaps s x) = π s := h.at .snaps hf

theorem Keeps.agent {α : Type} {π : State → α} {m : List Field} (h : Keeps π m)
    (hf : m.contains .agent = true := by decide) : ∀ s x, π (State.setAgent s x) = π s := h.at .agent hf

theorem Keeps.pending {α : Type} {π : State → α} {m : List Field} (h : Keeps π m)
    (hf : m.contains .pending = true := by decide) : ∀ s x, π (State.setPending s x) = π s := h.at .pending hf

theorem foldl_keeps {α β : Type} (π : State → α) (g : State → β → State)
    (h : ∀ s b, π (g s b) = π s) (l : List β) (s : State) : π (l.foldl g s) = π s := by
  induction l generalizing s with
  | nil => rfl
  | cons b l ih => exact (ih (g s b)).trans (h s b)

theorem setPort_keeps {α : Type} (π : State → α) (h : Keeps π [.chassis, .body]) (s : State) (p : Port)
    (x : PortState) : π (s.setPort p x) = π s := by
  cases p with
  | chassis => exact (h.chassis) s x
  | body => exact (h.body) s x

theorem onExpiry_keeps {α : Type} (π : State → α) (h : Keeps π [.sys])
    (t : Timer) (s : State) (f : Nat → State → State) (hf : ∀ e s, π (f e s) = π s) :
    π (onExpiry t s f) = π s := by
  cases t with
  | running e => exact (hf e _).trans ((h.sys) s _)
  | stopped => rfl
  | held l => rfl

theorem dropOn_keeps {α : Type} (π : State → α)
    (hk : Keeps π [.routes])
    (i : Fin 64) (s : State) :
    π (dropOn i s) = π s := by
  unfold dropOn
  try dsimp only
  (repeat' split) <;> first | with_reducible rfl | simp only [dropOn, State.setRoute, hk.routes]

theorem chooseTx_keeps {α : Type} (π : State → α)
    (hk : Keeps π [.chassis, .body])
    (p : Port) (s : State) :
    π (chooseTx p s) = π s := by
  unfold chooseTx
  try dsimp only
  (repeat' split) <;> first | with_reducible rfl | simp only [chooseTx, setPort_keeps π hk.mono, hk.chassis, hk.body]

theorem rechooseTx_keeps {α : Type} (π : State → α)
    (hk : Keeps π [.chassis, .body])
    (p : Port) (s : State) :
    π (rechooseTx p s) = π s := by
  unfold rechooseTx
  try dsimp only
  (repeat' split) <;> first | with_reducible rfl | simp only [rechooseTx, chooseTx_keeps π hk.mono, setPort_keeps π hk.mono, hk.chassis, hk.body]

theorem chooseTx_body_keeps {α : Type} (π : State → α) (hk : Keeps π [.body]) (s : State) :
    π (chooseTx .body s) = π s := by
  unfold chooseTx
  dsimp only
  (repeat' split) <;> first | with_reducible rfl | simp only [State.setPort, hk.body]

theorem offerControl_keeps {α : Type} (π : State → α)
    (hk : Keeps π [.body, .control])
    (f : Frame) (reset : Bool) (s : State) :
    π (offerControl f reset s) = π s := by
  unfold offerControl
  try dsimp only
  (repeat' split) <;> first | with_reducible rfl | simp only [offerControl, chooseTx_body_keeps π hk.mono, hk.body, hk.control]

theorem offerStatus_keeps {α : Type} (π : State → α)
    (hk : Keeps π [.chassis, .body, .statusBuffer])
    (f : Frame) (s : State) :
    π (offerStatus f s) = π s := by
  unfold offerStatus
  try dsimp only
  (repeat' split) <;> first | with_reducible rfl | simp only [offerStatus, chooseTx_keeps π hk.mono, hk.chassis, hk.statusBuffer]

theorem pushForward_keeps {α : Type} (π : State → α)
    (hk : Keeps π [.chassis, .body])
    (p : Port) (f : Frame) (origin : Option (Fin 64)) (s : State) :
    π (pushForward p f origin s) = π s := by
  unfold pushForward
  try dsimp only
  (repeat' split) <;> first | with_reducible rfl | simp only [pushForward, chooseTx_keeps π hk.mono, setPort_keeps π hk.mono, hk.chassis, hk.body]

theorem countUnrouted_keeps {α : Type} (π : State → α)
    (hk : Keeps π [.chassis, .body])
    (p : Port) (s : State) :
    π (countUnrouted p s) = π s := by
  unfold countUnrouted
  try dsimp only
  (repeat' split) <;> first | with_reducible rfl | simp only [countUnrouted, setPort_keeps π hk.mono, hk.chassis, hk.body]

theorem sendNotice_keeps {α : Type} (π : State → α)
    (hk : Keeps π [.body, .control, .agent])
    (s : State) :
    π (sendNotice s) = π s := by
  unfold sendNotice
  try dsimp only
  (repeat' split) <;> first | with_reducible rfl | simp only [sendNotice, offerControl_keeps π hk.mono, State.now, hk.agent]

theorem raiseNotice_keeps {α : Type} (π : State → α)
    (hk : Keeps π [.body, .control, .agent])
    (k : Notice) (s : State) :
    π (raiseNotice k s) = π s := by
  unfold raiseNotice
  try dsimp only
  (repeat' split) <;> first | with_reducible rfl | simp only [raiseNotice, sendNotice_keeps π hk.mono, hk.agent]

theorem discardForwarded_keeps {α : Type} (π : State → α)
    (hk : Keeps π [.chassis, .body, .routes])
    (p : Port) (s : State) (f : FwdFrame) :
    π (discardForwarded p s f) = π s := by
  unfold discardForwarded
  try dsimp only
  (repeat' split) <;> first | with_reducible rfl | simp only [discardForwarded, countUnrouted_keeps π hk.mono, dropOn_keeps π hk.mono]

theorem emptyHold_keeps {α : Type} (π : State → α)
    (hk : Keeps π [.routes])
    (s : State) (i : Fin 64) :
    π (emptyHold s i) = π s := by
  unfold emptyHold
  try dsimp only
  (repeat' split) <;> first | with_reducible rfl | simp only [emptyHold, dropOn_keeps π hk.mono, State.setRoute, hk.routes]

theorem clearFirst_keeps {α : Type} (π : State → α)
    (hk : Keeps π [.statusBuffer, .control])
    (p : Port) (s : State) :
    π (clearFirst p s) = π s := by
  unfold clearFirst
  try dsimp only
  (repeat' split) <;> first | with_reducible rfl | simp only [clearFirst, hk.statusBuffer, hk.control]

theorem goOff_keeps {α : Type} (π : State → α)
    (hk : Keeps π [.chassis, .body, .statusBuffer, .control, .routes, .agent])
    (p : Port) (s : State) :
    π (goOff p s) = π s := by
  unfold goOff
  simp only [raiseNotice_keeps π hk.mono, foldl_keeps π emptyHold (emptyHold_keeps π hk.mono),
    foldl_keeps π (discardForwarded p) (discardForwarded_keeps π hk.mono p),
    clearFirst_keeps π hk.mono, setPort_keeps π hk.mono]

theorem popSent_keeps {α : Type} (π : State → α)
    (hk : Keeps π [.chassis, .body, .statusBuffer, .control])
    (p : Port) (sel : TxSel) (s : State) :
    π (popSent p sel s) = π s := by
  unfold popSent
  try dsimp only
  (repeat' split) <;> first | with_reducible rfl | simp only [popSent, setPort_keeps π hk.mono, hk.chassis, hk.body, hk.statusBuffer, hk.control]

theorem frameSent_keeps {α : Type} (π : State → α)
    (hk : Keeps π [.chassis, .body, .statusBuffer, .control])
    (p : Port) (s : State) :
    π (frameSent p s) = π s := by
  unfold frameSent
  try dsimp only
  (repeat' split) <;> first | with_reducible rfl | simp only [frameSent, popSent_keeps π hk.mono, rechooseTx_keeps π hk.mono, setPort_keeps π hk.mono,
      hk.chassis, hk.body]

theorem lostArbitration_keeps {α : Type} (π : State → α)
    (hk : Keeps π [.chassis, .body])
    (p : Port) (s : State) :
    π (lostArbitration p s) = π s := by
  unfold lostArbitration
  try dsimp only
  (repeat' split) <;> first | with_reducible rfl | simp only [lostArbitration, rechooseTx_keeps π hk.mono]

theorem transmitError_keeps {α : Type} (π : State → α)
    (hk : Keeps π [.chassis, .body, .statusBuffer, .control, .routes, .agent])
    (p : Port) (s : State) :
    π (transmitError p s) = π s := by
  unfold transmitError
  try dsimp only
  (repeat' split) <;> first | with_reducible rfl | simp only [transmitError, goOff_keeps π hk.mono, rechooseTx_keeps π hk.mono, setPort_keeps π hk.mono,
      hk.chassis, hk.body]

theorem receiveError_keeps {α : Type} (π : State → α)
    (hk : Keeps π [.chassis, .body])
    (p : Port) (s : State) :
    π (receiveError p s) = π s := by
  unfold receiveError
  try dsimp only
  (repeat' split) <;> first | with_reducible rfl | simp only [receiveError, setPort_keeps π hk.mono, hk.chassis, hk.body]

theorem receivedWell_keeps {α : Type} (π : State → α)
    (hk : Keeps π [.chassis, .body])
    (p : Port) (s : State) :
    π (receivedWell p s) = π s := by
  unfold receivedWell
  try dsimp only
  (repeat' split) <;> first | with_reducible rfl | simp only [receivedWell, setPort_keeps π hk.mono, hk.chassis, hk.body]

theorem remoteFrame_keeps {α : Type} (π : State → α)
    (hk : Keeps π [.chassis, .body])
    (p : Port) (s : State) :
    π (remoteFrame p s) = π s := by
  unfold remoteFrame
  try dsimp only
  (repeat' split) <;> first | with_reducible rfl | simp only [remoteFrame, receivedWell_keeps π hk.mono]

theorem recoverPort_keeps {α : Type} (π : State → α)
    (hk : Keeps π [.sys, .chassis, .body])
    (p : Port) (s : State) :
    π (recoverPort p s) = π s := by
  unfold recoverPort
  try split
  all_goals first
    | with_reducible rfl
    | (refine onExpiry_keeps π hk.mono _ _ _ fun e s => ?_
       try dsimp only
       (repeat' split) <;> simp only [recoverPort, setPort_keeps π hk.mono, hk.sys, hk.chassis, hk.body])

theorem recessiveBits_keeps {α : Type} (π : State → α)
    (hk : Keeps π [.chassis, .body])
    (p : Port) (s : State) :
    π (recessiveBits p s) = π s := by
  unfold recessiveBits
  try dsimp only
  (repeat' split) <;> first | with_reducible rfl | simp only [recessiveBits, chooseTx_keeps π hk.mono, setPort_keeps π hk.mono, hk.chassis, hk.body]

theorem refreshValves_keeps {α : Type} (π : State → α)
    (hk : Keeps π [.channels])
    (s : State) :
    π (refreshValves s) = π s := by
  unfold refreshValves
  try dsimp only
  (repeat' split) <;> first | with_reducible rfl | simp only [refreshValves, hk.channels]

theorem periodEnd_keeps {α : Type} (π : State → α)
    (hk : Keeps π [.sys, .channels])
    (c : Fin 12) (s : State) :
    π (periodEnd c s) = π s := by
  unfold periodEnd
  try split
  all_goals first
    | with_reducible rfl
    | (refine onExpiry_keeps π hk.mono _ _ _ fun e s => ?_
       try dsimp only
       (repeat' split) <;> simp only [periodEnd, hk.sys, hk.channels])

theorem endRun_keeps {α : Type} (π : State → α)
    (hk : Keeps π [.weigh])
    (st : Station) (s : State) :
    π (endRun st s) = π s := by
  unfold endRun
  try dsimp only
  (repeat' split) <;> first | with_reducible rfl | simp only [endRun, State.setScale, hk.weigh]

theorem newRequest_keeps {α : Type} (π : State → α)
    (hk : Keeps π [.arb, .arbiter])
    (r : Requester) (ph : FlowPhase) (s : State) :
    π (newRequest r ph s) = π s := by
  unfold newRequest
  try dsimp only
  (repeat' split) <;> first | with_reducible rfl | simp only [newRequest, hk.arb, hk.arbiter]

theorem changeDemand_keeps {α : Type} (π : State → α)
    (hk : Keeps π [.arb, .arbiter])
    (r : Requester) (ph : FlowPhase) (s : State) :
    π (changeDemand r ph s) = π s := by
  unfold changeDemand
  try dsimp only
  (repeat' split) <;> first | with_reducible rfl | simp only [changeDemand, hk.arb, hk.arbiter]

theorem releaseRequest_keeps {α : Type} (π : State → α)
    (hk : Keeps π [.arb, .arbiter])
    (r : Requester) (s : State) :
    π (releaseRequest r s) = π s := by
  unfold releaseRequest
  try dsimp only
  (repeat' split) <;> first | with_reducible rfl | simp only [releaseRequest, hk.arb, hk.arbiter]

theorem setGroup_keeps {α : Type} (π : State → α)
    (hk : Keeps π [.arb, .arbiter])
    (group : List Station) (s : State) :
    π (setGroup group s) = π s := by
  unfold setGroup
  try dsimp only
  (repeat' split) <;> first | with_reducible rfl | simp only [setGroup, hk.arb, hk.arbiter]

theorem setGroupLowest_keeps {α : Type} (π : State → α)
    (hk : Keeps π [.arb, .arbiter])
    (st : Station) (s : State) :
    π (setGroupLowest st s) = π s := by
  unfold setGroupLowest
  try dsimp only
  (repeat' split) <;> first | with_reducible rfl | simp only [setGroupLowest, setGroup_keeps π hk.mono]

theorem commandLowest_keeps {α : Type} (π : State → α)
    (hk : Keeps π [.arb, .arbiter])
    (st : Station) (s : State) :
    π (commandLowest st s) = π s := by
  unfold commandLowest
  try dsimp only
  (repeat' split) <;> first | with_reducible rfl | simp only [commandLowest, hk.arb, hk.arbiter]

theorem settleToggles_keeps {α : Type} (π : State → α)
    (hk : Keeps π [.toggles])
    (s : State) :
    π (settleToggles s) = π s := by
  unfold settleToggles
  try dsimp only
  (repeat' split) <;> first | with_reducible rfl | simp only [settleToggles, State.now, hk.toggles]

theorem halfPeriodExpiry_keeps {α : Type} (π : State → α)
    (hk : Keeps π [.sys, .toggles])
    (k : Toggle) (s : State) :
    π (halfPeriodExpiry k s) = π s := by
  unfold halfPeriodExpiry
  try split
  all_goals first
    | with_reducible rfl
    | (refine onExpiry_keeps π hk.mono _ _ _ fun e s => ?_
       try dsimp only
       (repeat' split) <;> simp only [halfPeriodExpiry, hk.sys, hk.toggles])

theorem countLookup_keeps {α : Type} (π : State → α)
    (hk : Keeps π [.table])
    (r : Found) (s : State) :
    π (countLookup r s) = π s := by
  unfold countLookup
  try dsimp only
  (repeat' split) <;> first | with_reducible rfl | simp only [countLookup, State.countTable, hk.table]

theorem waitLookup_keeps {α : Type} (π : State → α)
    (hk : Keeps π [.table])
    (st : Station) (tag : Nat) (s : State) :
    π (waitLookup st tag s) = π s := by
  unfold waitLookup
  try dsimp only
  (repeat' split) <;> first | with_reducible rfl | simp only [waitLookup, State.countTable, hk.table]

theorem countAccess_keeps {α : Type} (π : State → α)
    (hk : Keeps π [.table])
    (r : CounterAnswer) (s : State) :
    π (countAccess r s) = π s := by
  unfold countAccess
  try dsimp only
  (repeat' split) <;> first | with_reducible rfl | simp only [countAccess, State.countTable, hk.table]

theorem endCheck_keeps {α : Type} (π : State → α)
    (hk : Keeps π [.body, .control, .table, .agent])
    (s : State) :
    π (endCheck s) = π s := by
  unfold endCheck
  try dsimp only
  (repeat' split) <;> first | with_reducible rfl | simp only [endCheck, raiseNotice_keeps π hk.mono, State.countTable, hk.table]

theorem beginCheck_keeps {α : Type} (π : State → α)
    (hk : Keeps π [.body, .control, .table, .agent])
    (s : State) :
    π (beginCheck s) = π s := by
  unfold beginCheck
  try dsimp only
  (repeat' split) <;> first | with_reducible rfl | simp only [beginCheck, endCheck_keeps π hk.mono, State.now, hk.table]

theorem endEdit_keeps {α : Type} (π : State → α)
    (hk : Keeps π [.table])
    (r : TableResult) (s : State) :
    π (endEdit r s) = π s := by
  unfold endEdit
  try dsimp only
  (repeat' split) <;> first | with_reducible rfl | simp only [endEdit, hk.table]

theorem updateRecord_keeps {α : Type} (π : State → α)
    (hk : Keeps π [.store, .table])
    (p : Nat) (s : State) :
    π (updateRecord p s) = π s := by
  unfold updateRecord
  try dsimp only
  (repeat' split) <;> first | with_reducible rfl | simp only [updateRecord, State.countTable, hk.store, hk.table]

theorem beginMove_keeps {α : Type} (π : State → α)
    (hk : Keeps π [.table])
    (j : Journal) (s : State) :
    π (beginMove j s) = π s := by
  unfold beginMove
  try dsimp only
  (repeat' split) <;> first | with_reducible rfl | simp only [beginMove, State.now, hk.table]

theorem moveRecord_keeps {α : Type} (π : State → α)
    (hk : Keeps π [.store, .table])
    (s : State) :
    π (moveRecord s) = π s := by
  unfold moveRecord
  try dsimp only
  (repeat' split) <;> first | with_reducible rfl | simp only [moveRecord, hk.store, hk.table]

theorem moveStep_keeps {α : Type} (π : State → α)
    (hk : Keeps π [.sys, .store, .table])
    (s : State) :
    π (moveStep s) = π s := by
  unfold moveStep
  try split
  all_goals first
    | with_reducible rfl
    | (refine onExpiry_keeps π hk.mono _ _ _ fun e s => ?_
       try dsimp only
       (repeat' split) <;> simp only [moveStep, moveRecord_keeps π hk.mono, hk.sys, hk.table])

theorem finishMove_keeps {α : Type} (π : State → α)
    (hk : Keeps π [.store, .table])
    (s : State) :
    π (finishMove s) = π s := by
  unfold finishMove
  try dsimp only
  (repeat' split) <;> first | with_reducible rfl | simp only [finishMove, State.countTable, hk.store, hk.table]

theorem resumeTable_keeps {α : Type} (π : State → α)
    (hk : Keeps π [.body, .control, .table, .agent])
    (s : State) :
    π (resumeTable s) = π s := by
  unfold resumeTable
  try dsimp only
  (repeat' split) <;> first | with_reducible rfl | simp only [resumeTable, beginCheck_keeps π hk.mono, State.now, hk.table]

theorem setFlag_keeps {α : Type} (π : State → α)
    (hk : Keeps π [.lifts])
    (st : Station) (flag : LiftFlag) (s : State) :
    π (setFlag st flag s) = π s := by
  unfold setFlag
  try dsimp only
  (repeat' split) <;> first | with_reducible rfl | simp only [setFlag, State.onRecord, State.setLift, hk.lifts]

theorem takeWindow_keeps {α : Type} (π : State → α)
    (hk : Keeps π [.weigh])
    (st : Station) (gross : Bool) (win : List Int) (s : State) :
    π (takeWindow st gross win s) = π s := by
  unfold takeWindow
  try dsimp only
  (repeat' split) <;> first | with_reducible rfl | simp only [takeWindow, State.setScale, hk.weigh]

theorem phaseSample_keeps {α : Type} (π : State → α)
    (hk : Keeps π [.weigh])
    (st : Station) (gross : Bool) (count : Int) (angle seq : Nat) (s : State) :
    π (phaseSample st gross count angle seq s) = π s := by
  unfold phaseSample
  try dsimp only
  (repeat' split) <;> first | with_reducible rfl | simp only [phaseSample, endRun_keeps π hk.mono, takeWindow_keeps π hk.mono, State.setScale, hk.weigh]

theorem endCapture_keeps {α : Type} (π : State → α)
    (hk : Keeps π [.body, .control, .weigh, .agent])
    (st : Station) (r : ZeroResult) (s : State) :
    π (endCapture st r s) = π s := by
  unfold endCapture
  try dsimp only
  (repeat' split) <;> first | with_reducible rfl | simp only [endCapture, raiseNotice_keeps π hk.mono, State.setScale, hk.weigh]

theorem captureWindow_keeps {α : Type} (π : State → α)
    (hk : Keeps π [.body, .control, .weigh, .agent])
    (st : Station) (win : List Int) (s : State) :
    π (captureWindow st win s) = π s := by
  unfold captureWindow
  try dsimp only
  (repeat' split) <;> first | with_reducible rfl | simp only [captureWindow, endCapture_keeps π hk.mono, State.setScale, hk.weigh]

theorem captureSample_keeps {α : Type} (π : State → α)
    (hk : Keeps π [.body, .control, .weigh, .agent])
    (st : Station) (count : Int) (seq : Nat) (s : State) :
    π (captureSample st count seq s) = π s := by
  unfold captureSample
  try dsimp only
  (repeat' split) <;> first | with_reducible rfl | simp only [captureSample, captureWindow_keeps π hk.mono, State.setScale, hk.weigh]

theorem stationSample_keeps {α : Type} (π : State → α)
    (hk : Keeps π [.body, .control, .weigh, .agent])
    (st : Station) (count : Int) (angle seq : Nat) (s : State) :
    π (stationSample st count angle seq s) = π s := by
  unfold stationSample
  try dsimp only
  (repeat' split) <;> first | with_reducible rfl | simp only [stationSample, captureSample_keeps π hk.mono, phaseSample_keeps π hk.mono, State.setScale,
      State.now, hk.weigh]

theorem ignoreSample_keeps {α : Type} (π : State → α)
    (hk : Keeps π [.weigh])
    (s : State) :
    π (ignoreSample s) = π s := by
  unfold ignoreSample
  try dsimp only
  (repeat' split) <;> first | with_reducible rfl | simp only [ignoreSample, hk.weigh]

theorem weighSample_keeps {α : Type} (π : State → α)
    (hk : Keeps π [.body, .control, .weigh, .agent])
    (src : Byte) (count : BitVec 24) (angle : BitVec 16) (seq : Byte) (s : State) :
    π (weighSample src count angle seq s) = π s := by
  unfold weighSample
  try dsimp only
  (repeat' split) <;> first | with_reducible rfl | simp only [weighSample, ignoreSample_keeps π hk.mono, stationSample_keeps π hk.mono]

theorem enterWeighing_keeps {α : Type} (π : State → α)
    (hk : Keeps π [.weigh])
    (st : Station) (s : State) :
    π (enterWeighing st s) = π s := by
  unfold enterWeighing
  try dsimp only
  (repeat' split) <;> first | with_reducible rfl | simp only [enterWeighing, State.setScale, State.now, hk.weigh]

theorem leaveWeighing_keeps {α : Type} (π : State → α)
    (hk : Keeps π [.weigh])
    (st : Station) (s : State) :
    π (leaveWeighing st s) = π s := by
  unfold leaveWeighing
  try dsimp only
  (repeat' split) <;> first | with_reducible rfl | simp only [leaveWeighing, State.setScale, hk.weigh]

theorem discardWeighing_keeps {α : Type} (π : State → α)
    (hk : Keeps π [.weigh])
    (st : Station) (s : State) :
    π (discardWeighing st s) = π s := by
  unfold discardWeighing
  try dsimp only
  (repeat' split) <;> first | with_reducible rfl | simp only [discardWeighing, State.setScale, hk.weigh]

theorem fixGross_keeps {α : Type} (π : State → α)
    (hk : Keeps π [.lifts, .weigh])
    (st : Station) (s : State) :
    π (fixGross st s) = π s := by
  unfold fixGross
  try dsimp only
  (repeat' split) <;> first | with_reducible rfl | simp only [fixGross, leaveWeighing_keeps π hk.mono, State.onRecord, State.setScale, State.setLift,
      hk.lifts, hk.weigh]

theorem fixTare_keeps {α : Type} (π : State → α)
    (hk : Keeps π [.lifts, .weigh])
    (st : Station) (s : State) :
    π (fixTare st s) = π s := by
  unfold fixTare
  try dsimp only
  (repeat' split) <;> first | with_reducible rfl | simp only [fixTare, leaveWeighing_keeps π hk.mono, State.onRecord, State.setScale, State.setLift,
      hk.lifts, hk.weigh]

theorem silenceExpiry_keeps {α : Type} (π : State → α)
    (hk : Keeps π [.sys, .lifts, .weigh])
    (st : Station) (s : State) :
    π (silenceExpiry st s) = π s := by
  unfold silenceExpiry
  try dsimp only
  (repeat' split) <;> first | with_reducible rfl | simp only [silenceExpiry, setFlag_keeps π hk.mono, State.reach, State.setScale, hk.sys, hk.weigh]

theorem attitude_keeps {α : Type} (π : State → α)
    (hk : Keeps π [.weigh])
    (src : Byte) (pitch roll : BitVec 16) (s : State) :
    π (attitude src pitch roll s) = π s := by
  unfold attitude
  try dsimp only
  (repeat' split) <;> first | with_reducible rfl | simp only [attitude, ignoreSample_keeps π hk.mono, State.now, hk.weigh]

theorem attitudeExpiry_keeps {α : Type} (π : State → α)
    (hk : Keeps π [.sys, .weigh])
    (s : State) :
    π (attitudeExpiry s) = π s := by
  unfold attitudeExpiry
  try split
  all_goals first
    | with_reducible rfl
    | (refine onExpiry_keeps π hk.mono _ _ _ fun e s => ?_
       try dsimp only
       (repeat' split) <;> simp only [attitudeExpiry, hk.sys, hk.weigh])

theorem applyPendingZero_keeps {α : Type} (π : State → α)
    (hk : Keeps π [.weigh, .zeros])
    (st : Station) (s : State) :
    π (applyPendingZero st s) = π s := by
  unfold applyPendingZero
  try dsimp only
  (repeat' split) <;> first | with_reducible rfl | simp only [applyPendingZero, State.setScale, hk.weigh, hk.zeros]

theorem cancelCapture_keeps {α : Type} (π : State → α)
    (hk : Keeps π [.body, .control, .weigh, .agent])
    (st : Station) (s : State) :
    π (cancelCapture st s) = π s := by
  unfold cancelCapture
  try dsimp only
  (repeat' split) <;> first | with_reducible rfl | simp only [cancelCapture, endCapture_keeps π hk.mono]

theorem captureExpiry_keeps {α : Type} (π : State → α)
    (hk : Keeps π [.sys, .body, .control, .weigh, .agent])
    (st : Station) (s : State) :
    π (captureExpiry st s) = π s := by
  unfold captureExpiry
  try split
  all_goals first
    | with_reducible rfl
    | (refine onExpiry_keeps π hk.mono _ _ _ fun e s => ?_
       try dsimp only
       (repeat' split) <;> simp only [captureExpiry, endCapture_keeps π hk.mono, hk.sys])

theorem beginCapture_keeps {α : Type} (π : State → α)
    (hk : Keeps π [.weigh])
    (st : Station) (s : State) :
    π (beginCapture st s) = π s := by
  unfold beginCapture
  try dsimp only
  (repeat' split) <;> first | with_reducible rfl | simp only [beginCapture, State.setScale, State.now, hk.weigh]

theorem commitZero_keeps {α : Type} (π : State → α)
    (hk : Keeps π [.weigh, .zeros])
    (s : State) (st : Station) :
    π (commitZero s st) = π s := by
  unfold commitZero
  try dsimp only
  (repeat' split) <;> first | with_reducible rfl | simp only [commitZero, State.setScale, hk.weigh, hk.zeros]

theorem queueRead_keeps {α : Type} (π : State → α)
    (hk : Keeps π [.body, .control, .tags, .agent])
    (st : Station) (tag strength : Nat) (s : State) :
    π (queueRead st tag strength s) = π s := by
  unfold queueRead
  try dsimp only
  (repeat' split) <;> first | with_reducible rfl | simp only [queueRead, raiseNotice_keeps π hk.mono, State.setTagQueue, hk.tags]

theorem absorbRead_keeps {α : Type} (π : State → α)
    (hk : Keeps π [.tags])
    (st : Station) (tag : Nat) (s : State) :
    π (absorbRead st tag s) = π s := by
  unfold absorbRead
  try dsimp only
  (repeat' split) <;> first | with_reducible rfl | simp only [absorbRead, State.setAssigned, hk.tags]

theorem assignEntry_keeps {α : Type} (π : State → α)
    (hk : Keeps π [.tags])
    (st : Station) (e : TagEntry) (s : State) :
    π (assignEntry st e s) = π s := by
  unfold assignEntry
  try dsimp only
  (repeat' split) <;> first | with_reducible rfl | simp only [assignEntry, State.setTagQueue, State.setAssigned, State.countTags, hk.tags]

theorem lockOut_keeps {α : Type} (π : State → α)
    (hk : Keeps π [.tags])
    (st : Station) (s : State) :
    π (lockOut st s) = π s := by
  unfold lockOut
  try dsimp only
  (repeat' split) <;> first | with_reducible rfl | simp only [lockOut, State.setTagQueue, State.countTags, hk.tags]

theorem assignTag_keeps {α : Type} (π : State → α)
    (hk : Keeps π [.tags])
    (st : Station) (s : State) :
    π (assignTag st s).2 = π s := by
  unfold assignTag
  try dsimp only
  (repeat' split) <;> first | with_reducible rfl | simp only [assignTag, assignEntry_keeps π hk.mono, lockOut_keeps π hk.mono, State.countTags, hk.tags]

theorem assignLate_keeps {α : Type} (π : State → α)
    (hk : Keeps π [.tags])
    (st : Station) (tag : Nat) (s : State) :
    π (assignLate st tag s) = π s := by
  unfold assignLate
  try dsimp only
  (repeat' split) <;> first | with_reducible rfl | simp only [assignLate, State.setAssigned, State.countTags, hk.tags]

theorem tagEntryExpiry_keeps {α : Type} (π : State → α)
    (hk : Keeps π [.sys, .tags])
    (st : Station) (tag : Nat) (s : State) :
    π (tagEntryExpiry st tag s) = π s := by
  unfold tagEntryExpiry
  try dsimp only
  (repeat' split) <;> first | with_reducible rfl | simp only [tagEntryExpiry, State.reach, State.setTagQueue, hk.sys, hk.tags]

theorem assignedTagEmptying_keeps {α : Type} (π : State → α)
    (hk : Keeps π [.sys, .tags])
    (st : Station) (s : State) :
    π (assignedTagEmptying st s) = π s := by
  unfold assignedTagEmptying
  try dsimp only
  (repeat' split) <;> first | with_reducible rfl | simp only [assignedTagEmptying, State.reach, State.setAssigned, hk.sys, hk.tags]

theorem settleAssigned_keeps {α : Type} (π : State → α)
    (hk : Keeps π [.tags])
    (s : State) (st : Station) :
    π (settleAssigned s st) = π s := by
  unfold settleAssigned
  try dsimp only
  (repeat' split) <;> first | with_reducible rfl | simp only [settleAssigned, State.setAssigned, hk.tags]

theorem commitTags_keeps {α : Type} (π : State → α)
    (hk : Keeps π [.tags])
    (s : State) :
    π (commitTags s) = π s := by
  unfold commitTags
  simp only [foldl_keeps π settleAssigned (settleAssigned_keeps π hk.mono), State.setTagQueue, hk.tags]

theorem testBodyFull_keeps {α : Type} (π : State → α)
    (hk : Keeps π [.body, .control, .payload, .agent])
    (s : State) :
    π (testBodyFull s) = π s := by
  unfold testBodyFull
  try dsimp only
  (repeat' split) <;> first | with_reducible rfl | simp only [testBodyFull, raiseNotice_keeps π hk.mono, hk.payload]

theorem addFill_keeps {α : Type} (π : State → α)
    (hk : Keeps π [.body, .control, .payload, .agent])
    (f : Nat) (s : State) :
    π (addFill f s) = π s := by
  unfold addFill
  try dsimp only
  (repeat' split) <;> first | with_reducible rfl | simp only [addFill, testBodyFull_keeps π hk.mono, hk.payload]

theorem writeMarker_keeps {α : Type} (π : State → α)
    (hk : Keeps π [.markers])
    (st : Station) (f : Furthest) (s : State) :
    π (writeMarker st f s) = π s := by
  unfold writeMarker
  try dsimp only
  (repeat' split) <;> first | with_reducible rfl | simp only [writeMarker, State.setMarker, hk.markers]

theorem autoRequest_keeps {α : Type} (π : State → α)
    (hk : Keeps π [.packer])
    (s : State) :
    π (autoRequest s) = π s := by
  unfold autoRequest
  try dsimp only
  (repeat' split) <;> first | with_reducible rfl | simp only [autoRequest, hk.packer]

theorem countDump_keeps {α : Type} (π : State → α)
    (hk : Keeps π [.packer])
    (s : State) :
    π (countDump s) = π s := by
  unfold countDump
  try dsimp only
  (repeat' split) <;> first | with_reducible rfl | simp only [countDump, autoRequest_keeps π hk.mono, hk.packer]

theorem enterDump_keeps {α : Type} (π : State → α)
    (hk : Keeps π [.arb, .lifts, .markers, .arbiter, .packer])
    (st : Station) (s : State) :
    π (enterDump st s) = π s := by
  unfold enterDump
  try dsimp only
  (repeat' split) <;> first | with_reducible rfl | simp only [enterDump, countDump_keeps π hk.mono, newRequest_keeps π hk.mono, writeMarker_keeps π
      hk.mono, State.onRecord, State.setLift, State.now, hk.lifts]

theorem bladeTest_keeps {α : Type} (π : State → α)
    (hk : Keeps π [.arb, .lifts, .markers, .arbiter, .packer])
    (st : Station) (s : State) :
    π (bladeTest st s) = π s := by
  unfold bladeTest
  try dsimp only
  (repeat' split) <;> first | with_reducible rfl | simp only [bladeTest, enterDump_keeps π hk.mono, State.setLift, hk.lifts]

theorem retestBlade_keeps {α : Type} (π : State → α)
    (hk : Keeps π [.arb, .lifts, .markers, .arbiter, .packer])
    (s : State) (st : Station) :
    π (retestBlade s st) = π s := by
  unfold retestBlade
  try dsimp only
  (repeat' split) <;> first | with_reducible rfl | simp only [retestBlade, bladeTest_keeps π hk.mono]

theorem bladeTests_keeps {α : Type} (π : State → α)
    (hk : Keeps π [.arb, .lifts, .markers, .arbiter, .packer])
    (s : State) :
    π (bladeTests s) = π s := by
  exact foldl_keeps π retestBlade (retestBlade_keeps π hk.mono) _ _

theorem enterParked_keeps {α : Type} (π : State → α)
    (hk : Keeps π [.arb, .body, .control, .lifts, .markers, .arbiter, .packer, .payload, .agent])
    (serve : State → State) (hv : ∀ s, π (serve s) = π s) (s : State) :
    π (enterParked serve s) = π s := by
  unfold enterParked
  simp only [hv, bladeTests_keeps π hk.mono, releaseRequest_keeps π hk.mono, hk.packer]

theorem enterRetracting_keeps {α : Type} (π : State → α)
    (hk : Keeps π [.arb, .body, .control, .lifts, .markers, .arbiter, .packer, .payload, .agent])
    (serve : State → State) (hv : ∀ s, π (serve s) = π s) (s : State) :
    π (enterRetracting serve s) = π s := by
  unfold enterRetracting
  dsimp only
  split <;> simp only [enterParked_keeps π hk serve hv, newRequest_keeps π hk.mono, hk.packer,
    bladeTests_keeps π hk.mono]

theorem enterDwelling_keeps {α : Type} (π : State → α)
    (hk : Keeps π [.arb, .body, .control, .lifts, .markers, .arbiter, .packer, .payload, .agent])
    (serve : State → State) (hv : ∀ s, π (serve s) = π s) (s : State) :
    π (enterDwelling serve s) = π s := by
  unfold enterDwelling
  dsimp only
  split <;> simp only [enterRetracting_keeps π hk serve hv, hk.packer]

theorem endExtending_keeps {α : Type} (π : State → α)
    (hk : Keeps π [.arb, .body, .control, .lifts, .markers, .arbiter, .packer, .payload, .agent])
    (serve : State → State) (hv : ∀ s, π (serve s) = π s) (stall : Bool) (s : State) :
    π (endExtending serve stall s) = π s := by
  unfold endExtending
  simp only [enterDwelling_keeps π hk serve hv, releaseRequest_keeps π hk.mono, addFill_keeps π hk.mono,
    hk.packer]

theorem beginExtending_keeps {α : Type} (π : State → α)
    (hk : Keeps π [.arb, .body, .control, .lifts, .markers, .arbiter, .packer, .payload, .agent])
    (serve : State → State) (hv : ∀ s, π (serve s) = π s) (s : State) :
    π (beginExtending serve s) = π s := by
  unfold beginExtending
  dsimp only
  split <;> simp only [endExtending_keeps π hk serve hv, newRequest_keeps π hk.mono, hk.packer]

theorem servePending_keeps {α : Type} (π : State → α)
    (hk : Keeps π [.arb, .body, .control, .lifts, .markers, .arbiter, .packer, .payload, .agent])
    (n : Nat) (s : State) :
    π (servePending n s) = π s := by
  induction n generalizing s with
  | zero => rfl
  | succ n ih =>
    unfold servePending
    split
    · simp only [beginExtending_keeps π hk (servePending n) ih, hk.packer]
    · rfl

theorem servePack_keeps {α : Type} (π : State → α)
    (hk : Keeps π [.arb, .body, .control, .lifts, .markers, .arbiter, .packer, .payload, .agent])
    (s : State) :
    π (servePack s) = π s := by
  unfold servePack
  try dsimp only
  (repeat' split) <;> first | with_reducible rfl | simp only [servePack, servePending_keeps π hk.mono]

theorem pack_keeps {α : Type} (π : State → α)
    (hk : Keeps π [.arb, .body, .control, .lifts, .markers, .arbiter, .packer, .payload, .agent])
    (s : State) :
    π (pack s).2 = π s := by
  unfold pack
  (repeat' split) <;> first | with_reducible rfl | simp only [endExtending_keeps π hk.mono servePack (servePack_keeps π hk.mono),
      beginExtending_keeps π hk.mono servePack (servePack_keeps π hk.mono),
      enterRetracting_keeps π hk.mono servePack (servePack_keeps π hk.mono),
      enterParked_keeps π hk.mono servePack (servePack_keeps π hk.mono), hk.packer]

theorem clearPackPending_keeps {α : Type} (π : State → α)
    (hk : Keeps π [.packer])
    (s : State) :
    π (clearPackPending s) = π s := by
  unfold clearPackPending
  try dsimp only
  (repeat' split) <;> first | with_reducible rfl | simp only [clearPackPending, hk.packer]

theorem encoderPulse_keeps {α : Type} (π : State → α)
    (hk : Keeps π [.arb, .body, .control, .lifts, .markers, .arbiter, .packer, .payload, .agent])
    (s : State) :
    π (encoderPulse s) = π s := by
  unfold encoderPulse
  dsimp only
  (repeat' split) <;> first | with_reducible rfl | simp only [endExtending_keeps π hk.mono servePack (servePack_keeps π hk.mono),
      beginExtending_keeps π hk.mono servePack (servePack_keeps π hk.mono),
      enterRetracting_keeps π hk.mono servePack (servePack_keeps π hk.mono),
      enterParked_keeps π hk.mono servePack (servePack_keeps π hk.mono), hk.packer]

theorem haltPacker_keeps {α : Type} (π : State → α)
    (hk : Keeps π [.arb, .body, .control, .lifts, .arbiter, .packer, .agent])
    (cause : PackerFault) (s : State) :
    π (haltPacker cause s) = π s := by
  simp only [haltPacker, raiseNotice_keeps π hk.mono, releaseRequest_keeps π hk.mono, hk.packer]

theorem packerFault_keeps {α : Type} (π : State → α)
    (hk : Keeps π [.arb, .body, .control, .lifts, .markers, .arbiter, .packer, .agent])
    (cause : PackerFault) (s : State) :
    π (packerFault cause s) = π s := by
  simp only [packerFault, bladeTests_keeps π hk.mono, haltPacker_keeps π hk.mono]

theorem packerRecover_keeps {α : Type} (π : State → α)
    (hk : Keeps π [.arb, .body, .control, .lifts, .markers, .arbiter, .packer, .payload, .agent])
    (s : State) :
    π (packerRecover s).2 = π s := by
  unfold packerRecover
  (repeat' split) <;> first | with_reducible rfl | simp only [endExtending_keeps π hk.mono servePack (servePack_keeps π hk.mono),
      beginExtending_keeps π hk.mono servePack (servePack_keeps π hk.mono),
      enterRetracting_keeps π hk.mono servePack (servePack_keeps π hk.mono),
      enterParked_keeps π hk.mono servePack (servePack_keeps π hk.mono), hk.packer]

theorem packerInputs_keeps {α : Type} (π : State → α)
    (hk : Keeps π [.arb, .body, .control, .lifts, .markers, .arbiter, .packer, .payload, .agent])
    (s : State) :
    π (packerInputs s) = π s := by
  unfold packerInputs
  (repeat' split) <;> first | with_reducible rfl | simp only [endExtending_keeps π hk.mono servePack (servePack_keeps π hk.mono),
      beginExtending_keeps π hk.mono servePack (servePack_keeps π hk.mono),
      enterRetracting_keeps π hk.mono servePack (servePack_keeps π hk.mono),
      enterParked_keeps π hk.mono servePack (servePack_keeps π hk.mono), hk.packer]

theorem stallExpiry_keeps {α : Type} (π : State → α)
    (hk : Keeps π [.arb, .sys, .body, .control, .lifts, .markers, .arbiter, .packer, .payload,
      .agent])
    (s : State) :
    π (stallExpiry s) = π s := by
  unfold stallExpiry
  refine onExpiry_keeps π hk.mono _ _ _ fun e s => ?_
  simp only [endExtending_keeps π hk.mono servePack (servePack_keeps π hk.mono),
      beginExtending_keeps π hk.mono servePack (servePack_keeps π hk.mono),
      enterRetracting_keeps π hk.mono servePack (servePack_keeps π hk.mono),
      enterParked_keeps π hk.mono servePack (servePack_keeps π hk.mono), hk.packer]

theorem packerLimitExpiry_keeps {α : Type} (π : State → α)
    (hk : Keeps π [.arb, .sys, .body, .control, .lifts, .markers, .arbiter, .packer, .agent])
    (phase : PackerState) (cause : PackerFault) (s : State) :
    π (packerLimitExpiry phase cause s) = π s := by
  unfold packerLimitExpiry
  try split
  all_goals first
    | with_reducible rfl
    | (refine onExpiry_keeps π hk.mono _ _ _ fun e s => ?_
       try dsimp only
       (repeat' split) <;> simp only [packerLimitExpiry, packerFault_keeps π hk.mono, hk.sys])

theorem dwellExpiry_keeps {α : Type} (π : State → α)
    (hk : Keeps π [.arb, .sys, .body, .control, .lifts, .markers, .arbiter, .packer, .payload,
      .agent])
    (s : State) :
    π (dwellExpiry s) = π s := by
  unfold dwellExpiry
  refine onExpiry_keeps π hk.mono _ _ _ fun e s => ?_
  simp only [endExtending_keeps π hk.mono servePack (servePack_keeps π hk.mono),
      beginExtending_keeps π hk.mono servePack (servePack_keeps π hk.mono),
      enterRetracting_keeps π hk.mono servePack (servePack_keeps π hk.mono),
      enterParked_keeps π hk.mono servePack (servePack_keeps π hk.mono), hk.packer]

theorem packerPauseExpiry_keeps {α : Type} (π : State → α)
    (hk : Keeps π [.arb, .sys, .body, .control, .lifts, .markers, .arbiter, .packer, .agent])
    (s : State) :
    π (packerPauseExpiry s) = π s := by
  unfold packerPauseExpiry
  try split
  all_goals first
    | with_reducible rfl
    | (refine onExpiry_keeps π hk.mono _ _ _ fun e s => ?_
       try dsimp only
       (repeat' split) <;> simp only [packerPauseExpiry, packerFault_keeps π hk.mono, hk.sys])

theorem packerStart_keeps {α : Type} (π : State → α)
    (hk : Keeps π [.body, .control, .packer, .agent])
    (s : State) :
    π (packerStart s) = π s := by
  unfold packerStart
  try dsimp only
  (repeat' split) <;> first | with_reducible rfl | simp only [packerStart, raiseNotice_keeps π hk.mono, hk.packer]

theorem setTailgateMarker_keeps {α : Type} (π : State → α)
    (hk : Keeps π [.tailgate])
    (m : TailgateMarker) (s : State) :
    π (setTailgateMarker m s) = π s := by
  unfold setTailgateMarker
  try dsimp only
  (repeat' split) <;> first | with_reducible rfl | simp only [setTailgateMarker, hk.tailgate]

theorem enterClosed_keeps {α : Type} (π : State → α)
    (hk : Keeps π [.arb, .body, .control, .lifts, .markers, .arbiter, .packer, .payload, .tailgate,
      .agent])
    (s : State) :
    π (enterClosed s) = π s := by
  unfold enterClosed
  try dsimp only
  (repeat' split) <;> first | with_reducible rfl | simp only [enterClosed, releaseRequest_keeps π hk.mono, servePack_keeps π hk.mono, hk.tailgate]

theorem enterClosing_keeps {α : Type} (π : State → α)
    (hk : Keeps π [.arb, .body, .control, .lifts, .markers, .arbiter, .packer, .payload, .tailgate,
      .agent])
    (s : State) :
    π (enterClosing s) = π s := by
  unfold enterClosing
  try dsimp only
  (repeat' split) <;> first | with_reducible rfl | simp only [enterClosing, enterClosed_keeps π hk.mono, newRequest_keeps π hk.mono, State.now,
      hk.tailgate]

theorem enterEjecting_keeps {α : Type} (π : State → α)
    (hk : Keeps π [.arb, .arbiter, .tailgate])
    (s : State) :
    π (enterEjecting s) = π s := by
  unfold enterEjecting
  try dsimp only
  (repeat' split) <;> first | with_reducible rfl | simp only [enterEjecting, changeDemand_keeps π hk.mono, setTailgateMarker_keeps π hk.mono, State.now,
      hk.tailgate]

theorem openingTest_keeps {α : Type} (π : State → α)
    (hk : Keeps π [.arb, .arbiter, .tailgate])
    (s : State) :
    π (openingTest s) = π s := by
  unfold openingTest
  try dsimp only
  (repeat' split) <;> first | with_reducible rfl | simp only [openingTest, enterEjecting_keeps π hk.mono]

theorem enterOpening_keeps {α : Type} (π : State → α)
    (hk : Keeps π [.arb, .arbiter, .tailgate])
    (s : State) :
    π (enterOpening s) = π s := by
  unfold enterOpening
  try dsimp only
  (repeat' split) <;> first | with_reducible rfl | simp only [enterOpening, newRequest_keeps π hk.mono, openingTest_keeps π hk.mono, State.now, now,
      hk.tailgate]

theorem openTimeReached_keeps {α : Type} (π : State → α)
    (hk : Keeps π [.arb, .sys, .arbiter, .tailgate])
    (s : State) :
    π (openTimeReached s) = π s := by
  unfold openTimeReached
  try split
  all_goals first
    | with_reducible rfl
    | (refine onExpiry_keeps π hk.mono _ _ _ fun e s => ?_
       try dsimp only
       (repeat' split) <;> simp only [openTimeReached, openingTest_keeps π hk.mono, hk.sys, hk.tailgate])

theorem tailgateInputs_keeps {α : Type} (π : State → α)
    (hk : Keeps π [.arb, .body, .control, .lifts, .markers, .arbiter, .packer, .payload, .tailgate,
      .agent])
    (s : State) :
    π (tailgateInputs s) = π s := by
  unfold tailgateInputs
  try dsimp only
  (repeat' split) <;> first | with_reducible rfl | simp only [tailgateInputs, enterClosed_keeps π hk.mono, openingTest_keeps π hk.mono]

theorem reportUnload_keeps {α : Type} (π : State → α)
    (hk : Keeps π [.arb, .body, .control, .lifts, .markers, .arbiter, .packer, .payload, .tailgate,
      .agent])
    (s : State) :
    π (reportUnload s) = π s := by
  unfold reportUnload
  try dsimp only
  (repeat' split) <;> first | with_reducible rfl | simp only [reportUnload, enterClosing_keeps π hk.mono, hk.tailgate]

theorem reserve_keeps {α : Type} (π : State → α)
    (hk : Keeps π [.queue])
    (h : Holder) (s : State) :
    π (reserve h s) = π s := by
  unfold reserve
  try dsimp only
  (repeat' split) <;> first | with_reducible rfl | simp only [reserve, hk.queue]

theorem unreserve_keeps {α : Type} (π : State → α)
    (hk : Keeps π [.queue])
    (h : Holder) (s : State) :
    π (unreserve h s) = π s := by
  unfold unreserve
  try dsimp only
  (repeat' split) <;> first | with_reducible rfl | simp only [unreserve, hk.queue]

theorem unload_keeps {α : Type} (π : State → α)
    (hk : Keeps π [.arb, .queue, .arbiter, .tailgate])
    (s : State) :
    π (unload s).2 = π s := by
  unfold unload
  try dsimp only
  (repeat' split) <;> first | with_reducible rfl | simp only [unload, enterOpening_keeps π hk.mono, reserve_keeps π hk.mono, setTailgateMarker_keeps π
      hk.mono]

theorem addTotal_keeps {α : Type} (π : State → α)
    (hk : Keeps π [.store])
    (t : Total) (n : Nat) (s : State) :
    π (addTotal t n s) = π s := by
  unfold addTotal
  try dsimp only
  (repeat' split) <;> first | with_reducible rfl | simp only [addTotal, hk.store]

theorem clearTotals_keeps {α : Type} (π : State → α)
    (hk : Keeps π [.store])
    (s : State) :
    π (clearTotals s) = π s := by
  unfold clearTotals
  try dsimp only
  (repeat' split) <;> first | with_reducible rfl | simp only [clearTotals, hk.store]

theorem secondAdvance_keeps {α : Type} (π : State → α)
    (hk : Keeps π [.sys, .clock])
    (s : State) :
    π (secondAdvance s) = π s := by
  unfold secondAdvance
  try split
  all_goals first
    | with_reducible rfl
    | (refine onExpiry_keeps π hk.mono _ _ _ fun e s => ?_
       try dsimp only
       (repeat' split) <;> simp only [secondAdvance, hk.sys, hk.clock])

theorem clockStep_keeps {α : Type} (π : State → α)
    (hk : Keeps π [.store, .body, .control, .clock, .agent])
    (s : State) :
    π (clockStep s) = π s := by
  unfold clockStep
  try dsimp only
  (repeat' split) <;> first | with_reducible rfl | simp only [clockStep, addTotal_keeps π hk.mono, raiseNotice_keeps π hk.mono, hk.clock]

theorem setClockTo_keeps {α : Type} (π : State → α)
    (hk : Keeps π [.store, .body, .control, .clock, .agent])
    (v : Nat) (s : State) :
    π (setClockTo v s) = π s := by
  unfold setClockTo
  try dsimp only
  (repeat' split) <;> first | with_reducible rfl | simp only [setClockTo, clockStep_keeps π hk.mono, hk.clock]

theorem ignoreSync_keeps {α : Type} (π : State → α)
    (hk : Keeps π [.clock])
    (s : State) :
    π (ignoreSync s) = π s := by
  unfold ignoreSync
  try dsimp only
  (repeat' split) <;> first | with_reducible rfl | simp only [ignoreSync, hk.clock]

theorem syncSample_keeps {α : Type} (π : State → α)
    (hk : Keeps π [.store, .body, .control, .clock, .agent])
    (v : Nat) (s : State) :
    π (syncSample v s) = π s := by
  unfold syncSample
  try dsimp only
  (repeat' split) <;> first | with_reducible rfl | simp only [syncSample, clockStep_keeps π hk.mono, ignoreSync_keeps π hk.mono, hk.clock]

theorem endRelease_keeps {α : Type} (π : State → α)
    (hk : Keeps π [.arb, .lifts, .arbiter])
    (st : Station) (s : State) :
    π (endRelease st s) = π s := by
  unfold endRelease
  try dsimp only
  (repeat' split) <;> first | with_reducible rfl | simp only [endRelease, releaseRequest_keeps π hk.mono, setGroupLowest_keeps π hk.mono, State.setLift,
      hk.lifts]

theorem enterRelease_keeps {α : Type} (π : State → α)
    (hk : Keeps π [.arb, .lifts, .arbiter])
    (st : Station) (s : State) :
    π (enterRelease st s) = π s := by
  unfold enterRelease
  try dsimp only
  (repeat' split) <;> first | with_reducible rfl | simp only [enterRelease, endRelease_keeps π hk.mono, newRequest_keeps π hk.mono, State.setLift,
      State.now, hk.lifts]

theorem reportStation_keeps {α : Type} (π : State → α)
    (hk : Keeps π [.arb, .lifts, .tags, .arbiter])
    (st : Station) (s : State) :
    π (reportStation st s) = π s := by
  unfold reportStation
  try dsimp only
  (repeat' split) <;> first | with_reducible rfl | simp only [reportStation, enterRelease_keeps π hk.mono, settleAssigned_keeps π hk.mono, State.setLift,
      hk.lifts]

theorem commitRecord_keeps {α : Type} (π : State → α)
    (hk : Keeps π [.store, .queue, .clock])
    (h : Holder) (r : ChargeRecord) (s : State) :
    π (commitRecord h r s) = π s := by
  unfold commitRecord
  try dsimp only
  (repeat' split) <;> first | with_reducible rfl | simp only [commitRecord, hk.store, hk.queue, hk.clock]

theorem commitMarker_keeps {α : Type} (π : State → α)
    (hk : Keeps π [.markers, .tailgate])
    (h : Holder) (s : State) :
    π (commitMarker h s) = π s := by
  unfold commitMarker
  try dsimp only
  (repeat' split) <;> first | with_reducible rfl | simp only [commitMarker, setTailgateMarker_keeps π hk.mono, State.setMarker, hk.markers]

theorem handPayload_keeps {α : Type} (π : State → α)
    (hk : Keeps π [.body, .control, .payload, .agent])
    (r : ChargeRecord) (s : State) :
    π (handPayload r s) = π s := by
  unfold handPayload
  try dsimp only
  (repeat' split) <;> first | with_reducible rfl | simp only [handPayload, testBodyFull_keeps π hk.mono, hk.payload]

theorem handTotals_keeps {α : Type} (π : State → α)
    (hk : Keeps π [.store])
    (r : ChargeRecord) (s : State) :
    π (handTotals r s) = π s := by
  unfold handTotals
  try dsimp only
  (repeat' split) <;> first | with_reducible rfl | simp only [handTotals, addTotal_keeps π hk.mono]

theorem writeBack_keeps {α : Type} (π : State → α)
    (hk : Keeps π [.store])
    (k : BillKind) (r : ChargeRecord) (p : Price) (a : Option CounterAnswer) (s : State) :
    π (writeBack k r p a s) = π s := by
  unfold writeBack
  try dsimp only
  (repeat' split) <;> first | with_reducible rfl | simp only [writeBack, hk.store]

theorem report_keeps {α : Type} (π : State → α)
    (hk : Keeps π [.arb, .body, .control, .lifts, .markers, .tags, .arbiter, .packer, .payload,
      .tailgate, .agent])
    (h : Holder) (s : State) :
    π (report h s) = π s := by
  unfold report
  try dsimp only
  (repeat' split) <;> first | with_reducible rfl | simp only [report, reportStation_keeps π hk.mono, reportUnload_keeps π hk.mono]

theorem countServed_keeps {α : Type} (π : State → α)
    (hk : Keeps π [.body, .control, .billing])
    (a : Option CounterAnswer) (capped : Bool) (s : State) :
    π (countServed a capped s) = π s := by
  unfold countServed
  try dsimp only
  (repeat' split) <;> first | with_reducible rfl | simp only [countServed, served, hk.billing]

theorem completeRequest_keeps {α : Type} (π : State → α)
    (hk : Keeps π [.arb, .store, .body, .control, .lifts, .markers, .tags, .billing, .queue,
      .arbiter, .packer, .payload, .tailgate, .clock, .agent])
    (q : BillReq) (g : Figures) (a : Option CounterAnswer) (s : State) :
    π (completeRequest q g a s) = π s := by
  unfold completeRequest
  try dsimp only
  (repeat' split) <;> first | with_reducible rfl | simp only [completeRequest, commitMarker_keeps π hk.mono, commitRecord_keeps π hk.mono,
      countServed_keeps π hk.mono, handPayload_keeps π hk.mono, handTotals_keeps π hk.mono,
      raiseNotice_keeps π hk.mono, report_keeps π hk.mono, writeBack_keeps π hk.mono, hk.billing]

theorem answerCounter_keeps {α : Type} (π : State → α)
    (hk : Keeps π [.arb, .store, .body, .control, .lifts, .markers, .tags, .table, .billing,
      .queue, .arbiter, .packer, .payload, .tailgate, .clock, .agent])
    (q : BillReq) (g : Figures) (h : Household) (s : State) :
    π (answerCounter q g h s) = π s := by
  simp only [answerCounter, completeRequest_keeps π hk.mono, countAccess_keeps π hk.mono]

theorem serveHead_keeps {α : Type} (π : State → α)
    (hk : Keeps π [.arb, .store, .body, .control, .lifts, .markers, .tags, .table, .billing,
      .queue, .arbiter, .packer, .payload, .tailgate, .clock, .agent])
    (q : BillReq) (s : State) :
    π (serveHead q s) = π s := by
  unfold serveHead
  try dsimp only
  (repeat' split) <;> first | with_reducible rfl | simp only [serveHead, completeRequest_keeps π hk.mono, answerCounter_keeps π hk.mono, hk.table,
      hk.billing]

theorem serveRequests_keeps {α : Type} (π : State → α)
    (hk : Keeps π [.arb, .store, .body, .control, .lifts, .markers, .tags, .table, .billing,
      .queue, .arbiter, .packer, .payload, .tailgate, .clock, .agent])
    (n : Nat) (s : State) :
    π (serveRequests n s) = π s := by
  induction n generalizing s with
  | zero => rfl
  | succ n ih =>
    unfold serveRequests
    split
    · rw [ih, serveHead_keeps π hk.mono]
    · rfl

theorem serveBilling_keeps {α : Type} (π : State → α)
    (hk : Keeps π [.arb, .store, .body, .control, .lifts, .markers, .tags, .table, .billing,
      .queue, .arbiter, .packer, .payload, .tailgate, .clock, .agent])
    (s : State) :
    π (serveBilling s) = π s := by
  unfold serveBilling
  try dsimp only
  (repeat' split) <;> first | with_reducible rfl | simp only [serveBilling, serveRequests_keeps π hk.mono]

theorem makeRequest_keeps {α : Type} (π : State → α)
    (hk : Keeps π [.arb, .store, .body, .control, .lifts, .markers, .tags, .table, .billing,
      .queue, .arbiter, .packer, .payload, .tailgate, .clock, .agent])
    (q : BillReq) (s : State) :
    π (makeRequest q s) = π s := by
  unfold makeRequest
  try dsimp only
  (repeat' split) <;> first | with_reducible rfl | simp only [makeRequest, serveBilling_keeps π hk.mono, hk.billing]

theorem serveCounter_keeps {α : Type} (π : State → α)
    (hk : Keeps π [.arb, .store, .body, .control, .lifts, .markers, .tags, .table, .billing,
      .queue, .arbiter, .packer, .payload, .tailgate, .clock, .agent])
    (s : State) :
    π (serveCounter s) = π s := by
  unfold serveCounter
  try dsimp only
  (repeat' split) <;> first | with_reducible rfl | simp only [serveCounter, answerCounter_keeps π hk.mono]

theorem releaseRecords_keeps {α : Type} (π : State → α)
    (hk : Keeps π [.queue])
    (n : Nat) (s : State) :
    π (releaseRecords n s).2 = π s := by
  unfold releaseRecords
  try dsimp only
  (repeat' split) <;> first | with_reducible rfl | simp only [releaseRecords, hk.queue]

theorem decideHold_keeps {α : Type} (π : State → α)
    (hk : Keeps π [.arb, .lifts, .markers, .arbiter, .packer])
    (st : Station) (s : State) :
    π (decideHold st s) = π s := by
  unfold decideHold
  try dsimp only
  (repeat' split) <;> first | with_reducible rfl | simp only [decideHold, bladeTest_keeps π hk.mono, State.onRecord, State.setLift, hk.lifts]

theorem enterHold_keeps {α : Type} (π : State → α)
    (hk : Keeps π [.arb, .lifts, .markers, .arbiter, .packer])
    (st : Station) (s : State) :
    π (enterHold st s) = π s := by
  unfold enterHold
  try dsimp only
  (repeat' split) <;> first | with_reducible rfl | simp only [enterHold, decideHold_keeps π hk.mono, State.setLift, State.now, hk.lifts]

theorem deliverLookup_keeps {α : Type} (π : State → α)
    (hk : Keeps π [.arb, .lifts, .markers, .arbiter, .packer])
    (st : Station) (tag : Nat) (res : Found) (s : State) :
    π (deliverLookup st tag res s) = π s := by
  unfold deliverLookup
  try dsimp only
  (repeat' split) <;> first | with_reducible rfl | simp only [deliverLookup, decideHold_keeps π hk.mono, writeMarker_keeps π hk.mono, State.onRecord,
      State.setLift, hk.lifts]

theorem answerLookup_keeps {α : Type} (π : State → α)
    (hk : Keeps π [.arb, .lifts, .markers, .table, .arbiter, .packer])
    (st : Station) (tag : Nat) (s : State) :
    π (answerLookup st tag s) = π s := by
  unfold answerLookup
  try dsimp only
  (repeat' split) <;> first | with_reducible rfl | simp only [answerLookup, countLookup_keeps π hk.mono, deliverLookup_keeps π hk.mono]

theorem askLookup_keeps {α : Type} (π : State → α)
    (hk : Keeps π [.arb, .lifts, .markers, .table, .arbiter, .packer])
    (st : Station) (tag : Nat) (s : State) :
    π (askLookup st tag s) = π s := by
  unfold askLookup
  try dsimp only
  (repeat' split) <;> first | with_reducible rfl | simp only [askLookup, answerLookup_keeps π hk.mono, waitLookup_keeps π hk.mono, State.onRecord,
      State.setLift, hk.lifts]

theorem serveWaiting_keeps {α : Type} (π : State → α)
    (hk : Keeps π [.arb, .store, .body, .control, .lifts, .markers, .tags, .table, .billing,
      .queue, .arbiter, .packer, .payload, .tailgate, .clock, .agent])
    (s : State) (w : Waiting) :
    π (serveWaiting s w) = π s := by
  unfold serveWaiting
  try dsimp only
  (repeat' split) <;> first | with_reducible rfl | simp only [serveWaiting, answerLookup_keeps π hk.mono, serveCounter_keeps π hk.mono]

theorem completeMove_keeps {α : Type} (π : State → α)
    (hk : Keeps π [.arb, .store, .body, .control, .lifts, .markers, .tags, .table, .billing,
      .queue, .arbiter, .packer, .payload, .tailgate, .clock, .agent])
    (s : State) :
    π (completeMove s) = π s := by
  unfold completeMove
  dsimp only
  split <;> simp only [serveBilling_keeps π hk.mono, foldl_keeps π serveWaiting (serveWaiting_keeps π hk.mono),
    finishMove_keeps π hk.mono, hk.table]

theorem endRaise_keeps {α : Type} (π : State → α)
    (hk : Keeps π [.arb, .lifts, .markers, .weigh, .arbiter, .packer])
    (st : Station) (s : State) :
    π (endRaise st s) = π s := by
  unfold endRaise
  try dsimp only
  (repeat' split) <;> first | with_reducible rfl | simp only [endRaise, enterHold_keeps π hk.mono, fixGross_keeps π hk.mono, releaseRequest_keeps π
      hk.mono, writeMarker_keeps π hk.mono, State.setLift, hk.lifts]

theorem enterRaise_keeps {α : Type} (π : State → α)
    (hk : Keeps π [.arb, .lifts, .markers, .weigh, .arbiter, .packer])
    (st : Station) (s : State) :
    π (enterRaise st s) = π s := by
  unfold enterRaise
  try dsimp only
  (repeat' split) <;> first | with_reducible rfl | simp only [enterRaise, changeDemand_keeps π hk.mono, endRaise_keeps π hk.mono, enterWeighing_keeps π
      hk.mono, newRequest_keeps π hk.mono, State.setLift, State.now, hk.lifts]

theorem endEngage_keeps {α : Type} (π : State → α)
    (hk : Keeps π [.arb, .lifts, .markers, .tags, .weigh, .table, .arbiter, .packer])
    (st : Station) (s : State) :
    π (endEngage st s) = π s := by
  unfold endEngage
  try dsimp only
  (repeat' split) <;> first | with_reducible rfl | simp only [endEngage, askLookup_keeps π hk.mono, assignTag_keeps π hk.mono, enterRaise_keeps π hk.mono,
      setFlag_keeps π hk.mono, writeMarker_keeps π hk.mono, State.onRecord, State.setLift,
      hk.lifts]

theorem enterEngage_keeps {α : Type} (π : State → α)
    (hk : Keeps π [.arb, .body, .control, .lifts, .markers, .tags, .weigh, .table, .arbiter,
      .packer, .agent])
    (st : Station) (s : State) :
    π (enterEngage st s) = π s := by
  unfold enterEngage
  try dsimp only
  (repeat' split) <;> first | with_reducible rfl | simp only [enterEngage, cancelCapture_keeps π hk.mono, endEngage_keeps π hk.mono, newRequest_keeps π
      hk.mono, State.setLift, State.now, hk.lifts]

theorem acceptStart_keeps {α : Type} (π : State → α)
    (hk : Keeps π [.arb, .store, .body, .control, .lifts, .markers, .tags, .weigh, .zeros, .table,
      .queue, .arbiter, .packer, .agent])
    (st : Station) (s : State) :
    π (acceptStart st s) = π s := by
  unfold acceptStart
  try dsimp only
  (repeat' split) <;> first | with_reducible rfl | simp only [acceptStart, addTotal_keeps π hk.mono, applyPendingZero_keeps π hk.mono, enterEngage_keeps π
      hk.mono, reserve_keeps π hk.mono, writeMarker_keeps π hk.mono, State.setLift, hk.lifts]

theorem cycleStart_keeps {α : Type} (π : State → α)
    (hk : Keeps π [.arb, .store, .body, .control, .lifts, .markers, .tags, .weigh, .zeros, .table,
      .queue, .arbiter, .packer, .agent])
    (st : Station) (s : State) :
    π (cycleStart st s).2 = π s := by
  unfold cycleStart
  try dsimp only
  (repeat' split) <;> first | with_reducible rfl | simp only [cycleStart, acceptStart_keeps π hk.mono, State.setLift, hk.lifts]

theorem lateRead_keeps {α : Type} (π : State → α)
    (hk : Keeps π [.arb, .lifts, .markers, .tags, .table, .arbiter, .packer])
    (st : Station) (tag : Nat) (s : State) :
    π (lateRead st tag s) = π s := by
  unfold lateRead
  try dsimp only
  (repeat' split) <;> first | with_reducible rfl | simp only [lateRead, askLookup_keeps π hk.mono, assignLate_keeps π hk.mono, State.onRecord,
      State.setLift, hk.lifts]

theorem tagRead_keeps {α : Type} (π : State → α)
    (hk : Keeps π [.arb, .body, .control, .lifts, .markers, .tags, .table, .arbiter, .packer,
      .agent])
    (src : Byte) (tag : BitVec 40) (strength : Byte) (s : State) :
    π (tagRead src tag strength s) = π s := by
  unfold tagRead
  try dsimp only
  (repeat' split) <;> first | with_reducible rfl | simp only [tagRead, absorbRead_keeps π hk.mono, lateRead_keeps π hk.mono, queueRead_keeps π hk.mono,
      hk.tags]

theorem endLower_keeps {α : Type} (π : State → α)
    (hk : Keeps π [.arb, .store, .body, .control, .lifts, .markers, .tags, .weigh, .table,
      .billing, .queue, .arbiter, .packer, .payload, .tailgate, .clock, .agent])
    (st : Station) (s : State) :
    π (endLower st s) = π s := by
  unfold endLower
  try dsimp only
  (repeat' split) <;> first | with_reducible rfl | simp only [endLower, fixTare_keeps π hk.mono, makeRequest_keeps π hk.mono, releaseRequest_keeps π
      hk.mono, State.onRecord, State.setLift, hk.lifts]

theorem enterLower_keeps {α : Type} (π : State → α)
    (hk : Keeps π [.arb, .store, .body, .control, .lifts, .markers, .tags, .weigh, .table,
      .billing, .queue, .arbiter, .packer, .payload, .tailgate, .clock, .agent])
    (st : Station) (s : State) :
    π (enterLower st s) = π s := by
  unfold enterLower
  try dsimp only
  (repeat' split) <;> first | with_reducible rfl | simp only [enterLower, changeDemand_keeps π hk.mono, endLower_keeps π hk.mono, enterWeighing_keeps π
      hk.mono, newRequest_keeps π hk.mono, State.setLift, State.now, hk.lifts]

theorem sequenceExpiry_keeps {α : Type} (π : State → α)
    (hk : Keeps π [.arb, .sys, .store, .body, .control, .lifts, .markers, .tags, .weigh, .table,
      .billing, .queue, .arbiter, .channels, .packer, .payload, .tailgate, .clock,
      .agent])
    (st : Station) (s : State) :
    π (sequenceExpiry st s) = π s := by
  unfold sequenceExpiry
  try split
  all_goals first
    | with_reducible rfl
    | (refine onExpiry_keeps π hk.mono _ _ _ fun e s => ?_
       try dsimp only
       (repeat' split) <;> simp only [sequenceExpiry, enterLower_keeps π hk.mono, refreshValves_keeps π hk.mono,
         servePack_keeps π hk.mono, State.setLift, State.now, hk.sys, hk.lifts])

theorem takeReturn_keeps {α : Type} (π : State → α)
    (hk : Keeps π [.arb, .store, .body, .control, .lifts, .markers, .tags, .weigh, .table,
      .billing, .queue, .arbiter, .packer, .payload, .tailgate, .clock, .agent])
    (st : Station) (s : State) :
    π (takeReturn st s) = π s := by
  unfold takeReturn
  try dsimp only
  (repeat' split) <;> first | with_reducible rfl | simp only [takeReturn, enterLower_keeps π hk.mono, State.onRecord, State.setLift, hk.lifts]

theorem returnLift_keeps {α : Type} (π : State → α)
    (hk : Keeps π [.arb, .store, .body, .control, .lifts, .markers, .tags, .weigh, .table,
      .billing, .queue, .arbiter, .packer, .payload, .tailgate, .clock, .agent])
    (st : Station) (s : State) :
    π (returnLift st s).2 = π s := by
  unfold returnLift
  try dsimp only
  (repeat' split) <;> first | with_reducible rfl | simp only [returnLift, takeReturn_keeps π hk.mono]

theorem overrideLift_keeps {α : Type} (π : State → α)
    (hk : Keeps π [.arb, .lifts, .markers, .arbiter, .packer])
    (st : Station) (s : State) :
    π (overrideLift st s).2 = π s := by
  unfold overrideLift
  try dsimp only
  (repeat' split) <;> first | with_reducible rfl | simp only [overrideLift, bladeTest_keeps π hk.mono, State.onRecord, State.setLift, hk.lifts]

theorem holdExpiry_keeps {α : Type} (π : State → α)
    (hk : Keeps π [.arb, .sys, .store, .body, .control, .lifts, .markers, .tags, .weigh, .table,
      .billing, .queue, .arbiter, .packer, .payload, .tailgate, .clock, .agent])
    (st : Station) (s : State) :
    π (holdExpiry st s) = π s := by
  unfold holdExpiry
  try split
  all_goals first
    | with_reducible rfl
    | (refine onExpiry_keeps π hk.mono _ _ _ fun e s => ?_
       try dsimp only
       (repeat' split) <;> simp only [holdExpiry, setFlag_keeps π hk.mono, takeReturn_keeps π hk.mono, State.setLift, hk.sys,
         hk.lifts])

theorem faultRequest_keeps {α : Type} (π : State → α)
    (hk : Keeps π [.arb, .store, .body, .control, .lifts, .markers, .tags, .table, .billing,
      .queue, .arbiter, .packer, .payload, .tailgate, .clock, .agent])
    (st : Station) (s : State) :
    π (faultRequest st s) = π s := by
  unfold faultRequest
  try dsimp only
  (repeat' split) <;> first | with_reducible rfl | simp only [faultRequest, makeRequest_keeps π hk.mono, State.onRecord, State.setLift, hk.lifts]

theorem faultWeighing_keeps {α : Type} (π : State → α)
    (hk : Keeps π [.weigh])
    (old : StationState) (st : Station) (s : State) :
    π (faultWeighing old st s) = π s := by
  unfold faultWeighing
  try dsimp only
  (repeat' split) <;> first | with_reducible rfl | simp only [faultWeighing, discardWeighing_keeps π hk.mono, endRun_keeps π hk.mono]

theorem haltStation_keeps {α : Type} (π : State → α)
    (hk : Keeps π [.arb, .store, .body, .control, .lifts, .markers, .tags, .weigh, .table,
      .billing, .queue, .arbiter, .packer, .payload, .tailgate, .clock, .agent])
    (st : Station) (cause : StationFault) (s : State) :
    π (haltStation st cause s) = π s := by
  simp only [haltStation, faultRequest_keeps π hk.mono, faultWeighing_keeps π hk.mono,
    raiseNotice_keeps π hk.mono, releaseRequest_keeps π hk.mono, State.setLift, hk.lifts]

theorem stationFault_keeps {α : Type} (π : State → α)
    (hk : Keeps π [.arb, .store, .body, .control, .lifts, .markers, .tags, .weigh, .table,
      .billing, .queue, .arbiter, .packer, .payload, .tailgate, .clock, .agent])
    (st : Station) (cause : StationFault) (s : State) :
    π (stationFault st cause s) = π s := by
  unfold stationFault
  split <;> simp only [haltStation_keeps π hk.mono, servePack_keeps π hk.mono]

theorem phaseExpiry_keeps {α : Type} (π : State → α)
    (hk : Keeps π [.arb, .sys, .store, .body, .control, .lifts, .markers, .tags, .weigh, .table,
      .billing, .queue, .arbiter, .packer, .payload, .tailgate, .clock, .agent])
    (st : Station) (s : State) :
    π (phaseExpiry st s) = π s := by
  unfold phaseExpiry
  try split
  all_goals first
    | with_reducible rfl
    | (refine onExpiry_keeps π hk.mono _ _ _ fun e s => ?_
       try dsimp only
       (repeat' split) <;> simp only [phaseExpiry, stationFault_keeps π hk.mono, hk.sys])

theorem pauseExpiry_keeps {α : Type} (π : State → α)
    (hk : Keeps π [.arb, .sys, .store, .body, .control, .lifts, .markers, .tags, .weigh, .table,
      .billing, .queue, .arbiter, .packer, .payload, .tailgate, .clock, .agent])
    (st : Station) (s : State) :
    π (pauseExpiry st s) = π s := by
  unfold pauseExpiry
  try split
  all_goals first
    | with_reducible rfl
    | (refine onExpiry_keeps π hk.mono _ _ _ fun e s => ?_
       try dsimp only
       (repeat' split) <;> simp only [pauseExpiry, stationFault_keeps π hk.mono, hk.sys])

theorem endHoming_keeps {α : Type} (π : State → α)
    (hk : Keeps π [.arb, .lifts, .arbiter])
    (st : Station) (s : State) :
    π (endHoming st s) = π s := by
  unfold endHoming
  try dsimp only
  (repeat' split) <;> first | with_reducible rfl | simp only [endHoming, releaseRequest_keeps π hk.mono, State.setLift, hk.lifts]

theorem enterHoming_keeps {α : Type} (π : State → α)
    (hk : Keeps π [.arb, .lifts, .arbiter])
    (st : Station) (s : State) :
    π (enterHoming st s) = π s := by
  unfold enterHoming
  try dsimp only
  (repeat' split) <;> first | with_reducible rfl | simp only [enterHoming, endHoming_keeps π hk.mono, newRequest_keeps π hk.mono, State.setLift,
      State.now, hk.lifts]

theorem recover_keeps {α : Type} (π : State → α)
    (hk : Keeps π [.arb, .lifts, .arbiter])
    (st : Station) (s : State) :
    π (recover st s).2 = π s := by
  unfold recover
  try dsimp only
  (repeat' split) <;> first | with_reducible rfl | simp only [recover, enterHoming_keeps π hk.mono]

theorem stationInputs_keeps {α : Type} (π : State → α)
    (hk : Keeps π [.arb, .store, .body, .control, .lifts, .markers, .tags, .weigh, .table,
      .billing, .queue, .arbiter, .packer, .payload, .tailgate, .clock, .agent])
    (st : Station) (s : State) :
    π (stationInputs st s) = π s := by
  unfold stationInputs
  try dsimp only
  (repeat' split) <;> first | with_reducible rfl | simp only [stationInputs, endEngage_keeps π hk.mono, endHoming_keeps π hk.mono, endLower_keeps π
      hk.mono, endRaise_keeps π hk.mono, endRelease_keeps π hk.mono]

theorem ejectExpiry_keeps {α : Type} (π : State → α)
    (hk : Keeps π [.arb, .sys, .store, .body, .control, .lifts, .markers, .tags, .table, .billing,
      .queue, .arbiter, .packer, .payload, .tailgate, .clock, .agent])
    (s : State) :
    π (ejectExpiry s) = π s := by
  unfold ejectExpiry
  try split
  all_goals first
    | with_reducible rfl
    | (refine onExpiry_keeps π hk.mono _ _ _ fun e s => ?_
       try dsimp only
       (repeat' split) <;> simp only [ejectExpiry, makeRequest_keeps π hk.mono, releaseRequest_keeps π hk.mono, hk.sys,
         hk.tailgate])

theorem tailgateFault_keeps {α : Type} (π : State → α)
    (hk : Keeps π [.arb, .store, .body, .control, .lifts, .markers, .tags, .table, .billing,
      .queue, .arbiter, .packer, .payload, .tailgate, .clock, .agent])
    (cause : TailgateFault) (s : State) :
    π (tailgateFault cause s) = π s := by
  unfold tailgateFault
  try dsimp only
  (repeat' split) <;> first | with_reducible rfl | simp only [tailgateFault, makeRequest_keeps π hk.mono, raiseNotice_keeps π hk.mono,
      releaseRequest_keeps π hk.mono, hk.tailgate]

theorem tailgateLimitExpiry_keeps {α : Type} (π : State → α)
    (hk : Keeps π [.arb, .sys, .store, .body, .control, .lifts, .markers, .tags, .table, .billing,
      .queue, .arbiter, .packer, .payload, .tailgate, .clock, .agent])
    (phase : TailgateState) (cause : TailgateFault) (s : State) :
    π (tailgateLimitExpiry phase cause s) = π s := by
  unfold tailgateLimitExpiry
  try split
  all_goals first
    | with_reducible rfl
    | (refine onExpiry_keeps π hk.mono _ _ _ fun e s => ?_
       try dsimp only
       (repeat' split) <;> simp only [tailgateLimitExpiry, tailgateFault_keeps π hk.mono, hk.sys])

theorem tailgatePauseExpiry_keeps {α : Type} (π : State → α)
    (hk : Keeps π [.arb, .sys, .store, .body, .control, .lifts, .markers, .tags, .table, .billing,
      .queue, .arbiter, .packer, .payload, .tailgate, .clock, .agent])
    (s : State) :
    π (tailgatePauseExpiry s) = π s := by
  unfold tailgatePauseExpiry
  try split
  all_goals first
    | with_reducible rfl
    | (refine onExpiry_keeps π hk.mono _ _ _ fun e s => ?_
       try dsimp only
       (repeat' split) <;> simp only [tailgatePauseExpiry, tailgateFault_keeps π hk.mono, hk.sys])

theorem tailgateRecover_keeps {α : Type} (π : State → α)
    (hk : Keeps π [.arb, .body, .control, .lifts, .markers, .arbiter, .packer, .payload, .tailgate,
      .agent])
    (s : State) :
    π (tailgateRecover s).2 = π s := by
  unfold tailgateRecover
  try dsimp only
  (repeat' split) <;> first | with_reducible rfl | simp only [tailgateRecover, enterClosing_keeps π hk.mono, enterOpening_keeps π hk.mono,
      setTailgateMarker_keeps π hk.mono]

theorem sendReply_keeps {α : Type} (π : State → α)
    (hk : Keeps π [.body, .control])
    (code : Byte) (tag : BitVec 4) (station : Byte) (r : Reply) (s : State) :
    π (sendReply code tag station r s) = π s := by
  unfold sendReply
  try dsimp only
  (repeat' split) <;> first | with_reducible rfl | simp only [sendReply, offerControl_keeps π hk.mono]

theorem operatorStart_keeps {α : Type} (π : State → α)
    (hk : Keeps π [.arb, .store, .body, .control, .lifts, .markers, .tags, .weigh, .zeros, .table,
      .queue, .arbiter, .packer, .agent])
    (st : Station) (s : State) :
    π (operatorStart st s).2 = π s := by
  have hc := cycleStart_keeps π hk.mono st s
  unfold operatorStart
  split
  · split <;> (rename_i e; rw [e] at hc; exact hc)
  · rfl

theorem resignal_keeps {α : Type} (π : State → α)
    (hk : Keeps π [.arb, .body, .control, .signals, .lifts, .markers, .arbiter, .packer, .payload,
      .agent])
    (s : State) :
    π (resignal s) = π s := by
  unfold resignal
  try dsimp only
  (repeat' split) <;> first | with_reducible rfl | simp only [resignal, servePack_keeps π hk.mono, hk.arb, hk.signals]

theorem rejectTap_keeps {α : Type} (π : State → α)
    (hk : Keeps π [.slots])
    (k : SlotId) (cause : RejectCause) (s : State) :
    π (rejectTap k cause s) = π s := by
  unfold rejectTap
  try dsimp only
  (repeat' split) <;> first | with_reducible rfl | simp only [rejectTap, State.setSlot, hk.slots]

theorem validTap_keeps {α : Type} (π : State → α)
    (hk : Keeps π [.arb, .store, .body, .control, .slots, .signals, .lifts, .markers, .arbiter,
      .packer, .payload, .clock, .agent])
    (k : SlotId) (v : Nat) (s : State) :
    π (validTap k v s) = π s := by
  unfold validTap
  try dsimp only
  (repeat' split) <;> first | with_reducible rfl | simp only [validTap, resignal_keeps π hk.mono, syncSample_keeps π hk.mono, State.setSlot, State.now,
      hk.slots]

theorem tap_keeps {α : Type} (π : State → α)
    (hk : Keeps π [.arb, .store, .body, .control, .slots, .signals, .lifts, .markers, .arbiter,
      .packer, .payload, .clock, .agent])
    (k : SlotId) (data : List Byte) (s : State) :
    π (tap k data s) = π s := by
  unfold tap
  try dsimp only
  (repeat' split) <;> first | with_reducible rfl | simp only [tap, rejectTap_keeps π hk.mono, validTap_keeps π hk.mono]

theorem degrade_keeps {α : Type} (π : State → α)
    (hk : Keeps π [.arb, .body, .control, .slots, .signals, .lifts, .markers, .arbiter, .packer,
      .payload, .agent])
    (k : SlotId) (s : State) :
    π (degrade k s) = π s := by
  unfold degrade
  try dsimp only
  (repeat' split) <;> first | with_reducible rfl | simp only [degrade, resignal_keeps π hk.mono, State.setSlot, hk.slots]

theorem freshnessExpiry_keeps {α : Type} (π : State → α)
    (hk : Keeps π [.arb, .sys, .body, .control, .slots, .signals, .lifts, .markers, .arbiter,
      .packer, .payload, .agent])
    (k : SlotId) (s : State) :
    π (freshnessExpiry k s) = π s := by
  unfold freshnessExpiry
  try split
  all_goals first
    | with_reducible rfl
    | (refine onExpiry_keeps π hk.mono _ _ _ fun e s => ?_
       try dsimp only
       (repeat' split) <;> simp only [freshnessExpiry, degrade_keeps π hk.mono, resignal_keeps π hk.mono, State.setSlot,
         State.now, hk.sys, hk.slots])

theorem slotHoldExpiry_keeps {α : Type} (π : State → α)
    (hk : Keeps π [.arb, .sys, .body, .control, .slots, .signals, .lifts, .markers, .arbiter,
      .packer, .payload, .agent])
    (k : SlotId) (s : State) :
    π (slotHoldExpiry k s) = π s := by
  unfold slotHoldExpiry
  try split
  all_goals first
    | with_reducible rfl
    | (refine onExpiry_keeps π hk.mono _ _ _ fun e s => ?_
       try dsimp only
       (repeat' split) <;> simp only [slotHoldExpiry, degrade_keeps π hk.mono, hk.sys])

theorem defaultAction_keeps {α : Type} (π : State → α)
    (hk : Keeps π [.chassis, .body])
    (p : Port) (f : Frame) (s : State) :
    π (defaultAction p f s) = π s := by
  unfold defaultAction
  try dsimp only
  (repeat' split) <;> first | with_reducible rfl | simp only [defaultAction, countUnrouted_keeps π hk.mono, pushForward_keeps π hk.mono]

theorem offerFrame_keeps {α : Type} (π : State → α)
    (hk : Keeps π [.chassis, .body, .routes])
    (i : Fin 64) (p : Port) (f : Frame) (s : State) :
    π (offerFrame i p f s) = π s := by
  unfold offerFrame
  try dsimp only
  (repeat' split) <;> first | with_reducible rfl | simp only [offerFrame, dropOn_keeps π hk.mono, pushForward_keeps π hk.mono]

theorem offerLimited_keeps {α : Type} (π : State → α)
    (hk : Keeps π [.chassis, .body, .routes])
    (i : Fin 64) (p : Port) (f : Frame) (s : State) :
    π (offerLimited i p f s) = π s := by
  unfold offerLimited
  try dsimp only
  (repeat' split) <;> first | with_reducible rfl | simp only [offerLimited, dropOn_keeps π hk.mono, pushForward_keeps π hk.mono, State.setRoute,
      State.now, hk.routes]

theorem forwardRouted_keeps {α : Type} (π : State → α)
    (hk : Keeps π [.chassis, .body, .routes])
    (i : Fin 64) (p : Port) (f : Frame) (s : State) :
    π (forwardRouted i p f s) = π s := by
  unfold forwardRouted
  try dsimp only
  (repeat' split) <;> first | with_reducible rfl | simp only [forwardRouted, offerFrame_keeps π hk.mono, offerLimited_keeps π hk.mono]

theorem applyRoute_keeps {α : Type} (π : State → α)
    (hk : Keeps π [.arb, .store, .chassis, .body, .control, .routes, .slots, .signals, .lifts, .markers, .arbiter, .packer, .payload, .clock, .agent])
    (i : Fin 64) (p : Port) (f : Frame) (s : State) :
    π (applyRoute i p f s) = π s := by
  unfold applyRoute
  try dsimp only
  (repeat' split) <;> first | with_reducible rfl | simp only [applyRoute, dropOn_keeps π hk.mono, forwardRouted_keeps π hk.mono, tap_keeps π hk.mono,
      State.setRoute, hk.routes]

theorem routeFrame_keeps {α : Type} (π : State → α)
    (hk : Keeps π [.arb, .store, .chassis, .body, .control, .routes, .slots, .signals, .lifts, .markers, .arbiter, .packer, .payload, .clock, .agent])
    (p : Port) (f : Frame) (s : State) :
    π (routeFrame p f s) = π s := by
  unfold routeFrame
  try dsimp only
  (repeat' split) <;> first | with_reducible rfl | simp only [routeFrame, applyRoute_keeps π hk.mono, defaultAction_keeps π hk.mono]

theorem routeExpiry_keeps {α : Type} (π : State → α)
    (hk : Keeps π [.sys, .chassis, .body, .routes])
    (i : Fin 64) (s : State) :
    π (routeExpiry i s) = π s := by
  unfold routeExpiry
  try split
  all_goals first
    | with_reducible rfl
    | (refine onExpiry_keeps π hk.mono _ _ _ fun e s => ?_
       try dsimp only
       (repeat' split) <;> simp only [routeExpiry, dropOn_keeps π hk.mono, pushForward_keeps π hk.mono, State.setRoute, hk.sys,
         hk.routes])

theorem openRoute_keeps {α : Type} (π : State → α)
    (hk : Keeps π [.routes])
    (s : State) (i : Fin 64) :
    π (openRoute s i) = π s := by
  unfold openRoute
  try dsimp only
  (repeat' split) <;> first | with_reducible rfl | simp only [openRoute, emptyHold_keeps π hk.mono, State.setRoute, hk.routes]

theorem clearRouteCounts_keeps {α : Type} (π : State → α)
    (hk : Keeps π [.routes])
    (s : State) :
    π (clearRouteCounts s) = π s := by
  unfold clearRouteCounts
  try dsimp only
  (repeat' split) <;> first | with_reducible rfl | simp only [clearRouteCounts, hk.routes]

theorem statusExpiry_keeps {α : Type} (π : State → α)
    (hk : Keeps π [.sys, .chassis, .body, .statusBuffer, .statusTimer])
    (s : State) :
    π (statusExpiry s) = π s := by
  unfold statusExpiry
  try split
  all_goals first
    | with_reducible rfl
    | (refine onExpiry_keeps π hk.mono _ _ _ fun e s => ?_
       try dsimp only
       (repeat' split) <;> simp only [statusExpiry, offerStatus_keeps π hk.mono, hk.sys, hk.statusTimer])

theorem recordChanges_keeps {α : Type} (π : State → α)
    (hk : Keeps π [.body, .control, .scanner, .agent])
    (changed : BitVec 32) (s : State) :
    π (recordChanges changed s) = π s := by
  unfold recordChanges
  try dsimp only
  (repeat' split) <;> first | with_reducible rfl | simp only [recordChanges, raiseNotice_keeps π hk.mono, hk.scanner]

theorem evaluatePairs_keeps {α : Type} (π : State → α)
    (hk : Keeps π [.body, .control, .scanner, .agent])
    (s : State) :
    π (evaluatePairs s).2 = π s := by
  unfold evaluatePairs
  try dsimp only
  (repeat' split) <;> first | with_reducible rfl | simp only [evaluatePairs, raiseNotice_keeps π hk.mono, now, hk.scanner]

theorem haltPairs_keeps {α : Type} (π : State → α)
    (hk : Keeps π [.arb, .store, .body, .control, .lifts, .markers, .tags, .weigh, .table,
      .billing, .queue, .arbiter, .packer, .payload, .tailgate, .clock, .agent])
    (begun : BitVec 8) (s : State) :
    π (haltPairs begun s) = π s := by
  unfold haltPairs
  dsimp only
  have hf : ∀ (c : Mem) (s : State), π (stations.foldl (fun s st =>
      if c.begunFor begun (.station st) && s.stationMoving st then haltStation st .sensorError s
      else s) s) = π s := fun c s => foldl_keeps π _ (fun s st => by
    split <;> first | with_reducible rfl | exact haltStation_keeps π hk.mono _ _ _) _ _
  (repeat' split) <;> simp only [hf, tailgateFault_keeps π hk.mono, haltPacker_keeps π hk.mono]

theorem haltAll_keeps {α : Type} (π : State → α)
    (hk : Keeps π [.arb, .store, .body, .control, .lifts, .markers, .tags, .weigh, .table,
      .billing, .queue, .arbiter, .packer, .payload, .tailgate, .clock, .agent])
    (s : State) :
    π (haltAll s) = π s := by
  unfold haltAll
  dsimp only
  have hf : ∀ s : State, π (stations.foldl (fun s st =>
      if s.stationMoving st then haltStation st .eStop s else s) s) = π s := fun s =>
    foldl_keeps π _ (fun s st => by
      split <;> first | with_reducible rfl | exact haltStation_keeps π hk.mono _ _ _) _ _
  (repeat' split) <;> simp only [hf, tailgateFault_keeps π hk.mono, haltPacker_keeps π hk.mono]

theorem haltFunctions_keeps {α : Type} (π : State → α)
    (hk : Keeps π [.arb, .store, .body, .control, .lifts, .markers, .tags, .weigh, .table,
      .billing, .queue, .arbiter, .packer, .payload, .tailgate, .clock, .agent])
    (begun : BitVec 8) (stop : Bool) (s : State) :
    π (haltFunctions begun stop s) = π s := by
  unfold haltFunctions
  dsimp only
  (repeat' split) <;> simp only [servePack_keeps π hk.mono, bladeTests_keeps π hk.mono,
    haltAll_keeps π hk.mono, haltPairs_keeps π hk.mono, clearPackPending_keeps π hk.mono]

theorem stationEvent_keeps {α : Type} (π : State → α)
    (hk : Keeps π [.arb, .store, .body, .control, .lifts, .markers, .tags, .weigh, .zeros, .table,
      .billing, .queue, .arbiter, .packer, .payload, .tailgate, .clock, .agent])
    (changed : BitVec 32) (begun : BitVec 8) (stop : Bool) (s : State) (st : Station) :
    π (stationEvent changed begun stop s st) = π s := by
  unfold stationEvent
  try dsimp only
  (repeat' split) <;> first | with_reducible rfl | simp only [stationEvent, cycleStart_keeps π hk.mono, retestBlade_keeps π hk.mono, stationInputs_keeps π
      hk.mono]

theorem publish_keeps {α : Type} (π : State → α)
    (hk : Keeps π [.arb, .store, .body, .control, .scanner, .lifts, .markers, .tags, .weigh,
      .zeros, .table, .billing, .queue, .arbiter, .packer, .payload, .tailgate,
      .clock, .agent])
    (new : BitVec 32) (s : State) :
    π (publish new s) = π s := by
  unfold publish
  dsimp only
  split
  · rfl
  · have he := evaluatePairs_keeps π hk.mono (recordChanges (s.scanner.published ^^^ new)
      (s.setScanner { s.scanner with published := new }))
    rw [recordChanges_keeps π hk.mono, hk.scanner] at he
    generalize evaluatePairs (recordChanges (s.scanner.published ^^^ new)
      (s.setScanner { s.scanner with published := new })) = w at he ⊢
    obtain ⟨begun, t⟩ := w
    have hf : ∀ (b : Bool) (s : State), π (stations.foldl
        (stationEvent (s.scanner.published ^^^ new) begun b) s) = π s := fun b s =>
      foldl_keeps π _ (stationEvent_keeps π hk.mono _ _ _) _ _
    have hg : ∀ (v : BitVec 32) (b : Bool) (s : State), π (stations.foldl
        (stationEvent v begun b) s) = π s := fun v b s =>
      foldl_keeps π _ (stationEvent_keeps π hk.mono _ _ _) _ _
    dsimp only at he ⊢
    (repeat' split) <;> simp only [tailgateInputs_keeps π hk.mono, packerInputs_keeps π hk.mono, hg,
      haltFunctions_keeps π hk.mono, he]

theorem becomeReady_keeps {α : Type} (π : State → α)
    (hk : Keeps π [.arb, .store, .body, .control, .scanner, .lifts, .markers, .tags, .weigh,
      .table, .billing, .queue, .arbiter, .packer, .payload, .tailgate, .clock, .agent])
    (s : State) :
    π (becomeReady s) = π s := by
  unfold becomeReady
  try dsimp only
  (repeat' split) <;> first | with_reducible rfl | simp only [becomeReady, evaluatePairs_keeps π hk.mono, haltFunctions_keeps π hk.mono,
      packerStart_keeps π hk.mono, hk.scanner]

theorem groupRead_keeps {α : Type} (π : State → α)
    (hk : Keeps π [.arb, .sys, .store, .body, .control, .scanner, .lifts, .markers, .tags, .weigh,
      .zeros, .table, .billing, .queue, .arbiter, .packer, .payload, .tailgate,
      .clock, .agent])
    (lines : Byte) (s : State) :
    π (groupRead lines s) = π s := by
  unfold groupRead
  try split
  all_goals first
    | with_reducible rfl
    | (refine onExpiry_keeps π hk.mono _ _ _ fun e s => ?_
       try dsimp only
       (repeat' split) <;> simp only [groupRead, becomeReady_keeps π hk.mono, publish_keeps π hk.mono, hk.sys, hk.scanner])

theorem commitScanner_keeps {α : Type} (π : State → α)
    (hk : Keeps π [.arb, .store, .cfg, .body, .control, .scanner, .lifts, .markers, .tags, .weigh,
      .table, .billing, .queue, .arbiter, .packer, .payload, .tailgate, .clock, .agent])
    (old : Mem) (s : State) :
    π (commitScanner old s) = π s := by
  unfold commitScanner
  try dsimp only
  (repeat' split) <;> first | with_reducible rfl | simp only [commitScanner, haltFunctions_keeps π hk.mono, evaluatePairs_keeps π hk.mono,
      raiseNotice_keeps π hk.mono, recordChanges_keeps π hk.mono, hk.cfg, hk.scanner]

theorem commitChannels_keeps {α : Type} (π : State → α)
    (hk : Keeps π [.sys, .channels])
    (s : State) :
    π (commitChannels s) = π s := by
  unfold commitChannels
  try dsimp only
  (repeat' split) <;> first | with_reducible rfl | simp only [commitChannels, periodEnd_keeps π hk.mono, refreshValves_keeps π hk.mono, State.now,
      hk.channels]

theorem commitLevel_keeps {α : Type} (π : State → α)
    (hk : Keeps π [.body, .control, .agent])
    (before : Bool) (s : State) :
    π (commitLevel before s) = π s := by
  unfold commitLevel
  try dsimp only
  (repeat' split) <;> first | with_reducible rfl | simp only [commitLevel, raiseNotice_keeps π hk.mono]

theorem applyCommit_keeps {α : Type} (π : State → α)
    (hk : Keeps π [.arb, .sys, .mode, .store, .cfg, .body, .control, .routes, .statusTimer,
      .signals, .scanner, .lifts, .markers, .tags, .weigh, .zeros, .table, .billing,
      .queue, .arbiter, .channels, .packer, .payload, .tailgate, .clock, .agent])
    (s : State) :
    π (applyCommit s) = π s := by
  unfold applyCommit
  simp only [applyCommit, clearRouteCounts_keeps π hk.mono, commitChannels_keeps π hk.mono, commitLevel_keeps π hk.mono, commitScanner_keeps π hk.mono, commitTags_keeps π hk.mono, commitZero_keeps π hk.mono, resignal_keeps π hk.mono, setGroup_keeps π hk.mono, testBodyFull_keeps π hk.mono, State.now, hk.mode, hk.cfg, hk.statusTimer, foldl_keeps π commitZero (commitZero_keeps π hk.mono)]

theorem readSpan_keeps {α : Type} (π : State → α)
    (hk : Keeps π [.snaps])
    (a n : Nat) (s : State) :
    π (readSpan a n s).2 = π s := by
  unfold readSpan
  try dsimp only
  (repeat' split) <;> first | with_reducible rfl | simp only [readSpan, hk.snaps]

theorem writeSpan_keeps {α : Type} (π : State → α)
    (hk : Keeps π [.store, .table, .queue, .agent])
    (a : Nat) (bytes : List Byte) (s : State) :
    π (writeSpan a bytes s) = π s := by
  unfold writeSpan
  try dsimp only
  (repeat' split) <;> first | with_reducible rfl | simp only [writeSpan, hk.store, hk.table, hk.queue, hk.agent]

theorem advance_keeps {α : Type} (π : State → α)
    (hk : Keeps π [.agent])
    (m : Manager) (body : ReqBody) (len : Nat) (s : State) :
    π (advance m body len s) = π s := by
  unfold advance
  try dsimp only
  (repeat' split) <;> first | with_reducible rfl | simp only [advance, hk.agent]

theorem offerQuery_keeps {α : Type} (π : State → α)
    (hk : Keeps π [.body, .control])
    (a : Access) (s : State) :
    π (offerQuery a s) = π s := by
  unfold offerQuery
  try dsimp only
  (repeat' split) <;> first | with_reducible rfl | simp only [offerQuery, offerControl_keeps π hk.mono]

theorem takeAccess_keeps {α : Type} (π : State → α)
    (hk : Keeps π [.body, .control, .agent])
    (m : Manager) (body : ReqBody) (o : Op) (s : State) :
    π (takeAccess m body o s) = π s := by
  unfold takeAccess
  try dsimp only
  (repeat' split) <;> first | with_reducible rfl | simp only [takeAccess, offerQuery_keeps π hk.mono, State.now, hk.agent]

theorem collect_keeps {α : Type} (π : State → α)
    (hk : Keeps π [.agent])
    (m : Manager) (body : ReqBody) (o : Op) (r : MirrorResult) (s : State) :
    π (collect m body o r s).2 = π s := by
  unfold collect
  try dsimp only
  (repeat' split) <;> first | with_reducible rfl | simp only [collect, advance_keeps π hk.mono, State.setDeferred, hk.agent]

theorem mirrorRequest_keeps {α : Type} (π : State → α)
    (hk : Keeps π [.body, .control, .agent])
    (m : Manager) (body : ReqBody) (o : Op) (s : State) :
    π (mirrorRequest m body o s).2 = π s := by
  unfold mirrorRequest
  try dsimp only
  (repeat' split) <;> first | with_reducible rfl | simp only [mirrorRequest, collect_keeps π hk.mono, takeAccess_keeps π hk.mono]

theorem strayData_keeps {α : Type} (π : State → α)
    (hk : Keeps π [.agent])
    (s : State) :
    π (strayData s) = π s := by
  unfold strayData
  try dsimp only
  (repeat' split) <;> first | with_reducible rfl | simp only [strayData, hk.agent]

theorem nodeData_keeps {α : Type} (π : State → α)
    (hk : Keeps π [.agent])
    (src : Byte) (tag : BitVec 4) (data : List Byte) (s : State) :
    π (nodeData src tag data s) = π s := by
  unfold nodeData
  try dsimp only
  (repeat' split) <;> first | with_reducible rfl | simp only [nodeData, strayData_keeps π hk.mono, State.setDeferred, State.now, hk.agent]

theorem queryExpiry_keeps {α : Type} (π : State → α)
    (hk : Keeps π [.sys, .body, .control, .agent])
    (s : State) :
    π (queryExpiry s) = π s := by
  unfold queryExpiry
  try split
  all_goals first
    | with_reducible rfl
    | (refine onExpiry_keeps π hk.mono _ _ _ fun e s => ?_
       try dsimp only
       (repeat' split) <;> simp only [queryExpiry, offerQuery_keeps π hk.mono, State.setDeferred, State.now, hk.sys, hk.agent])

theorem resultExpiry_keeps {α : Type} (π : State → α)
    (hk : Keeps π [.sys, .agent])
    (s : State) :
    π (resultExpiry s) = π s := by
  unfold resultExpiry
  try split
  all_goals first
    | with_reducible rfl
    | (refine onExpiry_keeps π hk.mono _ _ _ fun e s => ?_
       try dsimp only
       (repeat' split) <;> simp only [resultExpiry, State.setDeferred, hk.sys, hk.agent])

theorem accessOp_keeps {α : Type} (π : State → α)
    (hk : Keeps π [.store, .body, .control, .table, .queue, .snaps, .agent])
    (m : Manager) (body : ReqBody) (o : Op) (s : State) :
    π (accessOp m body o s).2 = π s := by
  unfold accessOp
  try dsimp only
  (repeat' split) <;> first | with_reducible rfl | simp only [accessOp, advance_keeps π hk.mono, mirrorRequest_keeps π hk.mono, readSpan_keeps π hk.mono,
      writeSpan_keeps π hk.mono]

theorem access_keeps {α : Type} (π : State → α)
    (hk : Keeps π [.store, .body, .control, .table, .queue, .snaps, .agent])
    (m : Manager) (body : ReqBody) (o : Op) (s : State) :
    π (access m body o s).2 = π s := by
  unfold access
  try dsimp only
  (repeat' split) <;> first | with_reducible rfl | simp only [access, accessOp_keeps π hk.mono]

theorem tableOpen_keeps {α : Type} (π : State → α)
    (hk : Keeps π [.table])
    (s : State) :
    π (tableOpen s).2 = π s := by
  unfold tableOpen
  try dsimp only
  (repeat' split) <;> first | with_reducible rfl | simp only [tableOpen, State.countTable, doneWith, refuse, hk.table]

theorem tableClose_keeps {α : Type} (π : State → α)
    (hk : Keeps π [.body, .control, .table, .agent])
    (s : State) :
    π (tableClose s).2 = π s := by
  unfold tableClose
  try dsimp only
  (repeat' split) <;> first | with_reducible rfl | simp only [tableClose, beginCheck_keeps π hk.mono, doneWith, refuse]

theorem update_keeps {α : Type} (π : State → α)
    (hk : Keeps π [.store, .table])
    (s : State) :
    π (update s).2 = π s := by
  unfold update
  try dsimp only
  (repeat' split) <;> first | with_reducible rfl | simp only [update, updateRecord_keeps π hk.mono, refuse, editResult, endEdit_keeps π hk.mono]

theorem insert_keeps {α : Type} (π : State → α)
    (hk : Keeps π [.arb, .store, .body, .control, .lifts, .markers, .tags, .table, .billing,
      .queue, .arbiter, .packer, .payload, .tailgate, .clock, .agent])
    (s : State) :
    π (Machine.insert s).2 = π s := by
  unfold Machine.insert
  (repeat' split) <;> simp only [now, refuse, editResult, runMove, endEdit_keeps π hk.mono]
  split <;> simp only [endEdit_keeps π hk.mono, completeMove_keeps π hk.mono,
    beginMove_keeps π hk.mono]

theorem delete_keeps {α : Type} (π : State → α)
    (hk : Keeps π [.arb, .store, .body, .control, .lifts, .markers, .tags, .table, .billing,
      .queue, .arbiter, .packer, .payload, .tailgate, .clock, .agent])
    (s : State) :
    π (Machine.delete s).2 = π s := by
  unfold Machine.delete
  (repeat' split) <;> simp only [now, refuse, editResult, runMove, endEdit_keeps π hk.mono]
  split <;> simp only [endEdit_keeps π hk.mono, completeMove_keeps π hk.mono,
    beginMove_keeps π hk.mono]

theorem openPeriod_keeps {α : Type} (π : State → α)
    (hk : Keeps π [.arb, .store, .body, .control, .lifts, .markers, .tags, .table, .billing,
      .queue, .arbiter, .packer, .payload, .tailgate, .clock, .agent])
    (s : State) :
    π (openPeriod s).2 = π s := by
  unfold openPeriod
  (repeat' split) <;> simp only [now, refuse, doneWith, runMove]
  split <;> simp only [completeMove_keeps π hk.mono, beginMove_keeps π hk.mono]

theorem release_keeps {α : Type} (π : State → α)
    (hk : Keeps π [.queue])
    (n : Nat) (s : State) :
    π (release n s).2 = π s := by
  unfold release
  try dsimp only
  (repeat' split) <;> first | with_reducible rfl | simp only [release, releaseRecords_keeps π hk.mono]

theorem latch_keeps {α : Type} (π : State → α)
    (hk : Keeps π [.snaps])
    (sel : BitVec 32) (s : State) :
    π (latch sel s).2 = π s := by
  unfold latch
  try dsimp only
  (repeat' split) <;> first | with_reducible rfl | simp only [latch, hk.snaps]

theorem clearFlags_keeps {α : Type} (π : State → α)
    (hk : Keeps π [.tags])
    (set : BitVec 32) (s : State) :
    π (clearFlags set s) = π s := by
  unfold clearFlags
  try dsimp only
  (repeat' split) <;> first | with_reducible rfl | simp only [clearFlags, hk.tags]

theorem acknowledgeNotices_keeps {α : Type} (π : State → α)
    (hk : Keeps π [.agent])
    (set : BitVec 32) (s : State) :
    π (acknowledgeNotices set s) = π s := by
  unfold acknowledgeNotices
  try dsimp only
  (repeat' split) <;> first | with_reducible rfl | simp only [acknowledgeNotices, hk.agent]

theorem acknowledgeChanges_keeps {α : Type} (π : State → α)
    (hk : Keeps π [.scanner])
    (set : BitVec 32) (s : State) :
    π (acknowledgeChanges set s) = π s := by
  unfold acknowledgeChanges
  try dsimp only
  (repeat' split) <;> first | with_reducible rfl | simp only [acknowledgeChanges, hk.scanner]

theorem zeroCapture_keeps {α : Type} (π : State → α)
    (hk : Keeps π [.weigh])
    (station : Byte) (s : State) :
    π (zeroCapture station s).2 = π s := by
  unfold zeroCapture
  try dsimp only
  (repeat' split) <;> first | with_reducible rfl | simp only [zeroCapture, beginCapture_keeps π hk.mono, doneWith, refuse]

theorem setLowest_keeps {α : Type} (π : State → α)
    (hk : Keeps π [.arb, .arbiter])
    (station : Byte) (s : State) :
    π (setLowest station s).2 = π s := by
  unfold setLowest
  try dsimp only
  (repeat' split) <;> first | with_reducible rfl | simp only [setLowest, commandLowest_keeps π hk.mono, doneWith, refuse]

theorem setClock_keeps {α : Type} (π : State → α)
    (hk : Keeps π [.store, .body, .control, .clock, .agent])
    (v : BitVec 32) (s : State) :
    π (setClock v s).2 = π s := by
  unfold setClock
  try dsimp only
  (repeat' split) <;> first | with_reducible rfl | simp only [setClock, setClockTo_keeps π hk.mono, doneWith, refuse]

theorem configurationOpen_keeps {α : Type} (π : State → α)
    (hk : Keeps π [.mode, .body, .control, .routes, .weigh, .packer, .agent])
    (s : State) :
    π (configurationOpen s).2 = π s := by
  unfold configurationOpen
  (repeat' split) <;> simp only [doneWith, refuse,
    foldl_keeps π (fun s st => cancelCapture st s) (fun s st => cancelCapture_keeps π hk.mono st s),
    clearPackPending_keeps π hk.mono, foldl_keeps π openRoute (openRoute_keeps π hk.mono), hk.mode]

theorem commit_keeps {α : Type} (π : State → α)
    (hk : Keeps π [.arb, .sys, .mode, .store, .cfg, .body, .control, .routes, .statusTimer,
      .signals, .scanner, .lifts, .markers, .tags, .weigh, .zeros, .table, .billing,
      .queue, .arbiter, .channels, .packer, .payload, .tailgate, .clock, .agent])
    (s : State) :
    π (commit s).2 = π s := by
  unfold commit
  try dsimp only
  (repeat' split) <;> first | with_reducible rfl | simp only [commit, applyCommit_keeps π hk.mono, doneWith, refuse]

theorem maintenanceEnter_keeps {α : Type} (π : State → α)
    (hk : Keeps π [.mode, .packer])
    (m : Manager) (s : State) :
    π (maintenanceEnter m s).2 = π s := by
  unfold maintenanceEnter
  try dsimp only
  (repeat' split) <;> first | with_reducible rfl | simp only [maintenanceEnter, clearPackPending_keeps π hk.mono, doneWith, refuse, hk.mode]

theorem maintenanceLeave_keeps {α : Type} (π : State → α)
    (hk : Keeps π [.mode])
    (m : Manager) (s : State) :
    π (maintenanceLeave m s).2 = π s := by
  unfold maintenanceLeave
  try dsimp only
  (repeat' split) <;> first | with_reducible rfl | simp only [maintenanceLeave, doneWith, refuse, hk.mode]

theorem serveCommand_keeps {α : Type} (π : State → α)
    (hk : Keeps π [.arb, .sys, .mode, .store, .cfg, .body, .control, .routes, .statusTimer,
      .signals, .scanner, .lifts, .markers, .tags, .weigh, .zeros, .table, .billing,
      .queue, .arbiter, .channels, .packer, .payload, .tailgate, .clock, .snaps,
      .agent])
    (m : Manager) (code : Byte) (arg : BitVec 32) (s : State) :
    π (serveCommand m code arg s).2 = π s := by
  unfold serveCommand
  try dsimp only
  (repeat' split) <;> first | with_reducible rfl | simp only [serveCommand, acknowledgeChanges_keeps π hk.mono, acknowledgeNotices_keeps π hk.mono,
      clearFlags_keeps π hk.mono, clearTotals_keeps π hk.mono, commit_keeps π hk.mono,
      configurationOpen_keeps π hk.mono, delete_keeps π hk.mono, insert_keeps π hk.mono,
      latch_keeps π hk.mono, maintenanceEnter_keeps π hk.mono, maintenanceLeave_keeps π hk.mono,
      openPeriod_keeps π hk.mono, release_keeps π hk.mono, setClock_keeps π hk.mono,
      setLowest_keeps π hk.mono, tableClose_keeps π hk.mono, tableOpen_keeps π hk.mono,
      update_keeps π hk.mono, zeroCapture_keeps π hk.mono, doneWith, refuse, now]

theorem serveBody_keeps {α : Type} (π : State → α)
    (hk : Keeps π [.arb, .sys, .mode, .store, .cfg, .body, .control, .routes, .statusTimer,
      .signals, .scanner, .lifts, .markers, .tags, .weigh, .zeros, .table, .billing,
      .queue, .arbiter, .channels, .packer, .payload, .tailgate, .clock, .snaps,
      .agent])
    (m : Manager) (body : ReqBody) (s : State) :
    π (serveBody m body s).2 = π s := by
  unfold serveBody
  try dsimp only
  (repeat' split) <;> first | with_reducible rfl | simp only [serveBody, access_keeps π hk.mono, serveCommand_keeps π hk.mono, doneWith, refuse, now,
      hk.agent]

theorem countStatus_keeps {α : Type} (π : State → α)
    (hk : Keeps π [.agent])
    (st : Status) (s : State) :
    π (countStatus st s) = π s := by
  unfold countStatus
  try dsimp only
  (repeat' split) <;> first | with_reducible rfl | simp only [countStatus, hk.agent]

theorem respond_keeps {α : Type} (π : State → α)
    (hk : Keeps π [.body, .control, .agent])
    (r : Request) (a : Answer) (reset : Bool) (s : State) :
    π (respond r a reset s) = π s := by
  unfold respond
  try dsimp only
  (repeat' split) <;> first | with_reducible rfl | simp only [respond, countStatus_keeps π hk.mono, offerControl_keeps π hk.mono]

theorem countRequest_keeps {α : Type} (π : State → α)
    (hk : Keeps π [.body, .control, .agent])
    (s : State) :
    π (countRequest s) = π s := by
  unfold countRequest
  try dsimp only
  (repeat' split) <;> first | with_reducible rfl | simp only [countRequest, served, hk.agent]

theorem answerHead_keeps {α : Type} (π : State → α)
    (hk : Keeps π [.body, .control, .agent])
    (r : Request) (a : Answer) (s : State) :
    π (answerHead r a s) = π s := by
  unfold answerHead
  try dsimp only
  (repeat' split) <;> first | with_reducible rfl | simp only [answerHead, countRequest_keeps π hk.mono, respond_keeps π hk.mono, hk.agent]

theorem holdHead_keeps {α : Type} (π : State → α)
    (hk : Keeps π [.body, .control, .agent])
    (r : Request) (h : Hold) (s : State) :
    π (holdHead r h s) = π s := by
  unfold holdHead
  try dsimp only
  (repeat' split) <;> first | with_reducible rfl | simp only [holdHead, countRequest_keeps π hk.mono, respond_keeps π hk.mono, hk.agent]

theorem serveRequest_keeps {α : Type} (π : State → α)
    (hk : Keeps π [.arb, .sys, .mode, .store, .cfg, .body, .control, .routes, .statusTimer,
      .signals, .scanner, .lifts, .markers, .tags, .weigh, .zeros, .table, .billing,
      .queue, .arbiter, .channels, .packer, .payload, .tailgate, .clock, .snaps,
      .agent])
    (r : Request) (s : State) :
    π (serveRequest r s) = π s := by
  have hc := serveBody_keeps π hk.mono r.mgr r.body s
  unfold serveRequest
  split <;> (rename_i e; rw [e] at hc)
  · rw [answerHead_keeps π hk.mono]; exact hc
  · rw [holdHead_keeps π hk.mono]; exact hc

theorem serveQueue_keeps {α : Type} (π : State → α)
    (hk : Keeps π [.arb, .sys, .mode, .store, .cfg, .body, .control, .routes, .statusTimer,
      .signals, .scanner, .lifts, .markers, .tags, .weigh, .zeros, .table, .billing,
      .queue, .arbiter, .channels, .packer, .payload, .tailgate, .clock, .snaps,
      .agent])
    (n : Nat) (s : State) :
    π (serveQueue n s) = π s := by
  induction n generalizing s with
  | zero => rfl
  | succ n ih =>
    unfold serveQueue
    split
    · rw [ih, serveRequest_keeps π hk.mono]
    · rfl

theorem serveAgent_keeps {α : Type} (π : State → α)
    (hk : Keeps π [.arb, .sys, .mode, .store, .cfg, .body, .control, .routes, .statusTimer,
      .signals, .scanner, .lifts, .markers, .tags, .weigh, .zeros, .table, .billing,
      .queue, .arbiter, .channels, .packer, .payload, .tailgate, .clock, .snaps,
      .agent])
    (s : State) :
    π (serveAgent s) = π s := by
  unfold serveAgent
  try dsimp only
  (repeat' split) <;> first | with_reducible rfl | simp only [serveAgent, serveQueue_keeps π hk.mono]

theorem takeRequest_keeps {α : Type} (π : State → α)
    (hk : Keeps π [.body, .control, .agent])
    (r : Request) (s : State) :
    π (takeRequest r s) = π s := by
  unfold takeRequest
  try dsimp only
  (repeat' split) <;> first | with_reducible rfl | simp only [takeRequest, respond_keeps π hk.mono, hk.agent]

theorem receiveRequest_keeps {α : Type} (π : State → α)
    (hk : Keeps π [.body, .control, .agent])
    (src : Byte) (tag : BitVec 4) (data : List Byte) (s : State) :
    π (receiveRequest src tag data s) = π s := by
  unfold receiveRequest
  try dsimp only
  (repeat' split) <;> first | with_reducible rfl | simp only [receiveRequest, takeRequest_keeps π hk.mono, hk.agent]

theorem submit_keeps {α : Type} (π : State → α)
    (hk : Keeps π [.arb, .sys, .mode, .store, .cfg, .body, .control, .routes, .statusTimer,
      .signals, .scanner, .lifts, .markers, .tags, .weigh, .zeros, .table, .billing,
      .queue, .arbiter, .channels, .packer, .payload, .tailgate, .clock, .snaps,
      .agent])
    (m : Manager) (tag : BitVec 4) (body : ReqBody) (s : State) :
    π (submit m tag body s) = π s := by
  unfold submit
  try dsimp only
  (repeat' split) <;> first | with_reducible rfl | simp only [submit, serveAgent_keeps π hk.mono, takeRequest_keeps π hk.mono]

theorem answerMove_keeps {α : Type} (π : State → α)
    (hk : Keeps π [.body, .control, .table, .agent])
    (op : JournalOp) (s : State) :
    π (answerMove op s) = π s := by
  unfold answerMove
  try dsimp only
  (repeat' split) <;> first | with_reducible rfl | simp only [answerMove, answerHead_keeps π hk.mono, editResult, endEdit_keeps π hk.mono]

theorem moveEnd_keeps {α : Type} (π : State → α)
    (hk : Keeps π [.arb, .sys, .mode, .store, .cfg, .body, .control, .routes, .statusTimer,
      .signals, .scanner, .lifts, .markers, .tags, .weigh, .zeros, .table, .billing,
      .queue, .arbiter, .channels, .packer, .payload, .tailgate, .clock, .snaps,
      .agent])
    (op : JournalOp) (s : State) :
    π (moveEnd op s) = π s := by
  unfold moveEnd
  try split
  all_goals first
    | with_reducible rfl
    | (refine onExpiry_keeps π hk.mono _ _ _ fun e s => ?_
       try dsimp only
       (repeat' split) <;> simp only [moveEnd, answerMove_keeps π hk.mono, completeMove_keeps π hk.mono, serveAgent_keeps π
         hk.mono, hk.sys])

theorem spacingExpiry_keeps {α : Type} (π : State → α)
    (hk : Keeps π [.sys, .body, .control, .agent])
    (s : State) :
    π (spacingExpiry s) = π s := by
  unfold spacingExpiry
  try split
  all_goals first
    | with_reducible rfl
    | (refine onExpiry_keeps π hk.mono _ _ _ fun e s => ?_
       try dsimp only
       (repeat' split) <;> simp only [spacingExpiry, sendNotice_keeps π hk.mono, hk.sys, hk.agent])

theorem markerStation_keeps {α : Type} (π : State → α)
    (hk : Keeps π [.body, .control, .lifts, .billing, .queue, .agent])
    (s : State) (st : Station) :
    π (markerStation s st) = π s := by
  unfold markerStation
  try dsimp only
  (repeat' split) <;> first | with_reducible rfl | simp only [markerStation, raiseNotice_keeps π hk.mono, reserve_keeps π hk.mono, State.setLift,
      hk.lifts, hk.billing]

theorem tailgateStartFault_keeps {α : Type} (π : State → α)
    (hk : Keeps π [.body, .control, .tailgate, .agent])
    (s : State) :
    π (tailgateStartFault s) = π s := by
  unfold tailgateStartFault
  try dsimp only
  (repeat' split) <;> first | with_reducible rfl | simp only [tailgateStartFault, raiseNotice_keeps π hk.mono, hk.tailgate]

theorem markerTailgate_keeps {α : Type} (π : State → α)
    (hk : Keeps π [.body, .control, .billing, .queue, .tailgate, .agent])
    (s : State) :
    π (markerTailgate s) = π s := by
  unfold markerTailgate
  try dsimp only
  (repeat' split) <;> first | with_reducible rfl | simp only [markerTailgate, reserve_keeps π hk.mono, tailgateStartFault_keeps π hk.mono, hk.billing]

theorem resume_keeps {α : Type} (π : State → α)
    (hk : Keeps π [.arb, .store, .body, .control, .lifts, .markers, .tags, .table, .billing,
      .queue, .arbiter, .packer, .payload, .tailgate, .clock, .agent])
    (s : State) :
    π (resume s) = π s := by
  unfold resume
  simp only [resume, markerStation_keeps π hk.mono, markerTailgate_keeps π hk.mono, resumeTable_keeps π hk.mono, serveBilling_keeps π hk.mono, testBodyFull_keeps π hk.mono, foldl_keeps π markerStation (markerStation_keeps π hk.mono)]

theorem commandStart_keeps {α : Type} (π : State → α)
    (hk : Keeps π [.arb, .store, .body, .control, .lifts, .markers, .tags, .weigh, .zeros, .table,
      .queue, .arbiter, .packer, .agent])
    (tag : BitVec 4) (station : Byte) (s : State) :
    π (commandStart tag station s) = π s := by
  unfold commandStart stationCommand served
  split <;> simp only [sendReply_keeps π hk.mono, operatorStart_keeps π hk.mono]

theorem commandReturn_keeps {α : Type} (π : State → α)
    (hk : Keeps π [.arb, .store, .body, .control, .lifts, .markers, .tags, .weigh, .table,
      .billing, .queue, .arbiter, .packer, .payload, .tailgate, .clock, .agent])
    (tag : BitVec 4) (station : Byte) (s : State) :
    π (commandReturn tag station s) = π s := by
  unfold commandReturn stationCommand served
  split <;> simp only [sendReply_keeps π hk.mono, returnLift_keeps π hk.mono]

theorem commandOverride_keeps {α : Type} (π : State → α)
    (hk : Keeps π [.arb, .body, .control, .lifts, .markers, .arbiter, .packer])
    (tag : BitVec 4) (station : Byte) (s : State) :
    π (commandOverride tag station s) = π s := by
  unfold commandOverride stationCommand served
  split <;> simp only [sendReply_keeps π hk.mono, overrideLift_keeps π hk.mono]

theorem commandRecover_keeps {α : Type} (π : State → α)
    (hk : Keeps π [.arb, .body, .control, .lifts, .arbiter])
    (tag : BitVec 4) (station : Byte) (s : State) :
    π (commandRecover tag station s) = π s := by
  unfold commandRecover stationCommand served
  split <;> simp only [sendReply_keeps π hk.mono, recover_keeps π hk.mono]

theorem commandPack_keeps {α : Type} (π : State → α)
    (hk : Keeps π [.arb, .body, .control, .lifts, .markers, .arbiter, .packer, .payload, .agent])
    (tag : BitVec 4) (station : Byte) (s : State) :
    π (commandPack tag station s) = π s := by
  unfold commandPack served
  simp only [sendReply_keeps π hk.mono, pack_keeps π hk.mono]

theorem commandUnload_keeps {α : Type} (π : State → α)
    (hk : Keeps π [.arb, .body, .control, .queue, .arbiter, .tailgate])
    (tag : BitVec 4) (station : Byte) (s : State) :
    π (commandUnload tag station s) = π s := by
  unfold commandUnload served
  simp only [sendReply_keeps π hk.mono, unload_keeps π hk.mono]

theorem commandPackerRecover_keeps {α : Type} (π : State → α)
    (hk : Keeps π [.arb, .body, .control, .lifts, .markers, .arbiter, .packer, .payload, .agent])
    (tag : BitVec 4) (station : Byte) (s : State) :
    π (commandPackerRecover tag station s) = π s := by
  unfold commandPackerRecover served
  simp only [sendReply_keeps π hk.mono, packerRecover_keeps π hk.mono]

theorem commandTailgateRecover_keeps {α : Type} (π : State → α)
    (hk : Keeps π [.arb, .body, .control, .lifts, .markers, .arbiter, .packer, .payload, .tailgate,
      .agent])
    (tag : BitVec 4) (station : Byte) (s : State) :
    π (commandTailgateRecover tag station s) = π s := by
  unfold commandTailgateRecover served
  simp only [sendReply_keeps π hk.mono, tailgateRecover_keeps π hk.mono]

theorem commandUnknown_keeps {α : Type} (π : State → α)
    (hk : Keeps π [.body, .control])
    (code : Byte) (tag : BitVec 4) (station : Byte) (s : State) :
    π (commandUnknown code tag station s) = π s := by
  unfold commandUnknown
  try dsimp only
  (repeat' split) <;> first | with_reducible rfl | simp only [commandUnknown, sendReply_keeps π hk.mono]

theorem takeCommand_keeps {α : Type} (π : State → α)
    (hk : Keeps π [.arb, .store, .body, .control, .lifts, .markers, .tags, .weigh, .zeros, .table,
      .billing, .queue, .arbiter, .packer, .payload, .tailgate, .clock, .agent])
    (code : Byte) (tag : BitVec 4) (station : Byte) (s : State) :
    π (takeCommand code tag station s) = π s := by
  unfold takeCommand
  try dsimp only
  (repeat' split) <;> first | with_reducible rfl | simp only [takeCommand, commandOverride_keeps π hk.mono, commandPack_keeps π hk.mono,
      commandPackerRecover_keeps π hk.mono, commandRecover_keeps π hk.mono, commandReturn_keeps π
      hk.mono, commandStart_keeps π hk.mono, commandTailgateRecover_keeps π hk.mono,
      commandUnknown_keeps π hk.mono, commandUnload_keeps π hk.mono]

theorem operatorCommand_keeps {α : Type} (π : State → α)
    (hk : Keeps π [.arb, .store, .body, .control, .lifts, .foreignCommands, .markers, .tags,
      .weigh, .zeros, .table, .billing, .queue, .arbiter, .packer, .payload,
      .tailgate, .clock, .agent])
    (src : Byte) (tag : BitVec 4) (data : List Byte) (s : State) :
    π (operatorCommand src tag data s) = π s := by
  unfold operatorCommand
  try dsimp only
  (repeat' split) <;> first | with_reducible rfl | simp only [operatorCommand, takeCommand_keeps π hk.mono, hk.foreignCommands]

theorem deliver_keeps {α : Type} (π : State → α)
    (hk : Keeps π [.arb, .store, .body, .control, .lifts, .foreignCommands, .markers, .tags,
      .weigh, .zeros, .table, .billing, .queue, .arbiter, .packer, .payload,
      .tailgate, .clock, .agent])
    (c : BodyClass) (f : Frame) (s : State) :
    π (deliver c f s) = π s := by
  unfold deliver
  try dsimp only
  (repeat' split) <;> first | with_reducible rfl | simp only [deliver, attitude_keeps π hk.mono, nodeData_keeps π hk.mono, operatorCommand_keeps π
      hk.mono, receiveRequest_keeps π hk.mono, tagRead_keeps π hk.mono, weighSample_keeps π
      hk.mono]

theorem countMalformed_keeps {α : Type} (π : State → α) (hk : Keeps π [.body]) (s : State) :
    π (countMalformed s) = π s := by
  simp only [countMalformed, hk.body]

theorem dispatch_keeps {α : Type} (π : State → α)
    (hk : Keeps π [.arb, .store, .body, .control, .lifts, .foreignCommands, .markers, .tags,
      .weigh, .zeros, .table, .billing, .queue, .arbiter, .packer, .payload,
      .tailgate, .clock, .agent])
    (f : Frame) (s : State) :
    π (dispatch f s) = π s := by
  unfold dispatch
  try dsimp only
  (repeat' split) <;> first | with_reducible rfl | simp only [deliver_keeps π hk.mono, countMalformed_keeps π hk.mono]

theorem countReceived_keeps {α : Type} (π : State → α)
    (hk : Keeps π [.chassis, .body])
    (p : Port) (s : State) :
    π (countReceived p s) = π s := by
  unfold countReceived
  try dsimp only
  (repeat' split) <;> first | with_reducible rfl | simp only [countReceived, receivedWell_keeps π hk.mono, setPort_keeps π hk.mono, hk.chassis, hk.body]

theorem frameReceived_keeps {α : Type} (π : State → α)
    (hk : Keeps π [.arb, .sys, .mode, .store, .cfg, .chassis, .body, .control, .routes, .statusTimer, .slots, .signals, .scanner, .lifts, .foreignCommands, .markers, .tags, .weigh, .zeros, .table, .billing, .queue, .arbiter, .channels, .packer, .payload, .tailgate, .clock, .snaps, .agent])
    (p : Port) (f : Frame) (s : State) :
    π (frameReceived p f s) = π s := by
  unfold frameReceived
  try dsimp only
  (repeat' split) <;> first | with_reducible rfl | simp only [frameReceived, countReceived_keeps π hk.mono, dispatch_keeps π hk.mono, routeFrame_keeps π
      hk.mono, serveAgent_keeps π hk.mono]

theorem managementRequest_keeps {α : Type} (π : State → α)
    (hk : Keeps π [.arb, .sys, .mode, .store, .cfg, .body, .control, .routes, .statusTimer,
      .signals, .scanner, .lifts, .markers, .tags, .weigh, .zeros, .table, .billing,
      .queue, .arbiter, .channels, .packer, .payload, .tailgate, .clock, .snaps,
      .agent])
    (src : Byte) (tag : BitVec 4) (data : List Byte) (s : State) :
    π (managementRequest src tag data s) = π s := by
  unfold managementRequest
  try dsimp only
  (repeat' split) <;> first | with_reducible rfl | simp only [managementRequest, receiveRequest_keeps π hk.mono, serveAgent_keeps π hk.mono]

theorem handData_keeps {α : Type} (π : State → α) (hk : Keeps π [.body]) (c : BodyClass)
    (data : List Byte) (owner : List Byte → State → State) (s : State)
    (ho : ∀ d s, π (owner d s) = π s) : π (handData c data owner s) = π s := by
  unfold handData
  split <;> simp only [ho, countMalformed_keeps π hk.mono]

theorem driveLines_keeps {α : Type} (π : State → α)
    (hk : Keeps π [.arb, .sys, .store, .body, .control, .scanner, .lifts, .markers, .tags, .weigh,
      .zeros, .table, .billing, .queue, .arbiter, .packer, .payload, .tailgate,
      .clock, .agent])
    (lines : Byte) (s : State) :
    π (driveLines lines s) = π s := by
  unfold driveLines
  try dsimp only
  (repeat' split) <;> first | with_reducible rfl | simp only [driveLines, groupRead_keeps π hk.mono, hk.sys]

theorem startFrom_keeps {α : Type} (π : State → α)
    (hk : Keeps π [.arb, .store, .body, .control, .lifts, .markers, .tags, .weigh, .zeros, .table,
      .queue, .arbiter, .packer, .agent])
    (src : StartSource) (s : State) :
    π (startFrom src s) = π s := by
  unfold startFrom
  try dsimp only
  (repeat' split) <;> first | with_reducible rfl | simp only [startFrom, commandStart_keeps π hk.mono, cycleStart_keeps π hk.mono]

theorem checkExpiry_keeps {α : Type} (π : State → α)
    (hk : Keeps π [.sys, .body, .control, .table, .agent])
    (s : State) :
    π (checkExpiry s) = π s := by
  unfold checkExpiry
  try split
  all_goals first
    | with_reducible rfl
    | (refine onExpiry_keeps π hk.mono _ _ _ fun e s => ?_
       try dsimp only
       (repeat' split) <;> simp only [checkExpiry, endCheck_keeps π hk.mono, hk.sys])

/-! ### The fields as readings -/

theorem paceLift_keeps {α : Type} (π : State → α) (hk : Keeps π [.lifts, .weigh]) (s : State)
    (st : Station) : π (paceLift s st) = π s := by
  unfold paceLift endRun
  dsimp only
  split <;> simp only [State.setScale, State.setLift, hk.weigh, hk.lifts]

/-- An arbitration replaces six fields at most. -/
theorem arbitrate_keeps {α : Type} (π : State → α)
    (hk : Keeps π [.arbiter, .channels, .lifts, .weigh, .packer, .tailgate]) (s : State) :
    π (arbitrate s) = π s := by
  unfold arbitrate paceTailgate pacePacker refreshValves
  simp only [foldl_keeps π paceLift (paceLift_keeps π hk.mono), hk.arbiter, hk.channels, hk.packer,
    hk.tailgate]

theorem keeps_sys : Keeps State.sys [
    .arb, .mode, .store, .cfg, .chassis, .body, .statusBuffer, .control, .routes, .statusTimer,
    .slots, .signals, .scanner, .lifts, .foreignCommands, .markers, .tags, .weigh, .zeros,
    .table, .billing, .queue, .arbiter, .channels, .toggles, .packer, .payload, .tailgate,
    .clock, .snaps, .agent, .pending] := by
  intro f hf
  cases f with
  | arb =>
    exact arbitrate_keeps _ fun g hg => by
      cases g <;> first | exact fun _ _ => rfl | exact absurd hg (by decide)
  | _ => first | exact fun _ _ => rfl | exact absurd hf (by decide)

theorem keeps_mode : Keeps State.mode [
    .arb, .sys, .store, .cfg, .chassis, .body, .statusBuffer, .control, .routes, .statusTimer,
    .slots, .signals, .scanner, .lifts, .foreignCommands, .markers, .tags, .weigh, .zeros,
    .table, .billing, .queue, .arbiter, .channels, .toggles, .packer, .payload, .tailgate,
    .clock, .snaps, .agent, .pending] := by
  intro f hf
  cases f with
  | arb =>
    exact arbitrate_keeps _ fun g hg => by
      cases g <;> first | exact fun _ _ => rfl | exact absurd hg (by decide)
  | _ => first | exact fun _ _ => rfl | exact absurd hf (by decide)

theorem keeps_store : Keeps State.store [
    .arb, .sys, .mode, .cfg, .chassis, .body, .statusBuffer, .control, .routes, .statusTimer,
    .slots, .signals, .scanner, .lifts, .foreignCommands, .markers, .tags, .weigh, .zeros,
    .table, .billing, .queue, .arbiter, .channels, .toggles, .packer, .payload, .tailgate,
    .clock, .snaps, .agent, .pending] := by
  intro f hf
  cases f with
  | arb =>
    exact arbitrate_keeps _ fun g hg => by
      cases g <;> first | exact fun _ _ => rfl | exact absurd hg (by decide)
  | _ => first | exact fun _ _ => rfl | exact absurd hf (by decide)

theorem keeps_cfg : Keeps State.cfg [
    .arb, .sys, .mode, .store, .chassis, .body, .statusBuffer, .control, .routes, .statusTimer,
    .slots, .signals, .scanner, .lifts, .foreignCommands, .markers, .tags, .weigh, .zeros,
    .table, .billing, .queue, .arbiter, .channels, .toggles, .packer, .payload, .tailgate,
    .clock, .snaps, .agent, .pending] := by
  intro f hf
  cases f with
  | arb =>
    exact arbitrate_keeps _ fun g hg => by
      cases g <;> first | exact fun _ _ => rfl | exact absurd hg (by decide)
  | _ => first | exact fun _ _ => rfl | exact absurd hf (by decide)

theorem keeps_chassis : Keeps State.chassis [
    .arb, .sys, .mode, .store, .cfg, .body, .statusBuffer, .control, .routes, .statusTimer,
    .slots, .signals, .scanner, .lifts, .foreignCommands, .markers, .tags, .weigh, .zeros,
    .table, .billing, .queue, .arbiter, .channels, .toggles, .packer, .payload, .tailgate,
    .clock, .snaps, .agent, .pending] := by
  intro f hf
  cases f with
  | arb =>
    exact arbitrate_keeps _ fun g hg => by
      cases g <;> first | exact fun _ _ => rfl | exact absurd hg (by decide)
  | _ => first | exact fun _ _ => rfl | exact absurd hf (by decide)

theorem keeps_body : Keeps State.body [
    .arb, .sys, .mode, .store, .cfg, .chassis, .statusBuffer, .control, .routes, .statusTimer,
    .slots, .signals, .scanner, .lifts, .foreignCommands, .markers, .tags, .weigh, .zeros,
    .table, .billing, .queue, .arbiter, .channels, .toggles, .packer, .payload, .tailgate,
    .clock, .snaps, .agent, .pending] := by
  intro f hf
  cases f with
  | arb =>
    exact arbitrate_keeps _ fun g hg => by
      cases g <;> first | exact fun _ _ => rfl | exact absurd hg (by decide)
  | _ => first | exact fun _ _ => rfl | exact absurd hf (by decide)

theorem keeps_statusBuffer : Keeps State.statusBuffer [
    .arb, .sys, .mode, .store, .cfg, .chassis, .body, .control, .routes, .statusTimer, .slots,
    .signals, .scanner, .lifts, .foreignCommands, .markers, .tags, .weigh, .zeros, .table,
    .billing, .queue, .arbiter, .channels, .toggles, .packer, .payload, .tailgate, .clock,
    .snaps, .agent, .pending] := by
  intro f hf
  cases f with
  | arb =>
    exact arbitrate_keeps _ fun g hg => by
      cases g <;> first | exact fun _ _ => rfl | exact absurd hg (by decide)
  | _ => first | exact fun _ _ => rfl | exact absurd hf (by decide)

theorem keeps_control : Keeps State.control [
    .arb, .sys, .mode, .store, .cfg, .chassis, .body, .statusBuffer, .routes, .statusTimer,
    .slots, .signals, .scanner, .lifts, .foreignCommands, .markers, .tags, .weigh, .zeros,
    .table, .billing, .queue, .arbiter, .channels, .toggles, .packer, .payload, .tailgate,
    .clock, .snaps, .agent, .pending] := by
  intro f hf
  cases f with
  | arb =>
    exact arbitrate_keeps _ fun g hg => by
      cases g <;> first | exact fun _ _ => rfl | exact absurd hg (by decide)
  | _ => first | exact fun _ _ => rfl | exact absurd hf (by decide)

theorem keeps_routes : Keeps State.routes [
    .arb, .sys, .mode, .store, .cfg, .chassis, .body, .statusBuffer, .control, .statusTimer,
    .slots, .signals, .scanner, .lifts, .foreignCommands, .markers, .tags, .weigh, .zeros,
    .table, .billing, .queue, .arbiter, .channels, .toggles, .packer, .payload, .tailgate,
    .clock, .snaps, .agent, .pending] := by
  intro f hf
  cases f with
  | arb =>
    exact arbitrate_keeps _ fun g hg => by
      cases g <;> first | exact fun _ _ => rfl | exact absurd hg (by decide)
  | _ => first | exact fun _ _ => rfl | exact absurd hf (by decide)

theorem keeps_statusTimer : Keeps State.statusTimer [
    .arb, .sys, .mode, .store, .cfg, .chassis, .body, .statusBuffer, .control, .routes, .slots,
    .signals, .scanner, .lifts, .foreignCommands, .markers, .tags, .weigh, .zeros, .table,
    .billing, .queue, .arbiter, .channels, .toggles, .packer, .payload, .tailgate, .clock,
    .snaps, .agent, .pending] := by
  intro f hf
  cases f with
  | arb =>
    exact arbitrate_keeps _ fun g hg => by
      cases g <;> first | exact fun _ _ => rfl | exact absurd hg (by decide)
  | _ => first | exact fun _ _ => rfl | exact absurd hf (by decide)

theorem keeps_slots : Keeps State.slots [
    .arb, .sys, .mode, .store, .cfg, .chassis, .body, .statusBuffer, .control, .routes,
    .statusTimer, .signals, .scanner, .lifts, .foreignCommands, .markers, .tags, .weigh, .zeros,
    .table, .billing, .queue, .arbiter, .channels, .toggles, .packer, .payload, .tailgate,
    .clock, .snaps, .agent, .pending] := by
  intro f hf
  cases f with
  | arb =>
    exact arbitrate_keeps _ fun g hg => by
      cases g <;> first | exact fun _ _ => rfl | exact absurd hg (by decide)
  | _ => first | exact fun _ _ => rfl | exact absurd hf (by decide)

theorem keeps_signals : Keeps State.signals [
    .arb, .sys, .mode, .store, .cfg, .chassis, .body, .statusBuffer, .control, .routes,
    .statusTimer, .slots, .scanner, .lifts, .foreignCommands, .markers, .tags, .weigh, .zeros,
    .table, .billing, .queue, .arbiter, .channels, .toggles, .packer, .payload, .tailgate,
    .clock, .snaps, .agent, .pending] := by
  intro f hf
  cases f with
  | arb =>
    exact arbitrate_keeps _ fun g hg => by
      cases g <;> first | exact fun _ _ => rfl | exact absurd hg (by decide)
  | _ => first | exact fun _ _ => rfl | exact absurd hf (by decide)

theorem keeps_scanner : Keeps State.scanner [
    .arb, .sys, .mode, .store, .cfg, .chassis, .body, .statusBuffer, .control, .routes,
    .statusTimer, .slots, .signals, .lifts, .foreignCommands, .markers, .tags, .weigh, .zeros,
    .table, .billing, .queue, .arbiter, .channels, .toggles, .packer, .payload, .tailgate,
    .clock, .snaps, .agent, .pending] := by
  intro f hf
  cases f with
  | arb =>
    exact arbitrate_keeps _ fun g hg => by
      cases g <;> first | exact fun _ _ => rfl | exact absurd hg (by decide)
  | _ => first | exact fun _ _ => rfl | exact absurd hf (by decide)

theorem keeps_lifts : Keeps State.lifts [
    .sys, .mode, .store, .cfg, .chassis, .body, .statusBuffer, .control, .routes, .statusTimer,
    .slots, .signals, .scanner, .foreignCommands, .markers, .tags, .weigh, .zeros, .table,
    .billing, .queue, .arbiter, .channels, .toggles, .packer, .payload, .tailgate, .clock,
    .snaps, .agent, .pending] := by
  intro f hf
  cases f <;> first | exact fun _ _ => rfl | exact absurd hf (by decide)

theorem keeps_foreignCommands : Keeps State.foreignCommands [
    .arb, .sys, .mode, .store, .cfg, .chassis, .body, .statusBuffer, .control, .routes,
    .statusTimer, .slots, .signals, .scanner, .lifts, .markers, .tags, .weigh, .zeros, .table,
    .billing, .queue, .arbiter, .channels, .toggles, .packer, .payload, .tailgate, .clock,
    .snaps, .agent, .pending] := by
  intro f hf
  cases f with
  | arb =>
    exact arbitrate_keeps _ fun g hg => by
      cases g <;> first | exact fun _ _ => rfl | exact absurd hg (by decide)
  | _ => first | exact fun _ _ => rfl | exact absurd hf (by decide)

theorem keeps_markers : Keeps State.markers [
    .arb, .sys, .mode, .store, .cfg, .chassis, .body, .statusBuffer, .control, .routes,
    .statusTimer, .slots, .signals, .scanner, .lifts, .foreignCommands, .tags, .weigh, .zeros,
    .table, .billing, .queue, .arbiter, .channels, .toggles, .packer, .payload, .tailgate,
    .clock, .snaps, .agent, .pending] := by
  intro f hf
  cases f with
  | arb =>
    exact arbitrate_keeps _ fun g hg => by
      cases g <;> first | exact fun _ _ => rfl | exact absurd hg (by decide)
  | _ => first | exact fun _ _ => rfl | exact absurd hf (by decide)

theorem keeps_tags : Keeps State.tags [
    .arb, .sys, .mode, .store, .cfg, .chassis, .body, .statusBuffer, .control, .routes,
    .statusTimer, .slots, .signals, .scanner, .lifts, .foreignCommands, .markers, .weigh,
    .zeros, .table, .billing, .queue, .arbiter, .channels, .toggles, .packer, .payload,
    .tailgate, .clock, .snaps, .agent, .pending] := by
  intro f hf
  cases f with
  | arb =>
    exact arbitrate_keeps _ fun g hg => by
      cases g <;> first | exact fun _ _ => rfl | exact absurd hg (by decide)
  | _ => first | exact fun _ _ => rfl | exact absurd hf (by decide)

theorem keeps_weigh : Keeps State.weigh [
    .sys, .mode, .store, .cfg, .chassis, .body, .statusBuffer, .control, .routes, .statusTimer,
    .slots, .signals, .scanner, .lifts, .foreignCommands, .markers, .tags, .zeros, .table,
    .billing, .queue, .arbiter, .channels, .toggles, .packer, .payload, .tailgate, .clock,
    .snaps, .agent, .pending] := by
  intro f hf
  cases f <;> first | exact fun _ _ => rfl | exact absurd hf (by decide)

theorem keeps_zeros : Keeps State.zeros [
    .arb, .sys, .mode, .store, .cfg, .chassis, .body, .statusBuffer, .control, .routes,
    .statusTimer, .slots, .signals, .scanner, .lifts, .foreignCommands, .markers, .tags, .weigh,
    .table, .billing, .queue, .arbiter, .channels, .toggles, .packer, .payload, .tailgate,
    .clock, .snaps, .agent, .pending] := by
  intro f hf
  cases f with
  | arb =>
    exact arbitrate_keeps _ fun g hg => by
      cases g <;> first | exact fun _ _ => rfl | exact absurd hg (by decide)
  | _ => first | exact fun _ _ => rfl | exact absurd hf (by decide)

theorem keeps_table : Keeps State.table [
    .arb, .sys, .mode, .store, .cfg, .chassis, .body, .statusBuffer, .control, .routes,
    .statusTimer, .slots, .signals, .scanner, .lifts, .foreignCommands, .markers, .tags, .weigh,
    .zeros, .billing, .queue, .arbiter, .channels, .toggles, .packer, .payload, .tailgate,
    .clock, .snaps, .agent, .pending] := by
  intro f hf
  cases f with
  | arb =>
    exact arbitrate_keeps _ fun g hg => by
      cases g <;> first | exact fun _ _ => rfl | exact absurd hg (by decide)
  | _ => first | exact fun _ _ => rfl | exact absurd hf (by decide)

theorem keeps_billing : Keeps State.billing [
    .arb, .sys, .mode, .store, .cfg, .chassis, .body, .statusBuffer, .control, .routes,
    .statusTimer, .slots, .signals, .scanner, .lifts, .foreignCommands, .markers, .tags, .weigh,
    .zeros, .table, .queue, .arbiter, .channels, .toggles, .packer, .payload, .tailgate, .clock,
    .snaps, .agent, .pending] := by
  intro f hf
  cases f with
  | arb =>
    exact arbitrate_keeps _ fun g hg => by
      cases g <;> first | exact fun _ _ => rfl | exact absurd hg (by decide)
  | _ => first | exact fun _ _ => rfl | exact absurd hf (by decide)

theorem keeps_queue : Keeps State.queue [
    .arb, .sys, .mode, .store, .cfg, .chassis, .body, .statusBuffer, .control, .routes,
    .statusTimer, .slots, .signals, .scanner, .lifts, .foreignCommands, .markers, .tags, .weigh,
    .zeros, .table, .billing, .arbiter, .channels, .toggles, .packer, .payload, .tailgate,
    .clock, .snaps, .agent, .pending] := by
  intro f hf
  cases f with
  | arb =>
    exact arbitrate_keeps _ fun g hg => by
      cases g <;> first | exact fun _ _ => rfl | exact absurd hg (by decide)
  | _ => first | exact fun _ _ => rfl | exact absurd hf (by decide)

theorem keeps_arbiter : Keeps State.arbiter [
    .sys, .mode, .store, .cfg, .chassis, .body, .statusBuffer, .control, .routes, .statusTimer,
    .slots, .signals, .scanner, .lifts, .foreignCommands, .markers, .tags, .weigh, .zeros,
    .table, .billing, .queue, .channels, .toggles, .packer, .payload, .tailgate, .clock, .snaps,
    .agent, .pending] := by
  intro f hf
  cases f <;> first | exact fun _ _ => rfl | exact absurd hf (by decide)

theorem keeps_channels : Keeps State.channels [
    .sys, .mode, .store, .cfg, .chassis, .body, .statusBuffer, .control, .routes, .statusTimer,
    .slots, .signals, .scanner, .lifts, .foreignCommands, .markers, .tags, .weigh, .zeros,
    .table, .billing, .queue, .arbiter, .toggles, .packer, .payload, .tailgate, .clock, .snaps,
    .agent, .pending] := by
  intro f hf
  cases f <;> first | exact fun _ _ => rfl | exact absurd hf (by decide)

theorem keeps_toggles : Keeps State.toggles [
    .arb, .sys, .mode, .store, .cfg, .chassis, .body, .statusBuffer, .control, .routes,
    .statusTimer, .slots, .signals, .scanner, .lifts, .foreignCommands, .markers, .tags, .weigh,
    .zeros, .table, .billing, .queue, .arbiter, .channels, .packer, .payload, .tailgate, .clock,
    .snaps, .agent, .pending] := by
  intro f hf
  cases f with
  | arb =>
    exact arbitrate_keeps _ fun g hg => by
      cases g <;> first | exact fun _ _ => rfl | exact absurd hg (by decide)
  | _ => first | exact fun _ _ => rfl | exact absurd hf (by decide)

theorem keeps_packer : Keeps State.packer [
    .sys, .mode, .store, .cfg, .chassis, .body, .statusBuffer, .control, .routes, .statusTimer,
    .slots, .signals, .scanner, .lifts, .foreignCommands, .markers, .tags, .weigh, .zeros,
    .table, .billing, .queue, .arbiter, .channels, .toggles, .payload, .tailgate, .clock,
    .snaps, .agent, .pending] := by
  intro f hf
  cases f <;> first | exact fun _ _ => rfl | exact absurd hf (by decide)

theorem keeps_payload : Keeps State.payload [
    .arb, .sys, .mode, .store, .cfg, .chassis, .body, .statusBuffer, .control, .routes,
    .statusTimer, .slots, .signals, .scanner, .lifts, .foreignCommands, .markers, .tags, .weigh,
    .zeros, .table, .billing, .queue, .arbiter, .channels, .toggles, .packer, .tailgate, .clock,
    .snaps, .agent, .pending] := by
  intro f hf
  cases f with
  | arb =>
    exact arbitrate_keeps _ fun g hg => by
      cases g <;> first | exact fun _ _ => rfl | exact absurd hg (by decide)
  | _ => first | exact fun _ _ => rfl | exact absurd hf (by decide)

theorem keeps_tailgate : Keeps State.tailgate [
    .sys, .mode, .store, .cfg, .chassis, .body, .statusBuffer, .control, .routes, .statusTimer,
    .slots, .signals, .scanner, .lifts, .foreignCommands, .markers, .tags, .weigh, .zeros,
    .table, .billing, .queue, .arbiter, .channels, .toggles, .packer, .payload, .clock, .snaps,
    .agent, .pending] := by
  intro f hf
  cases f <;> first | exact fun _ _ => rfl | exact absurd hf (by decide)

theorem keeps_clock : Keeps State.clock [
    .arb, .sys, .mode, .store, .cfg, .chassis, .body, .statusBuffer, .control, .routes,
    .statusTimer, .slots, .signals, .scanner, .lifts, .foreignCommands, .markers, .tags, .weigh,
    .zeros, .table, .billing, .queue, .arbiter, .channels, .toggles, .packer, .payload,
    .tailgate, .snaps, .agent, .pending] := by
  intro f hf
  cases f with
  | arb =>
    exact arbitrate_keeps _ fun g hg => by
      cases g <;> first | exact fun _ _ => rfl | exact absurd hg (by decide)
  | _ => first | exact fun _ _ => rfl | exact absurd hf (by decide)

theorem keeps_snaps : Keeps State.snaps [
    .arb, .sys, .mode, .store, .cfg, .chassis, .body, .statusBuffer, .control, .routes,
    .statusTimer, .slots, .signals, .scanner, .lifts, .foreignCommands, .markers, .tags, .weigh,
    .zeros, .table, .billing, .queue, .arbiter, .channels, .toggles, .packer, .payload,
    .tailgate, .clock, .agent, .pending] := by
  intro f hf
  cases f with
  | arb =>
    exact arbitrate_keeps _ fun g hg => by
      cases g <;> first | exact fun _ _ => rfl | exact absurd hg (by decide)
  | _ => first | exact fun _ _ => rfl | exact absurd hf (by decide)

theorem keeps_agent : Keeps State.agent [
    .arb, .sys, .mode, .store, .cfg, .chassis, .body, .statusBuffer, .control, .routes,
    .statusTimer, .slots, .signals, .scanner, .lifts, .foreignCommands, .markers, .tags, .weigh,
    .zeros, .table, .billing, .queue, .arbiter, .channels, .toggles, .packer, .payload,
    .tailgate, .clock, .snaps, .pending] := by
  intro f hf
  cases f with
  | arb =>
    exact arbitrate_keeps _ fun g hg => by
      cases g <;> first | exact fun _ _ => rfl | exact absurd hg (by decide)
  | _ => first | exact fun _ _ => rfl | exact absurd hf (by decide)

theorem keeps_pending : Keeps State.pending [
    .arb, .sys, .mode, .store, .cfg, .chassis, .body, .statusBuffer, .control, .routes,
    .statusTimer, .slots, .signals, .scanner, .lifts, .foreignCommands, .markers, .tags, .weigh,
    .zeros, .table, .billing, .queue, .arbiter, .channels, .toggles, .packer, .payload,
    .tailgate, .clock, .snaps, .agent] := by
  intro f hf
  cases f with
  | arb =>
    exact arbitrate_keeps _ fun g hg => by
      cases g <;> first | exact fun _ _ => rfl | exact absurd hg (by decide)
  | _ => first | exact fun _ _ => rfl | exact absurd hf (by decide)

end Sys2Proof.Laws
end

