-- ==== Sys2Proof/Laws/Ops.lean ====
section
/-! SUPPORT. What the shared operations can do: memory and its canonical form, expiries, notices, the
arbitration's part in the requesters, the toggle outputs, and the service of a request. -/

namespace Sys2Proof.Laws

open Sys2Proof Sys2Proof.Machine

/-! ### Memory -/

theorem wf_cons {k : Nat} {b : Byte} {m : Mem} (h : Mem.wf ((k, b) :: m) = true) :
    b ≠ coldByte k ∧ (∀ c ∈ m, k < c.1) ∧ Mem.wf m = true := by
  simp only [Mem.wf, Bool.and_eq_true, bne_iff_ne, ne_eq, List.all_eq_true, decide_eq_true_eq] at h
  exact ⟨h.1.1, h.1.2, h.2⟩

theorem wf_cons_of {k : Nat} {b : Byte} {m : Mem} (hb : b ≠ coldByte k) (hk : ∀ c ∈ m, k < c.1)
    (hm : Mem.wf m = true) : Mem.wf ((k, b) :: m) = true := by
  simp only [Mem.wf, Bool.and_eq_true, bne_iff_ne, ne_eq, List.all_eq_true, decide_eq_true_eq]
  exact ⟨⟨hb, hk⟩, hm⟩

/-- An address below every listed one reads as the Cold Start contents. -/
theorem read_below {m : Mem} {a : Nat} (h : ∀ c ∈ m, a < c.1) : Mem.read m a = coldByte a := by
  cases m with
  | nil => rfl
  | cons c m =>
    obtain ⟨k, b⟩ := c
    have hk : a < k := h (k, b) (by simp)
    simp only [Mem.read, Nat.ne_of_lt hk, hk, if_true, if_false]

/-- A write lists no address but the one written. -/
theorem mem_write {m : Mem} {a : Nat} {v : Byte} {c : Host.Cell} (h : c ∈ Mem.write m a v) :
    c = (a, v) ∨ c ∈ m := by
  induction m with
  | nil =>
    unfold Mem.write at h
    split at h <;> simp_all
  | cons d m ih =>
    obtain ⟨k, b⟩ := d
    unfold Mem.write at h
    repeat' split at h
    all_goals simp only [List.mem_cons] at h ⊢
    · exact .inr (.inr h)
    · exact h.elim .inl fun x => .inr (.inr x)
    · exact .inr h
    · exact h
    · exact h.elim (fun x => .inr (.inl x)) fun x => (ih x).elim .inl fun y => .inr (.inr y)

/-- A write keeps the canonical form. -/
theorem write_wf {m : Mem} (a : Nat) (v : Byte) (h : Mem.wf m = true) :
    Mem.wf (Mem.write m a v) = true := by
  induction m with
  | nil =>
    unfold Mem.write
    split
    · rfl
    · rename_i hv
      exact wf_cons_of hv (by simp) rfl
  | cons c m ih =>
    obtain ⟨k, b⟩ := c
    obtain ⟨hb, hk, hm⟩ := wf_cons h
    unfold Mem.write
    split
    · rename_i hak
      subst hak
      split
      · exact hm
      · rename_i hv
        exact wf_cons_of hv hk hm
    · split
      · rename_i hak
        split
        · exact h
        · rename_i hv
          refine wf_cons_of hv (fun c hc => ?_) h
          rcases List.mem_cons.mp hc with rfl | hc
          · exact hak
          · exact Nat.lt_trans hak (hk c hc)
      · rename_i hne hnl
        refine wf_cons_of hb (fun c hc => ?_) (ih hm)
        rcases mem_write hc with rfl | hc
        · exact Nat.lt_of_le_of_ne (Nat.le_of_not_lt hnl) (Ne.symm hne)
        · exact hk c hc

/-- A byte written reads as written. -/
theorem read_write_same {m : Mem} (a : Nat) (v : Byte) (h : Mem.wf m = true) :
    Mem.read (Mem.write m a v) a = v := by
  induction m with
  | nil =>
    unfold Mem.write
    split
    · rename_i hv
      exact hv.symm
    · simp [Mem.read]
  | cons c m ih =>
    obtain ⟨k, b⟩ := c
    obtain ⟨hb, hk, hm⟩ := wf_cons h
    unfold Mem.write
    split
    · rename_i hak
      subst hak
      split
      · rename_i hv
        rw [read_below hk, hv]
      · simp [Mem.read]
    · rename_i hne
      split
      · rename_i hlt
        split
        · rename_i hv
          simp only [Mem.read, hne, hlt, if_true, if_false, hv]
        · simp [Mem.read]
      · rename_i hnl
        simp only [Mem.read, hne, hnl, if_false]
        exact ih hm

/-- A write leaves every other byte as it was. -/
theorem read_write_other {m : Mem} {a x : Nat} (v : Byte) (hx : x ≠ a) (h : Mem.wf m = true) :
    Mem.read (Mem.write m a v) x = Mem.read m x := by
  induction m with
  | nil =>
    unfold Mem.write
    split
    · rfl
    · simp only [Mem.read, hx, if_false, ite_self]
  | cons c m ih =>
    obtain ⟨k, b⟩ := c
    obtain ⟨hb, hk, hm⟩ := wf_cons h
    unfold Mem.write
    split
    · rename_i hak
      subst hak
      split
      · simp only [Mem.read, hx, if_false]
        split
        · rename_i hlt
          exact read_below fun c hc => Nat.lt_trans hlt (hk c hc)
        · rfl
      · simp only [Mem.read, hx, if_false]
    · rename_i hne
      split
      · rename_i hlt
        split
        · rfl
        · simp only [Mem.read, hx, if_false]
          split
          · rename_i hxa
            have hxk : x < k := Nat.lt_trans hxa hlt
            simp only [Nat.ne_of_lt hxk, hxk, if_true, if_false]
          · rfl
      · simp only [Mem.read]
        split
        · rfl
        · split
          · rfl
          · exact ih hm

/-- Writing bytes keeps the canonical form. -/
theorem writeBytes_wf {m : Mem} (a : Nat) (l : List Byte) (h : Mem.wf m = true) :
    Mem.wf (Mem.writeBytes m a l) = true := by
  induction l generalizing m a with
  | nil => exact h
  | cons b l ih => exact ih (a + 1) (write_wf a b h)

/-- Writing bytes leaves every byte outside them as it was. -/
theorem read_writeBytes_other {m : Mem} {a x : Nat} (l : List Byte)
    (hx : x < a ∨ a + l.length ≤ x) (h : Mem.wf m = true) :
    Mem.read (Mem.writeBytes m a l) x = Mem.read m x := by
  induction l generalizing m a with
  | nil => rfl
  | cons b l ih =>
    simp only [List.length_cons] at hx
    simp only [Mem.writeBytes]
    rw [ih (by omega) (write_wf a b h)]
    exact read_write_other b (by omega) h

/-- Bytes written read as written. -/
theorem readBytes_writeBytes {m : Mem} (a : Nat) (l : List Byte) (h : Mem.wf m = true) :
    Mem.readBytes (Mem.writeBytes m a l) a l.length = l := by
  induction l generalizing m a with
  | nil => rfl
  | cons b l ih =>
    simp only [List.length_cons, Mem.writeBytes, Mem.readBytes, List.cons.injEq]
    refine ⟨?_, ih (a + 1) (write_wf a b h)⟩
    rw [read_writeBytes_other l (by omega) (write_wf a b h), read_write_same a b h]

/-- Storing a number keeps the canonical form. -/
theorem putNum_wf {m : Mem} (a n v : Nat) (h : Mem.wf m = true) : Mem.wf (m.putNum a n v) = true :=
  writeBytes_wf a _ h

/-- A slice keeps the canonical form. -/
theorem slice_wf {m : Mem} (lo hi : Nat) (h : Mem.wf m = true) : Mem.wf (m.slice lo hi) = true := by
  induction m with
  | nil => rfl
  | cons c m ih =>
    obtain ⟨k, b⟩ := c
    obtain ⟨hb, hk, hm⟩ := wf_cons h
    have ih := ih hm
    unfold Mem.slice at ih ⊢
    rw [List.filter_cons]
    split
    · exact wf_cons_of hb (fun c hc => hk c (List.mem_filter.mp hc).1) ih
    · exact ih

/-- The stores of the reset state are canonical. -/
theorem reset_stores_wf : State.reset.store.wf = true ∧ State.reset.cfg.wf = true := ⟨rfl, rfl⟩

theorem leBytes_length (n v : Nat) : (leBytes n v).length = n := by
  induction n generalizing v with
  | zero => rfl
  | succ n ih => simp only [leBytes, List.length_cons, ih]

/-- The number of its own little-endian bytes, modulo their width. -/
theorem ofLe_leBytes (n v : Nat) : ofLe (leBytes n v) = v % 256 ^ n := by
  induction n generalizing v with
  | zero => simp only [leBytes, ofLe, Nat.pow_zero, Nat.mod_one]
  | succ n ih =>
    have hp : 256 ^ (n + 1) = 256 * 256 ^ n := Nat.pow_succ'
    rw [hp, Nat.mod_mul]
    simp only [leBytes, ofLe, ih, BitVec.toNat_ofNat]

/-! ### Expiries and the toggle outputs -/

/-- An expiry acts when its timer runs. -/
theorem onExpiry_running (e : Nat) (s : State) (f : Nat → State → State) :
    onExpiry (.running e) s f = f e (s.reach e) := rfl

/-- A timer that does not run has no expiry. -/
theorem onExpiry_idle {t : Timer} (s : State) (f : Nat → State → State)
    (h : t.isRunning = false) : onExpiry t s f = s := by
  cases t with
  | running e => simp [Timer.isRunning] at h
  | stopped => rfl
  | held l => rfl

theorem follow_on (now half : Nat) (cond : Bool) (t : ToggleState) :
    (t.follow now half cond).on = cond := by
  obtain ⟨on, level, timer⟩ := t
  cases cond <;> cases on <;> rfl

theorem follow_same (now half : Nat) (t : ToggleState) : t.follow now half t.on = t := by
  obtain ⟨on, level, timer⟩ := t
  cases on <;> rfl

/-- A settled part keeps its toggle outputs. -/
theorem settleToggles_same {s : State} (hb : s.toggles.beacon.on = s.beaconOn)
    (hh : s.toggles.horn.on = s.hornOn) : settleToggles s = s := by
  unfold settleToggles
  rw [← hb, ← hh, follow_same, follow_same]
  rfl

/-- Toggle outputs aside, settling changes nothing. -/
theorem settleToggles_keeps' {α : Type} (π : State → α) (h : ∀ s x, π (State.setToggles s x) = π s)
    (s : State) : π (settleToggles s) = π s := h s _

/-! ### What an arbitration leaves alone in the requesters -/

theorem paced_core (now limit : Nat) (r : Bool) (g : Nat) (l : Lift) :
    (l.paced now limit r g).state = l.state ∧ (l.paced now limit r g).wait = l.wait ∧
    (l.paced now limit r g).sub = l.sub ∧
    (l.paced now limit r g).chargePending = l.chargePending ∧
    (l.paced now limit r g).record = l.record ∧
    (l.paced now limit r g).holdTimer = l.holdTimer ∧
    (l.paced now limit r g).lastFault = l.lastFault ∧
    (l.paced now limit r g).faults = l.faults ∧
    (l.paced now limit r g).holdTimeouts = l.holdTimeouts ∧
    (l.paced now limit r g).startRefusals = l.startRefusals ∧
    (l.paced now limit r g).lastRefusal = l.lastRefusal := by
  unfold Lift.paced
  split
  · exact ⟨rfl, rfl, rfl, rfl, rfl, rfl, rfl, rfl, rfl, rfl, rfl⟩
  · split <;> exact ⟨rfl, rfl, rfl, rfl, rfl, rfl, rfl, rfl, rfl, rfl, rfl⟩

theorem tri_get_set {α : Type} (t : Tri α) (st x : Station) (a : α) :
    (t.set st a).get x = if x = st then a else t.get x := by
  cases st <;> cases x <;> rfl

/-- A reading of one station's lift that its pacing does not change. -/
theorem paceLift_lift {α : Type} (ρ : Lift → α)
    (h : ∀ now limit r g l, ρ (Lift.paced now limit r g l) = ρ l) (s : State) (st x : Station) :
    ρ ((paceLift s st).lift x) = ρ (s.lift x) := by
  unfold paceLift endRun
  dsimp only
  split <;> (simp only [State.setLift, State.setScale, State.lift, setLifts_lifts, setWeigh_lifts,
      tri_get_set]
             split
             · rename_i hx
               subst hx
               exact h _ _ _ _ _
             · rfl)

theorem arbitrate_lift {α : Type} (ρ : Lift → α)
    (h : ∀ now limit r g l, ρ (Lift.paced now limit r g l) = ρ l) (s : State) (x : Station) :
    ρ ((arbitrate s).lift x) = ρ (s.lift x) := by
  unfold arbitrate
  have hp : ∀ s : State, (paceTailgate (pacePacker s)).lift x = s.lift x := fun _ => rfl
  rw [hp, foldl_keeps (fun s => ρ (s.lift x)) paceLift (fun s st => paceLift_lift ρ h s st x)]
  rfl

/-- An arbitration leaves every station in its state. -/
theorem arbitrate_lift_state (s : State) (x : Station) :
    ((arbitrate s).lift x).state = (s.lift x).state :=
  arbitrate_lift (·.state) (fun _ _ _ _ l => (paced_core _ _ _ _ l).1) s x

/-- An arbitration leaves every Lift Record as it is. -/
theorem arbitrate_lift_record (s : State) (x : Station) :
    ((arbitrate s).lift x).record = (s.lift x).record :=
  arbitrate_lift (·.record) (fun _ _ _ _ l => (paced_core _ _ _ _ l).2.2.2.2.1) s x

theorem packer_paced_core (now limit stall : Nat) (q : Option FlowReq) (g : Nat) (p : Packer) :
    (p.paced now limit stall q g).state = p.state ∧
    (p.paced now limit stall q g).packPending = p.packPending ∧
    (p.paced now limit stall q g).stroke = p.stroke ∧
    (p.paced now limit stall q g).lastStroke = p.lastStroke ∧
    (p.paced now limit stall q g).dumps = p.dumps ∧
    (p.paced now limit stall q g).dwellTimer = p.dwellTimer ∧
    (p.paced now limit stall q g).cycles = p.cycles ∧
    (p.paced now limit stall q g).stalls = p.stalls ∧
    (p.paced now limit stall q g).faults = p.faults ∧
    (p.paced now limit stall q g).lastFault = p.lastFault := by
  unfold Packer.paced
  split
  · exact ⟨rfl, rfl, rfl, rfl, rfl, rfl, rfl, rfl, rfl, rfl⟩
  · split <;> exact ⟨rfl, rfl, rfl, rfl, rfl, rfl, rfl, rfl, rfl, rfl⟩

theorem paceLift_packer (s : State) (st : Station) : (paceLift s st).packer = s.packer :=
  paceLift_keeps (·.packer) keeps_packer.mono s st

theorem paceLift_tailgate (s : State) (st : Station) : (paceLift s st).tailgate = s.tailgate :=
  paceLift_keeps (·.tailgate) keeps_tailgate.mono s st

/-- A reading of the packer that its pacing does not change. -/
theorem arbitrate_packer {α : Type} (ρ : Packer → α)
    (h : ∀ now limit stall q g p, ρ (Packer.paced now limit stall q g p) = ρ p) (s : State) :
    ρ (arbitrate s).packer = ρ s.packer := by
  unfold arbitrate
  have hp : ∀ s : State, ρ (paceTailgate (pacePacker s)).packer = ρ s.packer :=
    fun _ => h _ _ _ _ _ _
  rw [hp, foldl_keeps (fun s => ρ s.packer) paceLift (fun s st => by rw [paceLift_packer])]
  rfl

/-- An arbitration leaves the packer in its state. -/
theorem arbitrate_packer_state (s : State) : (arbitrate s).packer.state = s.packer.state :=
  arbitrate_packer (·.state) (fun _ _ _ _ _ p => (packer_paced_core _ _ _ _ _ p).1) s

theorem tailgate_paced_core (now limit : Nat) (r : Bool) (g : Nat) (t : Tailgate) :
    (t.paced now limit r g).state = t.state ∧ (t.paced now limit r g).marker = t.marker ∧
    (t.paced now limit r g).unloadPending = t.unloadPending ∧
    (t.paced now limit r g).openReached = t.openReached ∧
    (t.paced now limit r g).unloads = t.unloads ∧ (t.paced now limit r g).faults = t.faults ∧
    (t.paced now limit r g).lastFault = t.lastFault := by
  unfold Tailgate.paced
  split
  · exact ⟨rfl, rfl, rfl, rfl, rfl, rfl, rfl⟩
  · split <;> exact ⟨rfl, rfl, rfl, rfl, rfl, rfl, rfl⟩

/-- A reading of the tailgate that its pacing does not change. -/
theorem arbitrate_tailgate {α : Type} (ρ : Tailgate → α)
    (h : ∀ now limit r g t, ρ (Tailgate.paced now limit r g t) = ρ t) (s : State) :
    ρ (arbitrate s).tailgate = ρ s.tailgate := by
  unfold arbitrate
  have hp : ∀ s : State, ρ (paceTailgate s).tailgate = ρ s.tailgate := fun _ => h _ _ _ _ _
  rw [hp]
  have hq : ∀ s : State, (pacePacker s).tailgate = s.tailgate := fun _ => rfl
  rw [hq, foldl_keeps (fun s => ρ s.tailgate) paceLift (fun s st => by rw [paceLift_tailgate])]
  rfl

/-- An arbitration leaves the tailgate in its state. -/
theorem arbitrate_tailgate_state (s : State) : (arbitrate s).tailgate.state = s.tailgate.state :=
  arbitrate_tailgate (·.state) (fun _ _ _ _ t => (tailgate_paced_core _ _ _ _ t).1) s

/-- An arbitration leaves the weighing as it is, but for the runs that a pause ends. -/
theorem arbitrate_requests (s : State) : (arbitrate s).arbiter.req =
    (s.arbiter.run s.signals.capacity s.masked s.priority).req := by
  unfold arbitrate
  have hp : ∀ s : State, (paceTailgate (pacePacker s)).arbiter = s.arbiter := fun _ => rfl
  rw [hp, foldl_keeps (·.arbiter) paceLift (paceLift_keeps _ keeps_arbiter.mono)]
  rfl

/-- The arbiter after an arbitration. -/
theorem arbitrate_arbiter (s : State) : (arbitrate s).arbiter =
    s.arbiter.run s.signals.capacity s.masked s.priority := by
  unfold arbitrate
  have hp : ∀ s : State, (paceTailgate (pacePacker s)).arbiter = s.arbiter := fun _ => rfl
  rw [hp, foldl_keeps (·.arbiter) paceLift (paceLift_keeps _ keeps_arbiter.mono)]
  rfl

/-! ### The service of one request (R185, R186) -/

/-- With the Agent at rest a request is served at once: it joins, is served, and leaves with its
answer. -/
theorem submit_answer {m : Manager} {tag : BitVec 4} {body : ReqBody} {s t : State} {a : Answer}
    (hq : s.agent.queue = []) (hh : s.agent.hold = .none)
    (hs : serveBody m body (s.setAgent { s.agent with
      queue := [⟨m, BitVec.ofNat 8 (s.cfg.managerNode m), tag, body⟩] }) = (.answer a, t)) :
    submit m tag body s = answerHead ⟨m, BitVec.ofNat 8 (s.cfg.managerNode m), tag, body⟩ a t := by
  unfold submit takeRequest
  rw [if_pos (by rw [hq]; decide)]
  have hr : ∀ r : Request, s.agent.queue ++ [r] = [r] := fun r => by rw [hq]; rfl
  rw [hr]
  simp only [serveAgent, setAgent_agent, List.length_singleton]
  unfold serveQueue
  split
  · rename_i r rest h1 h2
    simp only [setAgent_agent, List.cons.injEq] at h2
    obtain ⟨rfl, rfl⟩ := h2
    unfold serveRequest
    rw [hs]
    rfl
  · rename_i h
    exact absurd rfl (h _ _ hh)

end Sys2Proof.Laws
end

