-- ==== Sys2Proof/Laws/Flow.lean ====
section
/-! SUPPORT. What an arbitration can do, and what a change of the Signal Monitor's outputs can do. -/

namespace Sys2Proof.Laws

open Sys2Proof Sys2Proof.Machine

set_option Elab.async false

/-! ### No grant under a mask (R147, R151) -/

theorem five_get_set {α : Type} (f : Five α) (r x : Requester) (a : α) :
    (f.set r a).get x = if x = r then a else f.get x := by
  rcases r with (_ | _ | _) | _ | _ <;> rcases x with (_ | _ | _) | _ | _ <;> rfl

theorem regrant_grant (a : Arbiter) (r x : Requester) (g : Nat) :
    (a.regrant r g).grant.get x = if x = r then g else a.grant.get x := five_get_set _ _ _ _

/-- No masked requester holds a grant. -/
def Ungranted (masked : Requester → Bool) (a : Arbiter) : Prop :=
  ∀ r, masked r = true → a.grant.get r = 0

theorem Ungranted.regrant {masked : Requester → Bool} {a : Arbiter} (h : Ungranted masked a)
    (r : Requester) (g : Nat) (hg : masked r = true → g = 0) : Ungranted masked (a.regrant r g) := by
  intro x hx
  rw [regrant_grant]
  split
  · rename_i e
    exact hg (e ▸ hx)
  · exact h x hx

theorem trimMasked_ungranted (masked : Requester → Bool) (a : Arbiter) :
    Ungranted masked (a.trimMasked masked) := by
  intro r hr
  have keep : ∀ (l : List Requester) (a : Arbiter), (r ∈ l ∨ a.grant.get r = 0) →
      (l.foldl (fun a r => if masked r then a.revoke r else a) a).grant.get r = 0 := by
    intro l
    induction l with
    | nil => simp
    | cons x l ih =>
      intro a h
      refine ih _ ?_
      by_cases hx : r = x
      · right
        dsimp only
        rw [← hx, if_pos hr, Arbiter.revoke, regrant_grant, if_pos rfl]
      · rcases h with h | h
        · exact .inl ((List.mem_cons.mp h).resolve_left hx)
        · right
          dsimp only
          split
          · rw [Arbiter.revoke, regrant_grant, if_neg hx, h]
          · exact h
  refine keep requesters a (.inl ?_)
  rcases r with (_ | _ | _) | _ | _ <;> decide

theorem trimWhole_ungranted {masked : Requester → Bool} (cap : Nat) (l : List Requester) {a : Arbiter}
    (h : Ungranted masked a) : Ungranted masked (a.trimWhole cap l) := by
  induction l generalizing a with
  | nil => exact h
  | cons r l ih =>
    unfold Arbiter.trimWhole
    split
    · exact h
    · exact ih (h.regrant r 0 fun _ => rfl)

theorem trim_ungranted (cap : Nat) (masked : Requester → Bool) (prio : List Requester) (a : Arbiter) :
    Ungranted masked (a.trim cap masked prio) :=
  trimWhole_ungranted cap _ ((trimMasked_ungranted masked a).regrant _ _ fun hm => by
    have h0 : (a.trimMasked masked).grant.packer = 0 := trimMasked_ungranted masked a .packer hm
    omega)

theorem walk_ungranted {masked : Requester → Bool} (cap : Nat) (l : List Requester) {a : Arbiter}
    (h : Ungranted masked a) : Ungranted masked (a.walk cap masked l) := by
  induction l generalizing a with
  | nil => exact h
  | cons r l ih =>
    unfold Arbiter.walk
    split
    · exact ih h
    · split
      · exact ih h
      · rename_i hw
        have hr : masked r ≠ true := fun x => hw (by simp [x])
        split
        · exact ih (h.regrant _ _ fun x => absurd x hr)
        · split
          · refine ih (Ungranted.regrant (h.regrant _ _ fun hm => ?_) _ _ fun x => absurd x hr)
            have h0 : a.grant.packer = 0 := h .packer hm
            omega
          · exact h

theorem restore_ungranted {masked : Requester → Bool} (cap : Nat) {a : Arbiter}
    (h : Ungranted masked a) : Ungranted masked (a.restore cap masked) := by
  unfold Arbiter.restore
  split
  · exact h
  · split
    · exact h
    · rename_i hn
      refine h.regrant _ _ fun hm => absurd (h .packer hm) fun h0 => hn ?_
      have h0 : a.grant.packer = 0 := h0
      simp [h0]

/-- An arbitration leaves no grant to a masked requester. -/
theorem run_ungranted (cap : Nat) (masked : Requester → Bool) (prio : List Requester) (a : Arbiter) :
    Ungranted masked (a.run cap masked prio) :=
  restore_ungranted cap (walk_ungranted cap prio (trim_ungranted cap masked prio _))

/-- After an arbitration no mask holds back a grant that stands. -/
theorem arbitrate_masksHold (s : State) : masksHold (arbitrate s) := by
  intro r hr
  have hs : (arbitrate s).signals = s.signals := arbitrate_keeps _ keeps_signals.mono s
  have hm : (arbitrate s).masked r = s.masked r := by
    cases r <;> simp only [State.masked, State.permit, hs]
  simp only [State.grant, arbitrate_arbiter]
  exact run_ungranted _ _ _ _ r (hm ▸ hr)

/-! ### What an arbitration reports (R150) -/

/-- A reading of the arbiter that no grant and no count of its own changes. -/
theorem run_keeps {α : Type} (ρ : Arbiter → α) (hr : ∀ a r g, ρ (Arbiter.regrant a r g) = ρ a)
    (hn : ∀ a n, ρ { a with arbitrations := n } = ρ a) (hw : ∀ a n, ρ { a with walkStops := n } = ρ a)
    (cap : Nat) (masked : Requester → Bool) (prio : List Requester) (a : Arbiter) :
    ρ (a.run cap masked prio) = ρ a := by
  have trimMasked : ∀ (l : List Requester) (a : Arbiter),
      ρ (l.foldl (fun a r => if masked r then a.revoke r else a) a) = ρ a := by
    intro l
    induction l with
    | nil => exact fun _ => rfl
    | cons r l ih =>
      intro a
      refine (ih _).trans ?_
      dsimp only
      split
      · exact hr _ _ _
      · rfl
  have trimWhole : ∀ (l : List Requester) (a : Arbiter), ρ (a.trimWhole cap l) = ρ a := by
    intro l
    induction l with
    | nil => exact fun _ => rfl
    | cons r l ih =>
      intro a
      unfold Arbiter.trimWhole
      split
      · rfl
      · exact (ih _).trans (hr _ _ _)
  have walk : ∀ (l : List Requester) (a : Arbiter), ρ (a.walk cap masked l) = ρ a := by
    intro l
    induction l with
    | nil => exact fun _ => rfl
    | cons r l ih =>
      intro a
      unfold Arbiter.walk
      (repeat' split) <;> first
        | exact ih _
        | exact hw _ _
        | exact (ih _).trans (hr _ _ _)
        | exact (ih _).trans ((hr _ _ _).trans (hr _ _ _))
  have restore : ∀ a : Arbiter, ρ (a.restore cap masked) = ρ a := by
    intro a
    unfold Arbiter.restore
    (repeat' split) <;> first | rfl | exact hr _ _ _
  unfold Arbiter.run Arbiter.trim Arbiter.trimPacker
  rw [restore, walk, trimWhole, hr]
  exact (trimMasked _ _).trans (hn _ _)

/-- An arbitration leaves every request as it stands. -/
theorem run_req (cap : Nat) (masked : Requester → Bool) (prio : List Requester) (a : Arbiter) :
    (a.run cap masked prio).req = a.req :=
  run_keeps Arbiter.req (fun _ _ _ => rfl) (fun _ _ => rfl) (fun _ _ => rfl) cap masked prio a

/-- An arbitration leaves the group order as it stands. -/
theorem run_group (cap : Nat) (masked : Requester → Bool) (prio : List Requester) (a : Arbiter) :
    (a.run cap masked prio).group = a.group :=
  run_keeps Arbiter.group (fun _ _ _ => rfl) (fun _ _ => rfl) (fun _ _ => rfl) cap masked prio a

theorem arbitrate_request (s : State) (r : Requester) : (arbitrate s).request r = s.request r := by
  simp only [State.request, arbitrate_requests, run_req]

theorem paceLift_lifts (s : State) (st x : Station) : (paceLift s st).lift x =
    if x = st then (s.lift st).paced s.now s.cfg.pauseLimit (s.request (.station st)).isSome
      (s.grant (.station st)) else s.lift x := by
  unfold paceLift endRun
  dsimp only
  split <;> (simp only [State.setLift, State.setScale, State.lift, setLifts_lifts, setWeigh_lifts,
    tri_get_set])

theorem paced_paused (now limit : Nat) (request : Bool) (grant : Nat) (l : Lift) :
    (l.paced now limit request grant).paused = (request && decide (grant = 0)) := by
  unfold Lift.paced
  cases request
  · rfl
  · by_cases h : grant = 0
    · subst h
      rfl
    · have : 0 < grant := Nat.pos_of_ne_zero h
      simp [this, h]

theorem packer_paced_paused (now limit stall : Nat) (q : Option FlowReq) (grant : Nat) (p : Packer) :
    (p.paced now limit stall q grant).paused = (q.isSome && decide (grant = 0)) := by
  unfold Packer.paced
  cases q
  · rfl
  · by_cases h : grant = 0
    · subst h
      rfl
    · have : 0 < grant := Nat.pos_of_ne_zero h
      simp [this, h]

theorem tailgate_paced_paused (now limit : Nat) (request : Bool) (grant : Nat) (t : Tailgate) :
    (t.paced now limit request grant).paused = (request && decide (grant = 0)) := by
  unfold Tailgate.paced
  cases request
  · rfl
  · by_cases h : grant = 0
    · subst h
      rfl
    · have : 0 < grant := Nat.pos_of_ne_zero h
      simp [this, h]

theorem retarget_target (ramp target : Nat) (x : Channel) : (x.retarget ramp target).target = target := by
  unfold Channel.retarget
  split
  · rename_i h
    exact h.symm
  · rfl

/-- A station after the three have been told their grants: its own pacing alone. -/
theorem paceLifts_lift (s : State) (x : Station) : (stations.foldl paceLift s).lift x =
    (s.lift x).paced s.now s.cfg.pauseLimit (s.request (.station x)).isSome
      (s.grant (.station x)) := by
  have ha : ∀ (s : State) (st : Station) (r : Requester), (paceLift s st).request r = s.request r :=
    fun s st r => congrArg (fun a : Arbiter => a.req.get r)
      (paceLift_keeps State.arbiter keeps_arbiter.mono s st)
  have hg : ∀ (s : State) (st : Station) (r : Requester), (paceLift s st).grant r = s.grant r :=
    fun s st r => congrArg (fun a : Arbiter => a.grant.get r)
      (paceLift_keeps State.arbiter keeps_arbiter.mono s st)
  have hn : ∀ (s : State) (st : Station), (paceLift s st).now = s.now :=
    fun s st => congrArg Sys.now (paceLift_keeps State.sys keeps_sys.mono s st)
  have hc : ∀ (s : State) (st : Station), (paceLift s st).cfg = s.cfg :=
    paceLift_keeps State.cfg keeps_cfg.mono
  show (paceLift (paceLift (paceLift s .sideArm) .rearLeft) .rearRight).lift x = _
  cases x <;> simp [paceLift_lifts, ha, hg, hn, hc]

/-- The pauses of the packer and the tailgate once they have been told their grants. -/
theorem paced_pauses (y : State) : (paceTailgate (pacePacker y)).packer.paused =
      ((y.request .packer).isSome && decide (y.grant .packer = 0)) ∧
    (paceTailgate (pacePacker y)).tailgate.paused =
      ((y.request .tailgate).isSome && decide (y.grant .tailgate = 0)) :=
  ⟨packer_paced_paused _ _ _ _ _ _, tailgate_paced_paused _ _ _ _ _⟩

theorem paceLifts_request (y : State) (r : Requester) :
    (stations.foldl paceLift y).request r = y.request r :=
  congrArg (fun a : Arbiter => a.req.get r)
    (foldl_keeps State.arbiter paceLift (paceLift_keeps _ keeps_arbiter.mono) _ y)

theorem paceLifts_grant (y : State) (r : Requester) :
    (stations.foldl paceLift y).grant r = y.grant r :=
  congrArg (fun a : Arbiter => a.grant.get r)
    (foldl_keeps State.arbiter paceLift (paceLift_keeps _ keeps_arbiter.mono) _ y)

theorem arbitrate_subOf (s : State) (r : Requester) : (arbitrate s).subOf r = s.subOf r := by
  cases r with
  | station st => exact arbitrate_lift (·.sub) (fun _ _ _ _ l => (paced_core _ _ _ _ l).2.2.1) s st
  | _ => rfl

/-- The target duties of a state read its parameters, requests, grants and Dump sub-phases. -/
theorem targetDuty_congr {s t : State} (c : Nat) (hc : t.cfg = s.cfg)
    (hr : ∀ r, t.request r = s.request r) (hg : ∀ r, t.grant r = s.grant r)
    (hs : ∀ r, t.subOf r = s.subOf r) : t.targetDuty c = s.targetDuty c := by
  unfold State.targetDuty
  simp only [hc, hr, hg, hs]

/-- An arbitration begins and ends the pauses and sets the valve targets. -/
theorem arbitrate_reports (s : State) : grantsReported (arbitrate s) := by
  have hr := arbitrate_request s
  have hg : ∀ r, (arbitrate s).grant r =
      (s.arbiter.run s.signals.capacity s.masked s.priority).grant.get r := fun r => by
    simp only [State.grant, arbitrate_arbiter]
  have hc : (arbitrate s).cfg = s.cfg := arbitrate_keeps _ keeps_cfg.mono s
  have hs := arbitrate_subOf s
  have ha := run_req s.signals.capacity s.masked s.priority s.arbiter
  unfold grantsReported
  simp only [hr, hg]
  have ht : ∀ c, (arbitrate s).targetDuty c = (s.setArbiter
      (s.arbiter.run s.signals.capacity s.masked s.priority)).targetDuty c := fun c =>
    targetDuty_congr c hc (fun r => by rw [hr]; simp only [State.request, setArbiter_arbiter, ha])
      (fun r => by rw [hg]; rfl) hs
  simp only [ht]
  unfold arbitrate
  generalize hw : s.arbiter.run s.signals.capacity s.masked s.priority = a at *
  have hq : ∀ r, (refreshValves (s.setArbiter a)).request r = s.request r := fun r =>
    congrArg (fun f : Five (Option FlowReq) => f.get r) ha
  have hgr : ∀ r, (refreshValves (s.setArbiter a)).grant r = a.grant.get r := fun _ => rfl
  have hch : (refreshValves (s.setArbiter a)).channels = Vector.ofFn fun i =>
    ((s.setArbiter a).channels[i]).retarget (s.cfg.rampStep i.val) ((s.setArbiter a).targetDuty i.val) :=
    rfl
  refine ⟨fun st => ?_, ?_, ?_, fun c => ?_⟩
  · have hl : ∀ y : State, (paceTailgate (pacePacker y)).lift st = y.lift st := fun _ => rfl
    rw [hl, paceLifts_lift, paced_paused, hq, hgr]
  · rw [(paced_pauses _).1, paceLifts_request, paceLifts_grant, hq, hgr]
  · rw [(paced_pauses _).2, paceLifts_request, paceLifts_grant, hq, hgr]
  · have hx : ∀ y : State, (paceTailgate (pacePacker y)).channels = y.channels := fun _ => rfl
    rw [hx, foldl_keeps State.channels paceLift (paceLift_keeps _ keeps_channels.mono), hch]
    simp only [Fin.getElem_fin, Vector.getElem_ofFn, retarget_target]

theorem newRequest_masksHold (r : Requester) (ph : FlowPhase) (s : State) :
    masksHold (newRequest r ph s) := arbitrate_masksHold _

theorem newRequest_reports (r : Requester) (ph : FlowPhase) (s : State) :
    grantsReported (newRequest r ph s) := arbitrate_reports _

/-! ### What an arbitration leaves alone -/

/-- A state that differs from another in nothing but what `State.repack` takes over. -/
theorem eq_repack {v t : State} (h1 : t.sys = v.sys) (h2 : t.mode = v.mode) (h3 : t.store = v.store)
    (h4 : t.cfg = v.cfg) (h5 : t.chassis = v.chassis) (h6 : t.statusBuffer = v.statusBuffer)
    (h7 : t.routes = v.routes) (h8 : t.statusTimer = v.statusTimer) (h9 : t.slots = v.slots)
    (h10 : t.signals = v.signals) (h11 : t.scanner = v.scanner)
    (h12 : t.foreignCommands = v.foreignCommands) (h13 : t.tags = v.tags) (h14 : t.zeros = v.zeros)
    (h15 : t.table = v.table) (h16 : t.billing = v.billing) (h17 : t.queue = v.queue)
    (h18 : t.clock = v.clock) (h19 : t.snaps = v.snaps) (h20 : t.pending = v.pending) :
    t = v.repack t := by
  cases v
  cases t
  simp only at h1 h2 h3 h4 h5 h6 h7 h8 h9 h10 h11 h12 h13 h14 h15 h16 h17 h18 h19 h20
  subst h1 h2 h3 h4 h5 h6 h7 h8 h9 h10 h11 h12 h13 h14 h15 h16 h17 h18 h19 h20
  rfl

/-- Such a state that keeps the markers, the payload, the Agent, the Body Port and the Control Queue. -/
theorem eq_reflow {v t : State} (h : t = v.repack t) (h1 : t.markers = v.markers)
    (h2 : t.payload = v.payload) (h3 : t.agent = v.agent) (h4 : t.body = v.body)
    (h5 : t.control = v.control) : t = v.reflow t := by
  refine h.trans ?_
  simp only [State.repack, h1, h2, h3, h4, h5]
  rfl

theorem paceLift_scale (s : State) (st x : Station) : (paceLift s st).scale x = s.scale x ∨
    (paceLift s st).scale x = { s.scale x with run := Run.empty } := by
  unfold paceLift endRun
  dsimp only
  split
  · simp only [State.setLift, State.setScale, State.scale, setLifts_weigh, setWeigh_weigh, tri_get_set]
    split
    · rename_i h
      exact .inr (h ▸ rfl)
    · exact .inl rfl
  · exact .inl rfl

theorem pacedBut_refl (l : List Requester) (s : State) : pacedBut l s s :=
  ⟨fun _ _ => ⟨rfl, .inl rfl⟩, fun _ => rfl, fun _ => rfl, fun _ _ => rfl⟩

theorem pacedBut_trans {l : List Requester} {s t u : State} (h : pacedBut l s t)
    (k : pacedBut l t u) : pacedBut l s u := by
  refine ⟨fun st hs => ⟨((k.1 st hs).1).trans (h.1 st hs).1, ?_⟩, fun hs => (k.2.1 hs).trans (h.2.1 hs),
    fun hs => (k.2.2.1 hs).trans (h.2.2.1 hs), fun r hs => (k.2.2.2 r hs).trans (h.2.2.2 r hs)⟩
  rcases (h.1 st hs).2 with e | e <;> rcases (k.1 st hs).2 with f | f <;> rw [f, e]
  · exact .inl rfl
  · exact .inr rfl
  · exact .inr rfl
  · exact .inr rfl

theorem pacedBut_mono {s t : State} (l : List Requester) (h : pacedBut [] s t) : pacedBut l s t :=
  ⟨fun st _ => h.1 st (by simp), fun _ => h.2.1 (by simp), fun _ => h.2.2.1 (by simp),
    fun r _ => h.2.2.2 r (by simp)⟩

theorem paced_unpaced (now limit : Nat) (r : Bool) (g : Nat) (l : Lift) :
    (l.paced now limit r g).unpaced = l.unpaced := by
  unfold Lift.paced
  (repeat' split) <;> rfl

theorem packer_paced_unpaced (now limit stall : Nat) (q : Option FlowReq) (g : Nat) (p : Packer) :
    (p.paced now limit stall q g).unpaced = p.unpaced := by
  unfold Packer.paced
  (repeat' split) <;> rfl

theorem tailgate_paced_unpaced (now limit : Nat) (r : Bool) (g : Nat) (t : Tailgate) :
    (t.paced now limit r g).unpaced = t.unpaced := by
  unfold Tailgate.paced
  (repeat' split) <;> rfl

theorem arbitrate_scale (s : State) (x : Station) : (arbitrate s).scale x = s.scale x ∨
    (arbitrate s).scale x = { s.scale x with run := Run.empty } := by
  have fold : ∀ (l : List Station) (y : State), (l.foldl paceLift y).scale x = y.scale x ∨
      (l.foldl paceLift y).scale x = { y.scale x with run := Run.empty } := by
    intro l
    induction l with
    | nil => exact fun y => .inl rfl
    | cons st l ih =>
      intro y
      rw [List.foldl_cons]
      rcases ih (paceLift y st) with e | e <;> rcases paceLift_scale y st x with f | f <;> rw [e, f]
      · exact .inl rfl
      · exact .inr rfl
      · exact .inr rfl
      · exact .inr rfl
  have ht : ∀ y : State, (paceTailgate (pacePacker y)).scale x = y.scale x := fun _ => rfl
  unfold arbitrate
  rw [ht]
  exact fold _ _

/-- An arbitration changes the pauses of the functions, and ends weigh runs, but nothing else of them. -/
theorem arbitrate_paced (s : State) : pacedBut [] s (arbitrate s) :=
  ⟨fun st _ => ⟨arbitrate_lift Lift.unpaced paced_unpaced s st, arbitrate_scale s st⟩,
    fun _ => arbitrate_packer Packer.unpaced packer_paced_unpaced s,
    fun _ => arbitrate_tailgate Tailgate.unpaced tailgate_paced_unpaced s,
    fun r _ => arbitrate_request s r⟩

theorem arbitrate_toggles (s : State) : (arbitrate s).toggles = s.toggles :=
  arbitrate_keeps State.toggles keeps_toggles.mono s

/-- An arbitration reaches the grants, the valves, the functions and their weigh runs alone. -/
theorem arbitrate_reflow (s : State) : arbitrate s = s.reflow (arbitrate s) := by
  refine eq_reflow (eq_repack ?_ ?_ ?_ ?_ ?_ ?_ ?_ ?_ ?_ ?_ ?_ ?_ ?_ ?_ ?_ ?_ ?_ ?_ ?_ ?_) ?_ ?_ ?_ ?_ ?_
  · exact arbitrate_keeps State.sys keeps_sys.mono s
  · exact arbitrate_keeps State.mode keeps_mode.mono s
  · exact arbitrate_keeps State.store keeps_store.mono s
  · exact arbitrate_keeps State.cfg keeps_cfg.mono s
  · exact arbitrate_keeps State.chassis keeps_chassis.mono s
  · exact arbitrate_keeps State.statusBuffer keeps_statusBuffer.mono s
  · exact arbitrate_keeps State.routes keeps_routes.mono s
  · exact arbitrate_keeps State.statusTimer keeps_statusTimer.mono s
  · exact arbitrate_keeps State.slots keeps_slots.mono s
  · exact arbitrate_keeps State.signals keeps_signals.mono s
  · exact arbitrate_keeps State.scanner keeps_scanner.mono s
  · exact arbitrate_keeps State.foreignCommands keeps_foreignCommands.mono s
  · exact arbitrate_keeps State.tags keeps_tags.mono s
  · exact arbitrate_keeps State.zeros keeps_zeros.mono s
  · exact arbitrate_keeps State.table keeps_table.mono s
  · exact arbitrate_keeps State.billing keeps_billing.mono s
  · exact arbitrate_keeps State.queue keeps_queue.mono s
  · exact arbitrate_keeps State.clock keeps_clock.mono s
  · exact arbitrate_keeps State.snaps keeps_snaps.mono s
  · exact arbitrate_keeps State.pending keeps_pending.mono s
  · exact arbitrate_keeps State.markers keeps_markers.mono s
  · exact arbitrate_keeps State.payload keeps_payload.mono s
  · exact arbitrate_keeps State.agent keeps_agent.mono s
  · exact arbitrate_keeps State.body keeps_body.mono s
  · exact arbitrate_keeps State.control keeps_control.mono s

/-- The toggle outputs stand as they were. -/
theorem arbitrate_frame (s : State) :
    arbitrate s = { s.reflow (arbitrate s) with toggles := s.toggles } := by
  refine (arbitrate_reflow s).trans ?_
  unfold State.reflow
  rw [arbitrate_toggles]

/-- An arbitration leaves the toggle outputs settled. -/
theorem arbitrate_settled {s : State} (h : settled s) : settled (arbitrate s) := by
  unfold settled State.beaconOn State.hornOn at *
  simp only [arbitrate_toggles, arbitrate_lift_state, arbitrate_packer_state,
    arbitrate_tailgate_state]
  exact h

/-! ### What a change of the outputs does (R29, R166) -/

theorem flowDiffers_iff (a b : Signals) : a.flowDiffers b = false ↔
    b.liftPermit = a.liftPermit ∧ b.packPermit = a.packPermit ∧
      b.tailgatePermit = a.tailgatePermit ∧ b.capacity = a.capacity := by
  unfold Signals.flowDiffers
  rw [Bool.or_eq_false_iff, Bool.or_eq_false_iff, Bool.or_eq_false_iff]
  simp only [bne_eq_false_iff_eq, and_assoc]
  constructor <;> (rintro ⟨h1, h2, h3, h4⟩; exact ⟨h1.symm, h2.symm, h3.symm, h4.symm⟩)

/-- Whether a pack that is pending is served. -/
theorem packReady_iff (s : State) : (s.packer.packPending && s.packReady) = true ↔
    s.packer.packPending = true ∧ s.packer.state = .parked ∧ s.signals.packPermit = true ∧
      (∀ st : Station, (s.lift st).state ≠ .dump) ∧ s.tailgate.state = .closed := by
  have hall : (stations.all fun st => (s.lift st).state != .dump) = true ↔
      ∀ st : Station, (s.lift st).state ≠ .dump := by
    simp only [List.all_eq_true, bne_iff_ne, ne_eq]
    exact ⟨fun h st => h st (by cases st <;> decide), fun h st _ => h st⟩
  simp only [State.packReady, Bool.and_eq_true, beq_iff_eq, hall, and_assoc]

theorem servePack_idle {s : State} (h : (s.packer.packPending && s.packReady) = false) :
    servePack s = s := by
  simp only [servePack, servePending, h, Bool.false_eq_true, if_false]

/-- A role's state reads the published inputs and the Input Role Table alone (R35). -/
theorem role_congr {s t : State} (hs : t.scanner = s.scanner) (hc : t.cfg = s.cfg) (r : Role) :
    t.role r = s.role r := by
  unfold State.role State.input
  rw [hs, hc]

/-- A packer that enters Extending, before its request (R167). -/
def extending (s : State) : State :=
  s.setPacker { s.packer with
    packPending := false, state := .extending, stroke := 0, dumps := 0
    limitTimer := .running (s.now + s.cfg.extendLimit), stallTimer := .stopped }

/-- A pack that is served with Pressure Max inactive puts the packer in Extending (R167). -/
theorem servePack_begins {s : State} (h : (s.packer.packPending && s.packReady) = true)
    (hp : s.role .pressureMax = false) :
    servePack s = newRequest .packer .extending (extending s) := by
  have hr : (newRequest .packer .extending (extending s)).role .pressureMax = false :=
    (role_congr (newRequest_keeps State.scanner keeps_scanner.mono _ _ _)
      (newRequest_keeps State.cfg keeps_cfg.mono _ _ _) _).trans hp
  simp only [servePack, servePending, h, if_true, beginExtending]
  exact if_neg fun hc => Bool.false_ne_true (hr.symm.trans hc)

/-- A change of the outputs reaches nothing but the blocks of an arbitration and of a pack (R29). -/
theorem resignal_repack (u : State) :
    settleToggles (resignal u) = (u.setSignals u.outputs).repack (settleToggles (resignal u)) := by
  have ht : ∀ {α : Type} (π : State → α), (∀ s x, π (State.setToggles s x) = π s) →
      ∀ s, π (settleToggles s) = π s := fun π h s => settleToggles_keeps' π h s
  have hs : (resignal u).signals = u.outputs := by
    unfold resignal
    dsimp only
    split <;> split <;> simp only [servePack_keeps State.signals keeps_signals.mono,
      arbitrate_keeps State.signals keeps_signals.mono, setSignals_signals]
  refine eq_repack ?_ ?_ ?_ ?_ ?_ ?_ ?_ ?_ ?_ (hs ▸ rfl) ?_ ?_ ?_ ?_ ?_ ?_ ?_ ?_ ?_ ?_
  · exact resignal_keeps State.sys keeps_sys.mono u
  · exact resignal_keeps State.mode keeps_mode.mono u
  · exact resignal_keeps State.store keeps_store.mono u
  · exact resignal_keeps State.cfg keeps_cfg.mono u
  · exact resignal_keeps State.chassis keeps_chassis.mono u
  · exact resignal_keeps State.statusBuffer keeps_statusBuffer.mono u
  · exact resignal_keeps State.routes keeps_routes.mono u
  · exact resignal_keeps State.statusTimer keeps_statusTimer.mono u
  · exact resignal_keeps State.slots keeps_slots.mono u
  · exact resignal_keeps State.scanner keeps_scanner.mono u
  · exact resignal_keeps State.foreignCommands keeps_foreignCommands.mono u
  · exact resignal_keeps State.tags keeps_tags.mono u
  · exact resignal_keeps State.zeros keeps_zeros.mono u
  · exact resignal_keeps State.table keeps_table.mono u
  · exact resignal_keeps State.billing keeps_billing.mono u
  · exact resignal_keeps State.queue keeps_queue.mono u
  · exact resignal_keeps State.clock keeps_clock.mono u
  · exact resignal_keeps State.snaps keeps_snaps.mono u
  · exact resignal_keeps State.pending keeps_pending.mono u

/-- An arbitration does not decide whether a pending pack is served. -/
theorem arbitrate_packReady (s : State) :
    ((arbitrate s).packer.packPending && (arbitrate s).packReady) = true ↔
      s.packer.packPending = true ∧ s.packer.state = .parked ∧ s.signals.packPermit = true ∧
        (∀ st : Station, (s.lift st).state ≠ .dump) ∧ s.tailgate.state = .closed := by
  rw [packReady_iff, arbitrate_packer_state, arbitrate_tailgate_state,
    arbitrate_keeps State.signals keeps_signals.mono,
    arbitrate_packer (·.packPending) fun _ _ _ _ _ p => (packer_paced_core _ _ _ _ _ p).2.1]
  simp only [arbitrate_lift_state]

theorem priority_congr {s t : State} (hc : t.cfg = s.cfg) (hg : t.arbiter.group = s.arbiter.group) :
    t.priority = s.priority := by
  unfold State.priority
  rw [hc, hg]

/-- What a packer that begins a stroke on its own request leaves alone (R167). -/
theorem beginStroke_paced (w : State) :
    pacedBut [.packer] w (newRequest .packer .extending (extending w)) := by
  refine pacedBut_trans ?_ (pacedBut_mono _ (arbitrate_paced _))
  refine ⟨fun _ _ => ⟨rfl, .inl rfl⟩, fun h => absurd (by simp) h, fun _ => rfl, fun r h => ?_⟩
  have h : r ≠ .packer := fun e => h (by simp [e])
  exact (five_get_set _ _ _ _).trans (if_neg h)

/-- What reads neither the packer nor the arbitration stands as it was. -/
theorem beginStroke_keeps {u w : State} (hw : arbitrate (u.setSignals u.outputs) = w) {α : Type}
    (π : State → α) (hp : ∀ z x, π (State.setPacker z x) = π z) (hk : Keeps π [.arb, .arbiter]) :
    π (newRequest .packer .extending (extending w)) = π (u.setSignals u.outputs) := by
  rw [newRequest_keeps π hk, extending, hp, ← hw]
  exact hk.arb rfl _

/-- The packer's own change, its pauses aside. -/
theorem beginStroke_packer {u w : State} (hw : arbitrate (u.setSignals u.outputs) = w) :
    (newRequest .packer .extending (extending w)).packer.unpaced = { u.packer with
      state := .extending, stroke := 0, dumps := 0, packPending := false }.unpaced := by
  have h := arbitrate_packer Packer.unpaced packer_paced_unpaced (u.setSignals u.outputs)
  rw [hw] at h
  refine (arbitrate_packer Packer.unpaced packer_paced_unpaced _).trans ?_
  exact congrArg (fun p : Packer => ({ p with
    state := .extending, stroke := 0, dumps := 0, packPending := false } : Packer)) h

/-- The stroke that a rising Pack Permit begins, after the arbitration for its change. -/
theorem beginStroke_arbiter {u w : State} (hw : arbitrate (u.setSignals u.outputs) = w) :
    let v := u.setSignals u.outputs
    let a := u.arbiter.run u.outputs.capacity v.masked u.priority
    (newRequest .packer .extending (extending w)).arbiter = Arbiter.run u.outputs.capacity v.masked
      u.priority { a with
        req := a.req.set .packer (some (u.flowReq .packer .extending))
        grant := a.grant.set .packer 0 } := by
  have ha : w.arbiter = u.arbiter.run u.outputs.capacity (u.setSignals u.outputs).masked u.priority :=
    hw ▸ arbitrate_arbiter _
  have hc : w.cfg = u.cfg := hw ▸ arbitrate_keeps State.cfg keeps_cfg.mono _
  have hs : w.signals = u.outputs := hw ▸ arbitrate_keeps State.signals keeps_signals.mono _
  have hp : ∀ x : State, x.cfg = w.cfg → x.arbiter.group = w.arbiter.group → x.priority = u.priority :=
    fun x h1 h2 => priority_congr (h1.trans hc) (h2.trans (by rw [ha, run_group]))
  have hm : ∀ x : State, x.signals = w.signals → x.masked = (u.setSignals u.outputs).masked := by
    intro x h
    funext r
    cases r <;> simp only [State.masked, State.permit, h, hs, setSignals_signals]
  have hf : w.flowReq .packer .extending = u.flowReq .packer .extending := by
    unfold State.flowReq
    rw [hc]
  intro v a
  unfold newRequest
  rw [arbitrate_arbiter, hp _ (by rfl) (by rfl), hm _ (by rfl)]
  have hx : (extending w).arbiter = a := ha
  have hy : (extending w).flowReq .packer .extending = u.flowReq .packer .extending := hf
  have hz : (extending w).signals = u.outputs := hs
  simp only [setArbiter_arbiter, setArbiter_signals, hx, hy, hz]
  rfl

/-- Everything that a change of the outputs can do to a settled part. -/
theorem resignal_handsOn {u : State} (hu : settled u) : handsOn u (settleToggles (resignal u)) := by
  have hv : settled (u.setSignals u.outputs) := hu
  have differs (h : ¬ (u.outputs.liftPermit = u.signals.liftPermit ∧
      u.outputs.packPermit = u.signals.packPermit ∧
      u.outputs.tailgatePermit = u.signals.tailgatePermit ∧
      u.outputs.capacity = u.signals.capacity)) : u.signals.flowDiffers u.outputs = true := by
    cases hd : u.signals.flowDiffers u.outputs
    · exact absurd ((flowDiffers_iff _ _).mp hd) h
    · rfl
  refine ⟨resignal_repack u, fun hs => ?_, fun hs hp => ?_, fun hp hm => ?_⟩
  · have hr : (u.outputs.packPermit && !u.signals.packPermit) = false := by
      rw [hs.2.1]
      cases u.signals.packPermit <;> rfl
    have hd := (flowDiffers_iff u.signals u.outputs).mpr hs
    unfold resignal
    dsimp only
    rw [hr, hd, if_neg (by decide), if_neg (by decide)]
    exact settleToggles_same hv.1 hv.2
  · have ha := arbitrate_settled hv
    have he : settleToggles (resignal u) = arbitrate (u.setSignals u.outputs) := by
      unfold resignal
      dsimp only
      rw [differs hs, if_pos rfl]
      refine Eq.trans (congrArg settleToggles ?_) (settleToggles_same ha.1 ha.2)
      split
      · rename_i hr
        simp only [Bool.and_eq_true, Bool.not_eq_true'] at hr
        refine servePack_idle (Bool.eq_false_iff.mpr fun hc => hp ?_)
        obtain ⟨h1, h2, -, h4, h5⟩ := (arbitrate_packReady _).mp hc
        exact ⟨hr.2, hr.1, h1, h2, h5, h4⟩
      · rfl
    rw [he]
    exact ⟨arbitrate_arbiter _, arbitrate_masksHold _, arbitrate_reports _, arbitrate_paced _,
      arbitrate_frame (u.setSignals u.outputs)⟩
  · obtain ⟨h1, h2, h3, h4, h5, h6⟩ := hp
    have hd := differs fun hs => by
      have hs := hs.2.1
      rw [h1, h2] at hs
      exact absurd hs (by decide)
    generalize hw : arbitrate (u.setSignals u.outputs) = w
    have hb : (w.packer.packPending && w.packReady) = true := by
      rw [← hw]
      exact (arbitrate_packReady _).mpr ⟨h3, h4, h2, h6, h5⟩
    have hr : w.role .pressureMax = false := by
      rw [← hw]
      exact (role_congr (arbitrate_keeps State.scanner keeps_scanner.mono _)
        (arbitrate_keeps State.cfg keeps_cfg.mono _) _).trans hm
    have he : resignal u = newRequest .packer .extending (extending w) := by
      unfold resignal
      dsimp only
      rw [hd, if_pos rfl, hw, h1, h2, if_pos (by decide)]
      exact servePack_begins hb hr
    have hx := resignal_repack u
    rw [he] at hx ⊢
    have hpaced : pacedBut [.packer] u w := by
      rw [← hw]
      exact pacedBut_mono _ (arbitrate_paced (u.setSignals u.outputs))
    have ha := beginStroke_arbiter hw
    have hm := newRequest_masksHold .packer .extending (extending w)
    have hg := newRequest_reports .packer .extending (extending w)
    have hq := pacedBut_trans hpaced (beginStroke_paced w)
    have hs := beginStroke_packer hw
    have k1 := beginStroke_keeps hw State.markers (fun _ _ => rfl) keeps_markers.mono
    have k2 := beginStroke_keeps hw State.payload (fun _ _ => rfl) keeps_payload.mono
    have k3 := beginStroke_keeps hw State.agent (fun _ _ => rfl) keeps_agent.mono
    have k4 := beginStroke_keeps hw State.body (fun _ _ => rfl) keeps_body.mono
    have k5 := beginStroke_keeps hw State.control (fun _ _ => rfl) keeps_control.mono
    generalize newRequest .packer .extending (extending w) = x at *
    exact ⟨ha, hm, hg, hq, hs, eq_reflow hx k1 k2 k3 k4 k5⟩

end Sys2Proof.Laws
end

