-- ==== Sys2Proof/Laws/PerInstr.lean ====
section
/-! SUPPORT. The per-command family `FreeForm`: a command whose operands are not checked is well formed
with every operand its Lean type admits, so no form of it is shut out. -/

namespace Sys2Proof

/-- The commands whose operands `Instr.wellFormed` checks. -/
def Instr.checked : Instr → Bool
  | .frameReceived .. => true
  | .unknownCommand .. => true
  | .nodeData .. => true
  | .managementRequest .. => true
  | .write .. => true
  | .writeNext .. => true
  | .mirrorAccess .. => true
  | .unknownRequest .. => true
  | _ => false

end Sys2Proof

namespace Sys2Proof.Laws

/-- An unchecked command is well formed. -/
def FreeForm.Statement (i : Instr) : Prop := i.checked = false → i.wellFormed = true

theorem FreeForm.coldStart (na : BitVec 2) :
    FreeForm.Statement (.coldStart na) := fun _ => rfl

theorem FreeForm.warmStart (na : BitVec 2) :
    FreeForm.Statement (.warmStart na) := fun _ => rfl

theorem FreeForm.mainPowerLoss :
    FreeForm.Statement .mainPowerLoss := fun _ => rfl

theorem FreeForm.bodyResetStart (na : BitVec 2) :
    FreeForm.Statement (.bodyResetStart na) := fun _ => rfl

theorem FreeForm.frameReceived (p : Port) (f : Frame) :
    FreeForm.Statement (.frameReceived p f) := nofun

theorem FreeForm.frameSent (p : Port) :
    FreeForm.Statement (.frameSent p) := fun _ => rfl

theorem FreeForm.lostArbitration (p : Port) :
    FreeForm.Statement (.lostArbitration p) := fun _ => rfl

theorem FreeForm.transmitError (p : Port) :
    FreeForm.Statement (.transmitError p) := fun _ => rfl

theorem FreeForm.receiveError (p : Port) :
    FreeForm.Statement (.receiveError p) := fun _ => rfl

theorem FreeForm.recoveryTimerExpiry (p : Port) :
    FreeForm.Statement (.recoveryTimerExpiry p) := fun _ => rfl

theorem FreeForm.routeIntervalExpiry (i : Fin 64) :
    FreeForm.Statement (.routeIntervalExpiry i) := fun _ => rfl

theorem FreeForm.statusTimerExpiry :
    FreeForm.Statement .statusTimerExpiry := fun _ => rfl

theorem FreeForm.freshnessTimerExpiry (k : SlotId) :
    FreeForm.Statement (.freshnessTimerExpiry k) := fun _ => rfl

theorem FreeForm.slotHoldTimerExpiry (k : SlotId) :
    FreeForm.Statement (.slotHoldTimerExpiry k) := fun _ => rfl

theorem FreeForm.groupRead (lines : Byte) :
    FreeForm.Statement (.groupRead lines) := fun _ => rfl

theorem FreeForm.cycleStart (src : StartSource) :
    FreeForm.Statement (.cycleStart src) := fun _ => rfl

theorem FreeForm.returnLift (tag : BitVec 4) (station : Byte) :
    FreeForm.Statement (.returnLift tag station) := fun _ => rfl

theorem FreeForm.overrideLift (tag : BitVec 4) (station : Byte) :
    FreeForm.Statement (.overrideLift tag station) := fun _ => rfl

theorem FreeForm.recover (tag : BitVec 4) (station : Byte) :
    FreeForm.Statement (.recover tag station) := fun _ => rfl

theorem FreeForm.pack (tag : BitVec 4) (station : Byte) :
    FreeForm.Statement (.pack tag station) := fun _ => rfl

theorem FreeForm.unload (tag : BitVec 4) (station : Byte) :
    FreeForm.Statement (.unload tag station) := fun _ => rfl

theorem FreeForm.packerRecover (tag : BitVec 4) (station : Byte) :
    FreeForm.Statement (.packerRecover tag station) := fun _ => rfl

theorem FreeForm.tailgateRecover (tag : BitVec 4) (station : Byte) :
    FreeForm.Statement (.tailgateRecover tag station) := fun _ => rfl

theorem FreeForm.unknownCommand (code : Byte) (tag : BitVec 4) (station : Byte) :
    FreeForm.Statement (.unknownCommand code tag station) := nofun

theorem FreeForm.phaseTimerExpiry (st : Station) :
    FreeForm.Statement (.phaseTimerExpiry st) := fun _ => rfl

theorem FreeForm.pauseTimerExpiry (st : Station) :
    FreeForm.Statement (.pauseTimerExpiry st) := fun _ => rfl

theorem FreeForm.holdTimerExpiry (st : Station) :
    FreeForm.Statement (.holdTimerExpiry st) := fun _ => rfl

theorem FreeForm.sequenceTimerExpiry (st : Station) :
    FreeForm.Statement (.sequenceTimerExpiry st) := fun _ => rfl

theorem FreeForm.tagRead (src : Byte) (tag : BitVec 40) (strength : Byte) :
    FreeForm.Statement (.tagRead src tag strength) := fun _ => rfl

theorem FreeForm.tagEntryExpiry (st : Station) (tag : BitVec 40) :
    FreeForm.Statement (.tagEntryExpiry st tag) := fun _ => rfl

theorem FreeForm.assignedTagEmptying (st : Station) :
    FreeForm.Statement (.assignedTagEmptying st) := fun _ => rfl

theorem FreeForm.weighSample (src : Byte) (count : BitVec 24) (angle : BitVec 16) (seq : Byte) :
    FreeForm.Statement (.weighSample src count angle seq) := fun _ => rfl

theorem FreeForm.silenceTimerExpiry (st : Station) :
    FreeForm.Statement (.silenceTimerExpiry st) := fun _ => rfl

theorem FreeForm.attitude (src : Byte) (pitch : BitVec 16) (roll : BitVec 16) :
    FreeForm.Statement (.attitude src pitch roll) := fun _ => rfl

theorem FreeForm.attitudeTimerExpiry :
    FreeForm.Statement .attitudeTimerExpiry := fun _ => rfl

theorem FreeForm.zeroCaptureTimerExpiry (st : Station) :
    FreeForm.Statement (.zeroCaptureTimerExpiry st) := fun _ => rfl

theorem FreeForm.moveStep :
    FreeForm.Statement .moveStep := fun _ => rfl

theorem FreeForm.insertMoveEnd :
    FreeForm.Statement .insertMoveEnd := fun _ => rfl

theorem FreeForm.deleteMoveEnd :
    FreeForm.Statement .deleteMoveEnd := fun _ => rfl

theorem FreeForm.openPeriodWalkEnd :
    FreeForm.Statement .openPeriodWalkEnd := fun _ => rfl

theorem FreeForm.tableCheckEnd :
    FreeForm.Statement .tableCheckEnd := fun _ => rfl

theorem FreeForm.encoderPulse :
    FreeForm.Statement .encoderPulse := fun _ => rfl

theorem FreeForm.stallTimerExpiry :
    FreeForm.Statement .stallTimerExpiry := fun _ => rfl

theorem FreeForm.extendLimitExpiry :
    FreeForm.Statement .extendLimitExpiry := fun _ => rfl

theorem FreeForm.dwellTimerExpiry :
    FreeForm.Statement .dwellTimerExpiry := fun _ => rfl

theorem FreeForm.retractLimitExpiry :
    FreeForm.Statement .retractLimitExpiry := fun _ => rfl

theorem FreeForm.packerPauseTimerExpiry :
    FreeForm.Statement .packerPauseTimerExpiry := fun _ => rfl

theorem FreeForm.openTimeReached :
    FreeForm.Statement .openTimeReached := fun _ => rfl

theorem FreeForm.openingLimitExpiry :
    FreeForm.Statement .openingLimitExpiry := fun _ => rfl

theorem FreeForm.ejectTimerExpiry :
    FreeForm.Statement .ejectTimerExpiry := fun _ => rfl

theorem FreeForm.closingLimitExpiry :
    FreeForm.Statement .closingLimitExpiry := fun _ => rfl

theorem FreeForm.tailgatePauseTimerExpiry :
    FreeForm.Statement .tailgatePauseTimerExpiry := fun _ => rfl

theorem FreeForm.periodEnd (c : Fin 12) :
    FreeForm.Statement (.periodEnd c) := fun _ => rfl

theorem FreeForm.halfPeriodExpiry (t : Toggle) :
    FreeForm.Statement (.halfPeriodExpiry t) := fun _ => rfl

theorem FreeForm.secondAdvance :
    FreeForm.Statement .secondAdvance := fun _ => rfl

theorem FreeForm.spacingTimerExpiry :
    FreeForm.Statement .spacingTimerExpiry := fun _ => rfl

theorem FreeForm.nodeData (src : Byte) (tag : BitVec 4) (data : List Byte) :
    FreeForm.Statement (.nodeData src tag data) := nofun

theorem FreeForm.queryTimerExpiry :
    FreeForm.Statement .queryTimerExpiry := fun _ => rfl

theorem FreeForm.resultTimerExpiry :
    FreeForm.Statement .resultTimerExpiry := fun _ => rfl

theorem FreeForm.managementRequest (src : Byte) (tag : BitVec 4) (data : List Byte) :
    FreeForm.Statement (.managementRequest src tag data) := nofun

theorem FreeForm.read (m : Manager) (tag : BitVec 4) (addr : BitVec 16) (len : Byte) :
    FreeForm.Statement (.read m tag addr len) := fun _ => rfl

theorem FreeForm.write (m : Manager) (tag : BitVec 4) (addr : BitVec 16) (len : Byte) (bytes : List Byte) :
    FreeForm.Statement (.write m tag addr len bytes) := nofun

theorem FreeForm.setPointer (m : Manager) (tag : BitVec 4) (addr : BitVec 16) :
    FreeForm.Statement (.setPointer m tag addr) := fun _ => rfl

theorem FreeForm.readNext (m : Manager) (tag : BitVec 4) (len : Byte) :
    FreeForm.Statement (.readNext m tag len) := fun _ => rfl

theorem FreeForm.writeNext (m : Manager) (tag : BitVec 4) (len : Byte) (bytes : List Byte) :
    FreeForm.Statement (.writeNext m tag len bytes) := nofun

theorem FreeForm.mirrorAccess (m : Manager) (tag : BitVec 4) (body : ReqBody) :
    FreeForm.Statement (.mirrorAccess m tag body) := nofun

theorem FreeForm.bankBaseWrite (m : Manager) (tag : BitVec 4) (value : BitVec 16) :
    FreeForm.Statement (.bankBaseWrite m tag value) := fun _ => rfl

theorem FreeForm.setRecordCount (m : Manager) (tag : BitVec 4) (value : BitVec 16) :
    FreeForm.Statement (.setRecordCount m tag value) := fun _ => rfl

theorem FreeForm.nextSequenceWrite (m : Manager) (tag : BitVec 4) (value : BitVec 32) :
    FreeForm.Statement (.nextSequenceWrite m tag value) := fun _ => rfl

theorem FreeForm.snapshotPortRead (m : Manager) (tag : BitVec 4) (first : Fin 4) (len : Byte) :
    FreeForm.Statement (.snapshotPortRead m tag first len) := fun _ => rfl

theorem FreeForm.unknownRequest (m : Manager) (tag : BitVec 4) (kind : Byte) (code : Byte) :
    FreeForm.Statement (.unknownRequest m tag kind code) := nofun

theorem FreeForm.tableOpen (m : Manager) (tag : BitVec 4) :
    FreeForm.Statement (.tableOpen m tag) := fun _ => rfl

theorem FreeForm.tableClose (m : Manager) (tag : BitVec 4) :
    FreeForm.Statement (.tableClose m tag) := fun _ => rfl

theorem FreeForm.insert (m : Manager) (tag : BitVec 4) :
    FreeForm.Statement (.insert m tag) := fun _ => rfl

theorem FreeForm.update (m : Manager) (tag : BitVec 4) :
    FreeForm.Statement (.update m tag) := fun _ => rfl

theorem FreeForm.delete (m : Manager) (tag : BitVec 4) :
    FreeForm.Statement (.delete m tag) := fun _ => rfl

theorem FreeForm.openPeriod (m : Manager) (tag : BitVec 4) :
    FreeForm.Statement (.openPeriod m tag) := fun _ => rfl

theorem FreeForm.release (m : Manager) (tag : BitVec 4) (n : BitVec 16) :
    FreeForm.Statement (.release m tag n) := fun _ => rfl

theorem FreeForm.latch (m : Manager) (tag : BitVec 4) (sel : BitVec 32) :
    FreeForm.Statement (.latch m tag sel) := fun _ => rfl

theorem FreeForm.clearTotals (m : Manager) (tag : BitVec 4) :
    FreeForm.Statement (.clearTotals m tag) := fun _ => rfl

theorem FreeForm.clearFlags (m : Manager) (tag : BitVec 4) (set : BitVec 32) :
    FreeForm.Statement (.clearFlags m tag set) := fun _ => rfl

theorem FreeForm.acknowledgeNotices (m : Manager) (tag : BitVec 4) (set : BitVec 32) :
    FreeForm.Statement (.acknowledgeNotices m tag set) := fun _ => rfl

theorem FreeForm.acknowledgeChanges (m : Manager) (tag : BitVec 4) (set : BitVec 32) :
    FreeForm.Statement (.acknowledgeChanges m tag set) := fun _ => rfl

theorem FreeForm.zeroCapture (m : Manager) (tag : BitVec 4) (station : Byte) :
    FreeForm.Statement (.zeroCapture m tag station) := fun _ => rfl

theorem FreeForm.setLowest (m : Manager) (tag : BitVec 4) (station : Byte) :
    FreeForm.Statement (.setLowest m tag station) := fun _ => rfl

theorem FreeForm.setClock (m : Manager) (tag : BitVec 4) (value : BitVec 32) :
    FreeForm.Statement (.setClock m tag value) := fun _ => rfl

theorem FreeForm.configurationOpen (m : Manager) (tag : BitVec 4) :
    FreeForm.Statement (.configurationOpen m tag) := fun _ => rfl

theorem FreeForm.commit (m : Manager) (tag : BitVec 4) :
    FreeForm.Statement (.commit m tag) := fun _ => rfl

theorem FreeForm.maintenanceEnter (m : Manager) (tag : BitVec 4) :
    FreeForm.Statement (.maintenanceEnter m tag) := fun _ => rfl

theorem FreeForm.maintenanceLeave (m : Manager) (tag : BitVec 4) :
    FreeForm.Statement (.maintenanceLeave m tag) := fun _ => rfl

theorem FreeForm.bodyReset (m : Manager) (tag : BitVec 4) :
    FreeForm.Statement (.bodyReset m tag) := fun _ => rfl

theorem FreeForm.recessiveBitsSeen (p : Port) :
    FreeForm.Statement (.recessiveBitsSeen p) := fun _ => rfl

theorem FreeForm.remoteFrameReceived (p : Port) :
    FreeForm.Statement (.remoteFrameReceived p) := fun _ => rfl

end Sys2Proof.Laws
end

