-- ==== Sys2Proof/Tests/Slice0.lean ====
section
/-! SUPPORT. Tests: the well-formedness checks, single steps with results from the manual's own text, and
for each statement with hypotheses one named theorem that shows states and operands that meet them. -/

namespace Sys2Proof.Tests

set_option Elab.async false

open Sys2Proof.Machine

/-! ### Helpers -/

/-- The next state of an outcome. -/
def after : Host.Outcome State Fault Refusal → Option State
  | .next t => some t
  | _ => none

/-- The part in service: committed, not Configuring, and Scan Ready. -/
def ready : State :=
  { State.reset with
    mode := ⟨false, true, false⟩, scanner := { State.reset.scanner with ready := true } }

/-- The part in service with some inputs published active, some parameters and all Permits. -/
def served (inputs : BitVec 32) (c : Mem) : State :=
  { ready with
    cfg := c, scanner := { ready.scanner with published := inputs, filtered := inputs }
    signals := ⟨true, true, true, true, 100⟩ }

/-- A station in some state, with the toggle outputs settled. -/
def withLift (st : Station) (l : Lift) (s : State) : State := settleToggles (s.setLift st l)

/-- The packer in some state, with the toggle outputs settled. -/
def withPacker (p : Packer) (s : State) : State := settleToggles (s.setPacker p)

/-- The tailgate in some state, with the toggle outputs settled. -/
def withTailgate (t : Tailgate) (s : State) : State := settleToggles (s.setTailgate t)

/-- The Lift Record of a lift that has just begun. -/
def record : LiftRecord := LiftRecord.fresh 1 0

/-- A frame of no Body Link class that the part consumes. -/
def frame8 : Frame := ⟨true, 1, [1, 2, 3, 4, 5, 6, 7, 8]⟩

/-! ### Well-formedness: each check accepts at its boundary and refuses beyond it -/

theorem smoke_frameReceived : (Instr.frameReceived .chassis frame8).wellFormed = true ∧
    (Instr.frameReceived .chassis ⟨true, 1, List.replicate 9 0⟩).wellFormed = false ∧
    (Instr.frameReceived .body ⟨false, 0x800, []⟩).wellFormed = false := by decide

theorem smoke_unknownCommand : (Instr.unknownCommand 9 0 0).wellFormed = true ∧
    (Instr.unknownCommand 8 0 0).wellFormed = false ∧
    (Instr.unknownCommand 1 0 0).wellFormed = false := by decide

theorem smoke_nodeData : (Instr.nodeData 0 0 [1, 2]).wellFormed = true ∧
    (Instr.nodeData 0 0 [1]).wellFormed = false ∧
    (Instr.nodeData 0 0 (List.replicate 9 0)).wellFormed = false := by decide

theorem smoke_managementRequest : (Instr.managementRequest 1 0 [1, 0]).wellFormed = true ∧
    (Instr.managementRequest 1 0 [1]).wellFormed = false ∧
    (Instr.managementRequest 1 0 (List.replicate 9 0)).wellFormed = false := by decide

theorem smoke_write : (Instr.write .service 0 0 4 [1, 2, 3, 4]).wellFormed = true ∧
    (Instr.write .service 0 0 5 [1, 2, 3, 4, 5]).wellFormed = false := by decide

theorem smoke_writeNext : (Instr.writeNext .service 0 6 [1, 2, 3, 4, 5, 6]).wellFormed = true ∧
    (Instr.writeNext .service 0 7 [1, 2, 3, 4, 5, 6, 7]).wellFormed = false := by decide

theorem smoke_mirrorAccess : (Instr.mirrorAccess .service 0 (.read 0xA000 4)).wellFormed = true ∧
    (Instr.mirrorAccess .service 0 (.command 1 0)).wellFormed = false ∧
    (Instr.mirrorAccess .service 0 (.write 0xA000 5 [1, 2, 3, 4, 5])).wellFormed = false := by decide

theorem smoke_unknownRequest : (Instr.unknownRequest .service 0 7 0).wellFormed = true ∧
    (Instr.unknownRequest .service 0 6 21).wellFormed = true ∧
    (Instr.unknownRequest .service 0 6 20).wellFormed = false ∧
    (Instr.unknownRequest .service 0 1 0).wellFormed = false := by decide

/-! ### Witnesses: states and operands that meet the hypotheses of each statement -/

theorem witness_StepTakesTheFront :
    ((State.reset.setPending [.encoderPulse, .groupRead 0]).pending =
      .encoderPulse :: [.groupRead 0]) ∧
    (({ State.reset with sys := { State.reset.sys with powered := false } }.sys.powered = false) ∧
    (State.reset.pending = [] ∧ State.reset.sys.powered = true ∧
      (State.reset.reach 1023).dueEvent = none) ∧
    ((State.reset.reach 1024).pending = [] ∧
      (State.reset.reach 1024).dueEvent = some (.periodEnd 0))) := by
  and_intros <;> decide +kernel

/-- The Agent holds its head, with some requests in its queue. -/
def holdingHead (n : Nat) : State :=
  ready.setAgent { Agent.start with
    hold := .table, queue := List.replicate n ⟨.service, 2, 3, .command 3 0⟩ }

theorem witness_EveryCommandRuns : live ready ∧ ([1] : List Byte).length < 2 ∧
    ([] : List Byte).length < 2 := by decide

/-- Behind a held head the request of the write's kind waits with the four zero bytes behind its code:
address 05h, length 0, and the two data bytes that remain (log entry 1, 12 R186). -/
theorem test_unknownRequest_waits :
    ∀ c ∈ [Instr.unknownRequest .service 2 2 5, .write .service 2 5 0 [0, 0]],
      (after (exec c (holdingHead 1))).bind (·.agent.queue.getLast?) =
        some ⟨.service, 2, 2, .write 5 0 [0, 0]⟩ := by decide +kernel

/-- A part in motion: the packer extends with a grant, one valve follows it, and a pulse waits. -/
def moving : State :=
  withPacker { Packer.start with state := .extending, stallTimer := .running 400000 }
    { served 0 [(0x6289C, 0xB1), (0x6289D, 7), (0x6289E, 200)] with
      arbiter := { State.reset.arbiter with
        req := ⟨Tri.all none, some ⟨.extending, 60, 20⟩, none⟩, grant := ⟨Tri.all 0, 60, 0⟩ }
      channels := State.reset.channels.set 1 ⟨0, 200, 8, 0, 0, .running 1024⟩
      pending := [.encoderPulse] }

/-- The Side Arm may start: input 0 is its Stowed input. -/
def startable : State := served 1 [(0x625C0, 1)]

/-- The Side Arm at rest with its Start given: the beacon's condition begins in the step. -/
def starting : State := startable.setPending [.cycleStart (.input .sideArm)]

theorem witness_TogglesFollowKept :
    togglesFollow moving ∧ (after (step moving)).isSome = true ∧
    togglesFollow starting ∧ starting.toggles.beacon.on = false ∧
    (after (step starting)).map (fun t => t.toggles.beacon.on) = some true := by
  unfold togglesFollow ToggleState.steady
  and_intros <;> decide +kernel

theorem witness_StoresWellKept : storesWell moving ∧ ∃ t, step moving = .next t :=
  ⟨by decide +kernel, _, rfl⟩

/-- The packer extends with a grant, and its Permit falls at the hold timer's expiry that waits. -/
def masking : State :=
  { (moving.setSlot .ptoEngaged ⟨.holding, 1, .stopped, .running 5, 0, 0, 0, .none⟩) with
    pending := [.slotHoldTimerExpiry .ptoEngaged] }

theorem witness_GrantsFitKept :
    (grantsFit moving ∧ masksHold moving ∧ groupWhole moving ∧ ∃ t, step moving = .next t) ∧
    (grantsFit masking ∧ masksHold masking ∧ groupWhole masking ∧ masking.grant .packer = 60 ∧
      (after (step masking)).map (fun t => (t.masked .packer, t.grant .packer)) = some (true, 0)) := by
  have masks (s : State) (h : ∀ r ∈ requesters, s.masked r = true → s.grant r = 0) : masksHold s := by
    rintro (st | _ | _)
    · cases st <;> exact h _ (by decide)
    · exact h _ (by decide)
    · exact h _ (by decide)
  unfold groupWhole
  exact ⟨⟨by decide +kernel, masks _ (by decide +kernel), by decide +kernel, _, rfl⟩,
    ⟨by decide +kernel, masks _ (by decide +kernel), by decide +kernel, by decide +kernel,
      by decide +kernel⟩⟩

theorem witness_ValvesFollowKept : valvesFollow moving ∧ ∃ t, step moving = .next t :=
  ⟨by unfold valvesFollow; decide +kernel, _, rfl⟩

theorem witness_DumpClearKept : dumpClear moving ∧ packerOrderly moving ∧ moving.packer.state = .extending ∧
    ∃ t, step moving = .next t :=
  ⟨fun _ st => by cases st <;> decide,
    ⟨by decide +kernel, by decide +kernel, fun _ _ _ => by decide +kernel, by decide +kernel⟩,
    by decide +kernel, _, rfl⟩

/-- Markers of every kind that a start can find. -/
def marked (m : TailgateMarker) : State :=
  { State.reset with
    markers := ⟨Marker.clear, { Marker.clear with furthest := .started },
      { Marker.clear with furthest := .dumped }⟩
    tailgate := { Tailgate.start with marker := m } }

/-- The same markers with a journal that shows a walk, the dumped lift's household in the table or none. -/
def walking (account : Nat) : State :=
  { marked .ejecting with
    markers := ⟨Marker.clear, { Marker.clear with furthest := .started },
      { Marker.clear with furthest := .dumped, account := account }⟩
    table := { Table.cold with recordCount := 2, journal := ⟨.openPeriod, 0, 1, []⟩ } }

theorem witness_WarmStartMarkers : ((marked .ejecting).table.busy = false ∧
      ((marked .ejecting).marker .sideArm).furthest = .clear ∧
      ((marked .ejecting).marker .rearRight).furthest ≠ .clear ∧
      (marked .ejecting).tailgate.marker = .ejecting) ∧
    ((marked .clear).table.busy = false ∧ (marked .clear).tailgate.marker = .clear) ∧
    ((walking 1).table.busy = true ∧ ((walking 1).marker .rearRight).furthest = .dumped ∧
      ((walking 1).marker .rearRight).account ≠ 0 ∧ (walking 1).tailgate.marker = .ejecting) ∧
    ((walking 0).table.busy = true ∧
      ∀ st, ¬ (((walking 0).marker st).furthest = .dumped ∧ ((walking 0).marker st).account ≠ 0)) := by
  and_intros <;> first | decide +kernel | (intro st; cases st <;> decide +kernel)

/-- A Body Reset whose response has left. -/
def resetting : State :=
  { State.reset with
    agent := { Agent.start with hold := .bodyReset }
    sys := { State.reset.sys with kgood := true } }

/-- A part in service whose table has some state, Record Count and journal. -/
def kept (st : TableState) (count : Nat) (j : Journal) : State :=
  { ready with table := { Table.cold with state := st, recordCount := count, journal := j } }

theorem witness_RetainedKept :
    (ready.table.busy = false ∧ ready.table.state ≠ .checking ∧
      (∀ st : Station, (ready.marker st).furthest = .clear) ∧ ready.tailgate.marker = .clear) ∧
    (let s := kept .closed 2 ⟨.delete, 0, 0, []⟩
     s.table.busy = true ∧ (∀ st : Station, (s.marker st).furthest = .clear) ∧
      s.tailgate.marker = .clear) ∧
    ((kept .checking 0 Journal.clear).table.busy = false ∧
      (kept .checking 0 Journal.clear).table.recordCount = 0) ∧
    (12288 < (kept .checking 12289 Journal.clear).table.recordCount ∧
      (kept .checking 12288 Journal.clear).table.busy = false ∧
      (kept .checking 12288 Journal.clear).table.state = .checking ∧
      0 < (kept .checking 12288 Journal.clear).table.recordCount ∧
      (kept .checking 12288 Journal.clear).table.recordCount ≤ 12288) ∧
    (live resetting ∧ resetting.resetDue = true ∧ resetting.sys.kgood = true) ∧
    (live ready ∧ ready.resetDue = false) := by
  and_intros <;> first | decide +kernel | (intro st; cases st <;> decide +kernel)

/-- The part with both Default Actions Forward and some frames waiting in the body's Forward Queue. -/
def forwarding (n : Nat) : State :=
  { served 0 [(0x62500, 1), (0x62501, 1)] with
    body := { PortState.start with forward := List.replicate n ⟨frame8, none⟩ } }

/-- A Body Port frame of a class from a node: its priority 6, to the part, with tag 5. -/
def delivered (k : BodyClass) (src : Byte) (data : List Byte) : Frame := 
  ⟨true, bodyLinkId 6 k.code 16 src 5, data⟩

/-- A frame that takes its port's Default Action, and one of each class the part has. -/
theorem witness_ReceivedFrames :
    (live ready ∧ agentRests ready ∧ frame8.wf = true ∧ (ready.port .body).off = false ∧
      notDelivered ready .body frame8 ∧ ready.cfg.findRoute .body frame8 = none ∧
      ready.cfg.defaultForward .body = false) ∧
    (live (forwarding 16) ∧ agentRests (forwarding 16) ∧
      (forwarding 16).cfg.findRoute .chassis frame8 = none ∧
      (forwarding 16).canForward .body = false) ∧
    (live (forwarding 15) ∧ notDelivered (forwarding 15) .chassis frame8 ∧
      (forwarding 15).cfg.findRoute .chassis frame8 = none ∧
      (forwarding 15).cfg.defaultForward .chassis = true ∧
      (forwarding 15).canForward .body = true) ∧
    State.reset.mode.configuring = true ∧
    (∀ x ∈ [delivered .weighSample 40 [1, 2, 3, 4, 5, 6], delivered .attitude 48 [1, 2, 3, 4],
        delivered .tagRead 32 [1, 2, 3, 4, 5, 6, 0], delivered .operatorCommand 8 [8, 2],
        delivered .operatorCommand 8 [9, 2], delivered .operatorCommand 9 [1, 0],
        delivered .managementRequest 2 [1, 0], delivered .nodeData 77 [1, 0]],
      x.wf = true ∧ ready.addressed x = true ∧ ready.cfg.findRoute .body x = none ∧
        ∃ c ∈ frameClass x, ∃ n ∈ c.minLength, n ≤ x.data.length) ∧
    (let x := delivered .attitude 48 [1, 2, 3]
     x.wf = true ∧ ready.addressed x = true ∧ frameClass x = some .attitude ∧
      BodyClass.attitude.minLength = some 4 ∧ ready.cfg.findRoute .body x = none ∧
      x.data.length < 4) ∧
    ready.cfg.cabNode = (8 : Byte).toNat ∧ ready.cfg.cabNode ≠ (9 : Byte).toNat ∧
    idTag (delivered .operatorCommand 8 [8, 2]).id = 5 := by
  and_intros <;> decide +kernel

/-- The part with the last Route Table entry alone, which matches every chassis frame. -/
def routed (action interval : Byte) (t : Timer) : State :=
  { served 0 ([(0x624EC, 1)] ++ (if action = 0 then [] else [(0x624ED, action)]) ++
      (if interval = 0 then [] else [(0x624EF, interval)])) with
    routes := State.reset.routes.set 63 ⟨t, none, 0, 0⟩ }

theorem witness_RoutedFrame :
    (live (routed 0 0 .stopped) ∧ agentRests (routed 0 0 .stopped) ∧ frame8.wf = true ∧
      notDelivered (routed 0 0 .stopped) .chassis frame8 ∧
      (routed 0 0 .stopped).mode.configuring = false ∧
      (routed 0 0 .stopped).cfg.findRoute .chassis frame8 = some 63 ∧
      (routed 0 0 .stopped).cfg.routeAction 63 = .drop) ∧
    (live (routed 2 0 .stopped) ∧ (routed 2 0 .stopped).cfg.findRoute .chassis frame8 = some 63 ∧
      (routed 2 0 .stopped).cfg.routeAction 63 = .translate ∧
      (routed 2 0 .stopped).cfg.routeInterval 63 = 0 ∧
      (routed 2 0 .stopped).canForward .body = true) ∧
    (live (routed 1 255 (.running 9)) ∧
      (routed 1 255 (.running 9)).cfg.findRoute .chassis frame8 = some 63 ∧
      (routed 1 255 (.running 9)).cfg.routeAction 63 = .forward ∧
      (routed 1 255 (.running 9)).cfg.routeInterval 63 ≠ 0 ∧
      ((routed 1 255 (.running 9)).route 63).timing.isRunning = true ∧
      ((routed 1 255 (.running 9)).port .body).off = false) ∧
    (live (routed 1 255 .stopped) ∧
      ((routed 1 255 .stopped).route 63).timing.isRunning = false ∧
      (routed 1 255 .stopped).canForward .body = true) ∧
    (let s := { routed 1 255 .stopped with body := (forwarding 16).body }
     live s ∧ s.cfg.findRoute .chassis frame8 = some 63 ∧ (s.port .body).off = false ∧
      (s.route 63).timing.isRunning = false ∧ s.canForward .body = false) ∧
    (let s := { routed 2 0 .stopped with body := (forwarding 16).body }
     live s ∧ s.cfg.findRoute .chassis frame8 = some 63 ∧ s.cfg.routeInterval 63 = 0 ∧
      s.canForward .body = false) ∧
    (let s := { routed 1 255 .stopped with body := { PortState.start with off := true } }
     live s ∧ (s.port .body).off = true ∧ (s.port .chassis).off = false) := by
  and_intros <;> decide +kernel

/-- The body port sends the head of its Control Queue. -/
def sending (txErr : Nat) : State :=
  { ready with
    body := { PortState.start with tx := some .first, txErr := txErr }
    control := [⟨frame8, false⟩] }

/-- The chassis port Off, with its recovery timer running. -/
def offBus : State := { ready with chassis := { PortState.start with off := true, recovery := .running 250000 } }

/-- The chassis port Active again, waiting for 11 recessive bits. -/
def waitsBits : State := { ready with chassis := { PortState.start with waitRecessive := true } }

/-- The body port on the point of going Off, with a forwarded frame of a route and one of Default origin,
a full hold slot toward it, and a status frame in its Control Queue. -/
def failing : State :=
  { sending 248 with
    body := { (sending 248).body with forward := [⟨frame8, some 63⟩, ⟨frame8, none⟩] }
    routes := State.reset.routes.set 63 ⟨.running 10000, some frame8, 0, 7⟩ }

theorem witness_BusEvents :
    (live (sending 247) ∧ ((sending 247).port .body).tx = some .first ∧
    ((sending 247).port .body).off = false ∧ ((sending 247).port .body).waitRecessive = false ∧
    ((sending 247).port .body).txErr + 8 ≤ 255 ∧ (sending 247).firstWaits .body = true) ∧
    (live (sending 248) ∧ ((sending 248).port .body).tx.isSome = true ∧
    255 < ((sending 248).port .body).txErr + 8) ∧
    ((live ready ∧ (ready.port .chassis).off = false) ∧
    (live offBus ∧ (offBus.port .chassis).off = true ∧ frame8.wf = true ∧
      (offBus.port .chassis).recovery = .running 250000) ∧
    (live waitsBits ∧ (waitsBits.port .chassis).waitRecessive = true)) ∧
    (live failing ∧ (failing.port .body).tx.isSome = true ∧ 255 < (failing.port .body).txErr + 8 ∧
      failing.cfg.routeIngress 63 = .chassis ∧ failing.agent.notices.getLsbD 11 = false ∧
      (after (exec (.transmitError .body) failing)).map (fun t =>
        ((t.route 63).dropped, (t.route 63).held, (t.port .body).unrouted)) = some (9, none, 1)) := by
  and_intros <;> decide +kernel

/-- A limited route in Timing that holds a frame, with some frames in its egress queue. -/
def limited (held : Option Frame) (n : Nat) : State :=
  { forwarding n with routes := State.reset.routes.set 63 ⟨.running 10000, held, 0, 0⟩ }

/-- A slot with a timer that runs, with Hold Time 0 or 1. -/
def ageing (hold : Bool) (x : Slot) : State :=
  (served 0 (if hold then [(0x62514, 1)] else [])).setSlot .roadSpeed x

/-- Whether a change of outputs reaches the functions, and whether it serves a pending pack (R29, R166). -/
def handsWhat (u : State) : Bool × Bool :=
  (u.signals.flowDiffers u.outputs,
    u.outputs.packPermit && !u.signals.packPermit && u.packer.packPending && u.packer.state == .parked &&
      u.tailgate.state == .closed && stations.all fun st => (u.lift st).state != .dump)

/-- Road Speed in Degraded. -/
def slowed (s : State) : State :=
  s.setSlot .roadSpeed { s.slot .roadSpeed with
    state := .degraded, value := 0, hold := .stopped, degrades := bump (s.slot .roadSpeed).degrades }

/-- PTO Engaged is set and Road Speed in Holding until 5 µs, with a pack pending and no Permit yet. -/
def permitRises : State :=
  { ((ageing true ⟨.holding, 9, .stopped, .running 5, 0, 0, 0, .none⟩).setSlot .ptoEngaged
      ⟨.fresh, 1, .stopped, .stopped, 0, 0, 0, .none⟩).setPacker
      { Packer.start with packPending := true } with signals := Signals.start }

theorem witness_RouterTimers :
    (((live ready ∧ ready.statusTimer = .running 500000 ∧ ready.chassis.off = false) ∧
    (live offBus ∧ offBus.statusTimer = .running 500000 ∧ offBus.chassis.off = true) ∧
    (live (limited none 0) ∧ ((limited none 0).route 63).timing = .running 10000 ∧
      ((limited none 0).route 63).held = none) ∧
    (live (limited (some frame8) 16) ∧ ((limited (some frame8) 16).route 63).held = some frame8 ∧
      ((limited (some frame8) 16).route 63).timing = .running 10000 ∧
      (limited (some frame8) 16).canForward
        ((limited (some frame8) 16).cfg.routeIngress 63).other = false) ∧
    (live (limited (some frame8) 15) ∧ ((limited (some frame8) 15).route 63).held = some frame8 ∧
      ((limited (some frame8) 15).route 63).timing = .running 10000 ∧
      (limited (some frame8) 15).canForward
        ((limited (some frame8) 15).cfg.routeIngress 63).other = true)) ∧
    ((live (ageing true ⟨.fresh, 9, .running 5, .stopped, 0, 0, 0, .none⟩) ∧
      ((ageing true ⟨.fresh, 9, .running 5, .stopped, 0, 0, 0, .none⟩).slot .roadSpeed).fresh =
        .running 5 ∧
      (ageing true ⟨.fresh, 9, .running 5, .stopped, 0, 0, 0, .none⟩).cfg.slotHoldTime .roadSpeed ≠
        0) ∧
    (live (ageing false ⟨.fresh, 9, .running 5, .stopped, 0, 0, 0, .none⟩) ∧
      (ageing false ⟨.fresh, 9, .running 5, .stopped, 0, 0, 0, .none⟩).cfg.slotHoldTime .roadSpeed =
        0) ∧
    (live (ageing true ⟨.holding, 9, .stopped, .running 5, 0, 0, 0, .none⟩) ∧
      ((ageing true ⟨.holding, 9, .stopped, .running 5, 0, 0, 0, .none⟩).slot .roadSpeed).hold =
        .running 5)) ∧
    (let x : Slot := ⟨.holding, 9, .stopped, .running 5, 0, 0, 0, .none⟩
     (live (State.reset.setSlot .roadSpeed x) ∧ handsWhat (slowed (State.reset.setSlot .roadSpeed x)) =
       (false, false)) ∧
      handsWhat (slowed (ageing true x)) = (true, false) ∧
      (live permitRises ∧ (permitRises.slot .roadSpeed).hold = .running 5 ∧
        handsWhat (slowed permitRises) = (true, true) ∧ permitRises.role .pressureMax = false ∧
        (after (exec (.slotHoldTimerExpiry .roadSpeed) permitRises)).map (fun t =>
          (t.packer.state, t.packer.packPending)) = some (.extending, false)))) := by
  and_intros <;> decide +kernel

/-- The last Route Table entry taps Park Brake from byte 7, of the default length of 8 bits, and goes on
or not. -/
def tappingOn (action : Byte) : State :=
  served 0 [(0x624EC, 1), (0x624ED, action), (0x624EE, 1), (0x62524, 7)]

/-- It goes no further. -/
def tapping : State := tappingOn 3

/-- The last Route Table entry taps Chassis Time from bytes 0 to 3, with a clock. -/
def timeTapping (c : Clock) : State :=
  served 0 [(0x624EC, 1), (0x624ED, 3), (0x624EE, 5), (0x62576, 32)] |>.setClock c

/-- It taps PTO Engaged from byte 0, with a pack pending and no Permit yet. -/
def permitTapping : State :=
  { (served 0 [(0x624EC, 1), (0x624ED, 3), (0x624EE, 2)]).setPacker
      { Packer.start with packPending := true } with signals := Signals.start }

theorem witness_TapTaken :
    (let f : Frame := ⟨true, 1, List.replicate 8 1⟩
     live permitTapping ∧ permitTapping.cfg.findRoute .chassis f = some 63 ∧
      permitTapping.cfg.routeTap 63 = some .ptoEngaged ∧
      permitTapping.cfg.rawField .ptoEngaged f.data = some 1 ∧
      permitTapping.cfg.slotValue .ptoEngaged 1 = some 1 ∧
      handsWhat (permitTapping.setSlot .ptoEngaged ⟨.fresh, 1, .stopped, .stopped, 0, 0, 0, .none⟩) =
        (true, true) ∧
      permitTapping.role .pressureMax = false ∧
      (after (exec (.frameReceived .chassis f) permitTapping)).map (fun t =>
        (t.packer.state, t.packer.packPending)) = some (.extending, false)) ∧
    (live tapping ∧ agentRests tapping ∧ frame8.wf = true ∧ (tapping.port .chassis).off = false ∧
      notDelivered tapping .chassis frame8 ∧ tapping.mode.configuring = false ∧
      tapping.cfg.findRoute .chassis frame8 = some 63 ∧ tapping.cfg.routeAction 63 = .tap ∧
      tapping.cfg.routeTap 63 = some .parkBrake) ∧
    (tapping.cfg.findRoute .chassis ⟨true, 1, List.replicate 7 0⟩ = some 63 ∧
      tapping.cfg.rawField .parkBrake (List.replicate 7 0) = none) ∧
    (tapping.cfg.rawField .parkBrake frame8.data = some 8 ∧
      tapping.cfg.slotValue .parkBrake 8 = none) ∧
    (tapping.cfg.findRoute .chassis ⟨true, 1, List.replicate 8 1⟩ = some 63 ∧
      tapping.cfg.rawField .parkBrake (List.replicate 8 1) = some 1 ∧
      tapping.cfg.slotValue .parkBrake 1 = some 1 ∧ SlotId.parkBrake ≠ .chassisTime) ∧
    (∀ a ∈ [(4 : Byte), 5], live (tappingOn a) ∧ agentRests (tappingOn a) ∧
      notDelivered (tappingOn a) .chassis frame8 ∧
      (tappingOn a).cfg.findRoute .chassis frame8 = some 63 ∧
      ((tappingOn a).cfg.routeAction 63).taps = true ∧ (tappingOn a).cfg.routeAction 63 ≠ .tap ∧
      (tappingOn a).cfg.routeTap 63 = some .parkBrake) ∧
    (∀ c ∈ [Clock.cold 0, { Clock.cold 0 with seconds := 100, valid := true }],
      let s := timeTapping c
      live s ∧ storesWell s ∧ s.cfg.findRoute .chassis ⟨true, 1, [103, 0, 0, 0]⟩ = some 63 ∧
        s.cfg.routeTap 63 = some .chassisTime ∧
        s.cfg.rawField .chassisTime [103, 0, 0, 0] = some 103 ∧
        s.cfg.slotValue .chassisTime 103 = some 103 ∧ s.cfg.syncTolerance < 103 - 100 ∧
        s.cfg.slotValue .chassisTime 0 = some 0 ∧
        s.cfg.slotValue .chassisTime 102 = some 102 ∧ 102 - 100 ≤ s.cfg.syncTolerance) := by
  and_intros <;> decide +kernel

/-- The scanner before its group 3 read, with an input two samples into a change. -/
def scanning : State :=
  { ready with scanner := { ready.scanner with
      pointer := 3, nextRead := .running 8000, disagree := ready.scanner.disagree.set 31 2 } }

/-- The part in the group 3 read that ends a full scan before Scan Ready, on some filtered states. -/
def lastRead (scans : Nat) (filtered : BitVec 32) (s : State) : State :=
  { s with scanner := { s.scanner with
      pointer := 3, scans := scans, ready := false, filtered := filtered, published := 0
      nextRead := .running 8000 } }

/-- Input 8 is Packer Home, and a Debounce Count of 3. -/
def homed : State := served 0 [(0x625C8, 8)]

/-- A packer at rest is orderly. -/
theorem orderly_at_rest {s : State} (h : s.packer.state = .parked ∧ s.packer.packPending = false ∧
    s.packer.stallTimer.isRunning = false ∧ s.packer.dwellTimer.isRunning = false ∧
    s.packer.pauseTimer.isRunning = false ∧ s.packer.limitTimer.isRunning = false ∧
    s.request .packer = none) : packerOrderly s := by
  refine ⟨fun x => ?_, fun x => ?_, fun q x => ?_, fun _ => h⟩
  · simp [h.2.2.1] at x
  · simp [h.2.2.2.1] at x
  · simp [h.2.2.2.2.2.2] at x

/-- The read of group 3, with its lines at 0, gives a scan count, Scan Ready, the packer's state, and the
published states and pair errors. -/
def endsScan (s : State) (scans : Nat) (ready : Bool) (p : PackerState) (published : BitVec 32)
    (pairs : BitVec 8) : Bool :=
  (after (exec (.groupRead 0) s)).any fun t => t.scanner.scans == scans && t.scanner.ready == ready &&
    t.packer.state == p && t.scanner.published == published && t.scanner.pairErrors == pairs

/-- Unready, away from home, at home, not Configured, with an unload in progress, and with a pair error. -/
def lastReads : List State :=
  [lastRead 1 0 homed, lastRead 2 0 homed, lastRead 2 0x100 homed, lastRead 2 0 State.reset,
    lastRead 2 0 (withTailgate { Tailgate.start with marker := .closing } homed),
    lastRead 2 7 (served 0 [(0x625C0, 1), (0x625E8, 1), (0x625EA, 1)])]

theorem witness_GroupRead :
    (∀ s ∈ lastReads, packerOrderly s) ∧
    (∀ s ∈ lastReads, live s ∧ s.scanner.nextRead = .running 8000 ∧ s.scanner.pointer = 3 ∧
      s.scanner.ready = false ∧ s.cfg.debounceCount = 3 ∧ s.billing.list = [] ∧
      s.stationMoving .sideArm = false) ∧
    (endsScan (lastRead 1 0 homed) 2 false .parked 0 0 = true ∧
      endsScan (lastRead 2 0 homed) 3 true .fault 0 0 = true ∧
      endsScan (lastRead 2 0x100 homed) 3 true .parked 0x100 0 = true ∧
      endsScan (lastRead 2 0 State.reset) 3 true .parked 0 0 = true ∧
      endsScan (lastRead 2 0 (withTailgate { Tailgate.start with marker := .closing } homed)) 3 true
        .parked 0 0 = true ∧
      endsScan (lastRead 2 7 (served 0 [(0x625C0, 1), (0x625E8, 1), (0x625EA, 1)])) 3 true .fault 7 1 =
        true) ∧
    (live State.reset ∧ State.reset.scanner.nextRead = .running 2000 ∧
      State.reset.scanner.pointer < 4 ∧ (31 : Fin 32).val / 8 ≠ State.reset.scanner.pointer) ∧
    (live scanning ∧ scanning.scanner.nextRead = .running 8000 ∧ scanning.scanner.pointer < 4 ∧
      (31 : Fin 32).val / 8 = scanning.scanner.pointer ∧ scanning.scanner.ready = true ∧
      scanning.cfg.effectiveCount 31 ≤ scanning.scanner.disagree[(31 : Fin 32)] + 1 ∧
      scanning.scanner.disagree[(30 : Fin 32)] + 1 < scanning.cfg.effectiveCount 30) := by
  refine ⟨fun s h => orderly_at_rest ?_, ?_⟩
  · revert s
    decide +kernel
  · and_intros <;> decide +kernel

/-- A station in motion. -/
def raising : State := withLift .sideArm { Lift.start with state := .raise, record := some record } ready

/-- Every function in Fault, with the inputs ready and a pair error of a station, or not. -/
def faulted (pairs : BitVec 8) : State :=
  let s := served 0 [(0x625C0, 1), (0x625C1, 7), (0x625C2, 10), (0x625E8, 1), (0x625EC, 1),
    (0x625ED, 1), (0x625F0, 1), (0x625F1, 2)]
  let s := { s with scanner := { s.scanner with pairErrors := pairs } }
  withLift .sideArm { Lift.start with state := .fault } (withPacker { Packer.start with state := .fault }
    (withTailgate { Tailgate.start with state := .fault } s))

/-- Every function at rest, with pair errors. -/
def erring (pairs : BitVec 8) : State :=
  let s := served 0 [(0x625C0, 1), (0x625C1, 7), (0x625C2, 10), (0x625E8, 1), (0x625EC, 1),
    (0x625ED, 1), (0x625F0, 1), (0x625F1, 2)]
  { s with scanner := { s.scanner with pairErrors := pairs } }

theorem witness_RefusalsChangeNothing :
    ((live raising ∧ controlOpen raising ∧ (raising.lift .sideArm).state ≠ .idle) ∧
    (live State.reset ∧ controlOpen State.reset ∧ (State.reset.lift .sideArm).state = .idle ∧
      State.reset.startRefusal .sideArm = some .notReady ∧
      State.reset.startRefusal .rearRight = some .notReady) ∧ 2 < (3 : Byte).toNat) ∧
    ((live ready ∧ controlOpen ready ∧ 2 < (3 : Byte).toNat ∧
      Station.ofNum (2 : Byte).toNat = some .rearRight ∧ (ready.lift .rearRight).state ≠ .hold ∧
      (ready.lift .rearRight).state ≠ .fault ∧ ready.packer.state ≠ .fault ∧
      ready.tailgate.state ≠ .fault ∧ 8 < (9 : Byte).toNat) ∧
    (live (faulted 1) ∧ controlOpen (faulted 1) ∧ ((faulted 1).lift .sideArm).state = .fault ∧
      (faulted 1).scanOk = true ∧ (faulted 1).pairErrorOf (.station .sideArm) = true) ∧
    (let s := { faulted 0 with scanner := State.reset.scanner }
     live s ∧ (s.lift .sideArm).state = .fault ∧ s.scanOk = false ∧ s.canStart = false ∧
      s.packer.state = .fault ∧ s.tailgate.state = .fault) ∧
    (live (erring 2) ∧ (erring 2).canStart = true ∧ (erring 2).pairErrorOf .packer = true) ∧
    (live (faulted 0) ∧ (faulted 0).canStart = true ∧ (faulted 0).pairErrorOf .packer = false ∧
      (faulted 0).packer.state = .fault ∧ (faulted 0).tailgate.state ≠ .closed) ∧
    (live (erring 4) ∧ (erring 4).canStart = true ∧ (erring 4).tailgate.state = .closed ∧
      (erring 4).pairErrorOf .tailgate = true) ∧
    (live ready ∧ ready.canStart = true ∧ ready.tailgate.state = .closed ∧
      ready.pairErrorOf .tailgate = false ∧ ready.signals.tailgatePermit = false) ∧
    (let s := withPacker { Packer.start with state := .dwelling } (served 0 [])
     live s ∧ s.canStart = true ∧ s.tailgate.state = .closed ∧ s.pairErrorOf .tailgate = false ∧
      s.signals.tailgatePermit = true ∧ s.packer.state ≠ .parked) ∧
    (live (faulted 2) ∧ (faulted 2).scanOk = true ∧ (faulted 2).packer.state = .fault ∧
      (faulted 2).pairErrorOf .packer = true) ∧
    (live (faulted 4) ∧ (faulted 4).scanOk = true ∧ (faulted 4).tailgate.state = .fault ∧
      (faulted 4).pairErrorOf .tailgate = true)) := by
  and_intros <;> decide +kernel

/-- A station in Hold with a wait, and with Blade Clear active or not. -/
def holding (w : WaitKind) (blade : Bool) : State :=
  withLift .rearLeft { Lift.start with
      state := .hold, wait := w, record := some record, holdTimer := .running 60000000 }
    (served (if blade then 1 else 0) [(0x625C0, 7)])

theorem witness_HoldToLower : live (holding .lookup false) ∧ controlOpen (holding .lookup false) ∧
    ((holding .lookup false).lift .rearLeft).state = .hold ∧
    ((holding .lookup false).lift .rearLeft).record = some record ∧
    (holding .lookup false).stationRole .lowered .rearLeft = false ∧
    Station.ofNum (1 : Byte).toNat = some .rearLeft ∧
    ((holding .lookup false).lift .rearLeft).holdTimer = .running 60000000 := by
  and_intros <;> decide +kernel

theorem witness_OverrideHold :
    (live ready ∧ controlOpen ready ∧ Station.ofNum (1 : Byte).toNat = some .rearLeft ∧
      (ready.lift .rearLeft).state ≠ .hold) ∧
    (live (holding .blade false) ∧ ((holding .blade false).lift .rearLeft).state = .hold ∧
      ((holding .blade false).lift .rearLeft).wait = .blade) ∧
    (live (holding .status false) ∧ ((holding .status false).lift .rearLeft).state = .hold ∧
      ((holding .status false).lift .rearLeft).wait = .status ∧
      ((holding .status false).lift .rearLeft).record = some record ∧
      (holding .status false).bladeOk = false) ∧
    (live (holding .identity true) ∧ controlOpen (holding .identity true) ∧
      ((holding .identity true).lift .rearLeft).wait = .identity ∧
      ((holding .identity true).lift .rearLeft).record = some record ∧
      (holding .identity true).bladeOk = true) := by
  and_intros <;> decide +kernel

/-- A station in Fault, at its home position or not. -/
def atFault (home : Bool) : State :=
  withLift .sideArm { Lift.start with state := .fault }
    (served (if home then 1 else 0) [(0x625C0, 1)])

theorem witness_StationLeavesRest :
    (live startable ∧ storesWell startable ∧
    (startable.lift .sideArm).state = .idle ∧ startable.startRefusal .sideArm = none ∧
    controlOpen startable ∧ (startable.scale .sideArm).capture.isRunning = false) ∧
    ((live (atFault true) ∧ controlOpen (atFault true) ∧
      Station.ofNum (0 : Byte).toNat = some .sideArm ∧
      ((atFault true).lift .sideArm).state = .fault ∧ (atFault true).scanOk = true ∧
      (atFault true).pairErrorOf (.station .sideArm) = false ∧
      (atFault true).atHome .sideArm = true ∧
      (atFault true).request (.station .sideArm) = none) ∧
    (live (atFault false) ∧ ((atFault false).lift .sideArm).state = .fault ∧
      (atFault false).scanOk = true ∧ (atFault false).atHome .sideArm = false)) := by
  and_intros <;> decide +kernel

/-- A station in Dump with its sequence timer running. -/
def dumping (p : DumpPhase) : State :=
  withLift .sideArm { Lift.start with
      state := .dump, sub := p, record := some record, seqTimer := .running 300000 }
    (served 0 [])

theorem witness_DumpSequence :
    (live (dumping (.shakeUp 1)) ∧ ((dumping (.shakeUp 1)).lift .sideArm).seqTimer = .running 300000 ∧
      ((dumping (.shakeUp 1)).lift .sideArm).sub = .shakeUp 1) ∧
    (live (dumping (.shakeBack 1)) ∧ ((dumping (.shakeBack 1)).lift .sideArm).sub = .shakeBack 1 ∧
      1 < (dumping (.shakeBack 1)).cfg.shakeCount .sideArm) ∧
    (live (dumping (.shakeBack 2)) ∧ ((dumping (.shakeBack 2)).lift .sideArm).sub = .shakeBack 2 ∧
      (dumping (.shakeBack 2)).cfg.shakeCount .sideArm ≤ 2) ∧
    (live (dumping .dumpUp) ∧ ((dumping .dumpUp).lift .sideArm).state = .dump ∧
      ((dumping .dumpUp).lift .sideArm).sub = .dumpUp ∧
      (dumping .dumpUp).packer.packPending = false ∧
      (dumping .dumpUp).stationRole .lowered .sideArm = false) := by
  and_intros <;> decide +kernel

/-- A station in Raise with its phase timer or its pause timer running. -/
def timed (requested : Bool) : State :=
  withLift .sideArm { Lift.start with
      state := .raise, record := some { record with requested := requested }
      phaseTimer := .running 15000000, pauseTimer := .running 30000000 }
    (served 0 [])

theorem witness_StationTimeouts :
    (live (timed false) ∧ storesWell (timed false) ∧ (timed false).billing.list = [] ∧
      (timed false).billing.waiting = none ∧ (timed false).table.moving = false ∧
      (timed false).packer.packPending = false ∧
      (timed false).cfg.noticeModes.getLsbD 4 = false ∧
      (timed false).agent.notices.getLsbD 4 = false ∧
      ((timed false).lift .sideArm).state.timeout = some .raiseTimeout ∧
      ((timed false).lift .sideArm).phaseTimer = .running 15000000 ∧
      ((timed false).lift .sideArm).pauseTimer = .running 30000000 ∧
      ((timed false).lift .sideArm).record = some record ∧ record.requested = false) ∧
    (let s := (timed false).setAgent { Agent.start with spacing := .running 100000 }
     let p := { s with cfg := [(0x629B4, 16)] }
     live p ∧ storesWell p ∧ p.cfg.noticeModes.getLsbD 4 = true ∧
      p.agent.spacing.isRunning = true) ∧
    (live (timed true) ∧ storesWell (timed true) ∧ (timed true).billing.list = [] ∧
      ((timed true).lift .sideArm).record = some { record with requested := true }) := by
  and_intros <;> decide +kernel

/-- The packer extends, at some stroke, with Dwell Time 1 or 0. -/
def extending (stroke : Nat) (dwell : Byte) : State :=
  withPacker { Packer.start with
      state := .extending, stroke := stroke, stallTimer := .running 400000
      limitTimer := .running 15000000, pauseTimer := .running 30000000 }
    (served 0 [(0x62953, dwell)])

theorem witness_PackerExtends :
    ((live ready ∧ controlOpen ready ∧ ready.canStart = true ∧ ready.pairErrorOf .packer = false ∧
      ready.packer.state ≠ .fault ∧ ready.packReady = false) ∧
    (live (served 0 []) ∧ controlOpen (served 0 []) ∧ (served 0 []).canStart = true ∧
      (served 0 []).packReady = true ∧ (served 0 []).role .pressureMax = false)) ∧
    ((live ready ∧ ready.packer.state ≠ .extending) ∧
    (live (extending 1198 0) ∧ (extending 1198 0).packer.state = .extending ∧
      (extending 1198 0).packer.stroke < 65535 ∧
      (extending 1198 0).packer.stroke + 1 < (extending 1198 0).cfg.fullStroke ∧
      (extending 1198 0).packer.stallTimer = .running 400000 ∧
      (extending 1198 0).cfg.dwellTime = 0 ∧ (extending 1198 0).packerHome = false) ∧
    (live (extending 1199 1) ∧ (extending 1199 1).packer.state = .extending ∧
      (extending 1199 1).cfg.fullStroke ≤ min ((extending 1199 1).packer.stroke + 1) 65535 ∧
      (extending 1199 1).cfg.dwellTime ≠ 0)) := by
  and_intros <;> decide +kernel

/-- The packer in some state, away from home or at home, with a rear station that waits for the blade, or
without one. -/
def retractable (p : PackerState) (home wait : Bool) : State :=
  withPacker { Packer.start with
      state := p, dwellTimer := if p = .dwelling then .running 1000000 else .stopped }
    (withLift .rearLeft (if wait then { Lift.start with
        state := .hold, wait := .blade, record := some record } else Lift.start)
      (served (if home then 3 else if wait then 1 else 0) [(0x625C0, 7), (0x625C1, 8)]))

theorem witness_PackerRetracts :
    (live (retractable .dwelling false false) ∧
      (retractable .dwelling false false).packerHome = false ∧
      (retractable .dwelling false false).packer.dwellTimer = .running 1000000 ∧
      (∀ st : Station, ((retractable .dwelling false false).lift st).state = .hold →
        ((retractable .dwelling false false).lift st).wait ≠ .blade)) ∧
    (live (retractable .fault true false) ∧ controlOpen (retractable .fault true false) ∧
      (retractable .fault true false).packer.state = .fault ∧
      (retractable .fault true false).scanOk = true ∧
      (retractable .fault true false).pairErrorOf .packer = false ∧
      (retractable .fault true false).packerHome = true ∧
      (retractable .fault true false).packer.packPending = false ∧
      (retractable .fault true false).request .packer = none) ∧
    (live (retractable .dwelling false true) ∧
      ((retractable .dwelling false true).lift .rearLeft).state = .hold ∧
      ((retractable .dwelling false true).lift .rearLeft).wait = .blade ∧
      ((retractable .dwelling false true).lift .rearLeft).record = some record ∧
      (retractable .dwelling false true).role .bladeClear = true) := by
  and_intros <;> first | decide +kernel | (intro st; cases st <;> decide +kernel)

/-- The tailgate in some state with every timer running, its two inputs active or not, and some count of
records and its reservation in the queue. -/
def gate (t : TailgateState) (shut : Bool) (count : Nat) (held : Bool) : State :=
  withTailgate { Tailgate.start with
      state := t, marker := if t = .closed then .clear else .opening
      openTimer := .running 3000000, limitTimer := .running 5, ejectTimer := .running 7
      pauseTimer := .running 9 }
    { served (if shut then 3 else 0) [(0x625C0, 10), (0x625C1, 11)] with
      queue := { Queue.cold with count := count, heldTailgate := held } }

theorem witness_TailgateUnloads :
    ((live (gate .opening true 0 true) ∧ controlOpen (gate .opening true 0 true) ∧
      (gate .opening true 0 true).tailgate.openTimer = .running 3000000 ∧
      (gate .opening true 0 true).tailgate.state = .opening ∧
      (gate .opening true 0 true).tailgateOpen = false) ∧
    (live (gate .opening false 0 true) ∧ (gate .opening false 0 true).tailgateOpen = true) ∧
    (live (gate .closed true 256 false) ∧ (gate .closed true 256 false).canStart = true ∧
      (gate .closed true 256 false).pairErrorOf .tailgate = false ∧
      (gate .closed true 256 false).signals.tailgatePermit = true ∧
      (∀ st, ((gate .closed true 256 false).lift st).state = .idle) ∧
      (gate .closed true 256 false).packer.state = .parked ∧
      256 ≤ (gate .closed true 256 false).queue.count + (gate .closed true 256 false).queue.reserved) ∧
    (live (gate .closed true 255 false) ∧ (gate .closed true 255 false).canStart = true ∧
      (gate .closed true 255 false).queue.count + (gate .closed true 255 false).queue.reserved < 256 ∧
      (gate .closed true 255 false).queue.heldTailgate = false ∧
      (gate .closed true 255 false).cfg.openTime ≠ 0) ∧
    (let s := (gate .fault true 0 true).setBilling { Billing.start with
        list := [⟨.tailgate, .unload⟩], waiting := some Figures.zero }
     live s ∧ controlOpen s ∧ s.tailgate.state = .fault ∧ s.scanOk = true ∧
      s.pairErrorOf .tailgate = false ∧ s.unloadWaits = true) ∧
    (live (gate .fault true 0 true) ∧ (gate .fault true 0 true).unloadWaits = false ∧
      (gate .fault true 0 true).queue.heldTailgate = true ∧
      (gate .fault true 0 true).cfg.openTime ≠ 0) ∧
    (live (gate .fault false 0 false) ∧ (gate .fault false 0 false).queue.heldTailgate = false ∧
      (gate .fault false 0 false).tailgateShut = false) ∧
    (live (gate .fault true 0 false) ∧ (gate .fault true 0 false).queue.heldTailgate = false ∧
      (gate .fault true 0 false).tailgateShut = true ∧
      (gate .fault true 0 false).packer.packPending = false ∧
      (gate .fault true 0 false).request .tailgate = none)) ∧
    (live (gate .ejecting false 255 true) ∧
    storesWell (gate .ejecting false 255 true) ∧
    (gate .ejecting false 255 true).tailgate.ejectTimer = .running 7 ∧
    (gate .ejecting false 255 true).billing.list = [] ∧
    (gate .ejecting false 255 true).billing.waiting = none ∧
    (gate .ejecting false 255 true).tailgateShut = false) := by
  and_intros <;> first | decide +kernel | (intro st; cases st <;> decide +kernel)

theorem witness_CompactionTimeouts :
    ((live (extending 5 1) ∧ (extending 5 1).packer.state = .extending ∧
      (extending 5 1).packer.limitTimer = .running 15000000 ∧
      (extending 5 1).packer.pauseTimer = .running 30000000) ∧
    (let s := withPacker { Packer.start with state := .retracting, limitTimer := .running 5 } ready
     live s ∧ s.packer.state = .retracting ∧ s.packer.limitTimer = .running 5 ∧
      ∀ st : Station, (s.lift st).state = .hold → (s.lift st).wait ≠ .blade)) ∧
    ((live (gate .opening false 0 true) ∧ (gate .opening false 0 true).billing.list = [] ∧
      (gate .opening false 0 true).billing.waiting = none ∧
      (gate .opening false 0 true).tailgate.state = .opening ∧
      (gate .opening false 0 true).tailgate.limitTimer = .running 5) ∧
    (live (gate .closing false 0 false) ∧ (gate .closing false 0 false).tailgate.state = .closing ∧
      (gate .closing false 0 false).tailgate.limitTimer = .running 5) ∧
    (live (gate .ejecting false 0 true) ∧ (gate .ejecting false 0 true).tailgate.state = .ejecting ∧
      (gate .ejecting false 0 true).tailgate.unloadPending = false ∧
      (gate .ejecting false 0 true).tailgate.pauseTimer = .running 9)) := by
  and_intros <;> first | decide +kernel | (intro st; cases st <;> decide +kernel)

/-- A station's entry in the Tag Queue. -/
def entry (tag : Nat) : TagEntry := ⟨.sideArm, tag, 0, 0, 1, 0⟩

/-- The Tag Queue with some entries, and the Side Arm's Assigned Tag. -/
def tagged (q : List TagEntry) (a : Option AssignedTag) : State :=
  { ready with tags := { Tags.start with queue := q, assigned := ⟨a, none, none⟩ } }

theorem witness_TagReads :
    (live ready ∧ (∀ st : Station, ready.cfg.readerNode st ≠ (31 : Byte).toNat)) ∧
    (live ready ∧ stationOf ready.cfg.readerNode 32 = some .sideArm ∧ (7 : BitVec 40) ≠ 0) ∧
    (live (tagged [] (some ⟨7, 0⟩)) ∧
      (tagged [] (some ⟨7, 0⟩)).tags.assigned.get .sideArm = some ⟨7, 0⟩) ∧
    (live raising ∧ raising.absorbs .sideArm 7 = false ∧ raising.openForLate .sideArm = true ∧
      (raising.lift .sideArm).record = some record ∧ record.requested = false) ∧
    (live (tagged [entry 7] none) ∧ (tagged [entry 7] none).absorbs .sideArm 7 = false ∧
      (tagged [entry 7] none).openForLate .sideArm = false ∧ (entry 7).isFor .sideArm 7 = true ∧
      entry 7 ∈ (tagged [entry 7] none).tags.queue) ∧
    (let q := (List.range 7).map fun k => entry (k + 10)
     live (tagged q none) ∧ (tagged q none).absorbs .sideArm 7 = false ∧
      (tagged q none).openForLate .sideArm = false ∧ (∀ x ∈ q, x.isFor .sideArm 7 = false) ∧
      q.length < 8) ∧
    (let q := (List.range 8).map fun k => entry (k + 10)
     live (tagged q none) ∧ (∀ x ∈ q, x.isFor .sideArm 7 = false) ∧ 8 ≤ q.length) := by
  and_intros <;> first | decide +kernel | (intro st; cases st <;> decide +kernel)

/-- Every timer of a station's tag and scale, and of the attitude. -/
def weighing : State :=
  (tagged [entry 7] (some ⟨9, 4⟩)).setWeigh { Weigh.start with
    st := ⟨{ WeighStation.start with silence := .running 250000, capture := .running 5000000 },
      WeighStation.start, WeighStation.start⟩
    fresh := true, attitudeTimer := .running 500000 }

theorem witness_TagAndWeighTimers :
    (live weighing ∧ weighing.tags.queue.find?
        (fun y => y.station == .sideArm && decide (y.tag = (7 : BitVec 40).toNat)) =
          some (entry 7) ∧
      weighing.tags.assigned.get .sideArm = some ⟨9, 4⟩ ∧
      (weighing.lift .sideArm).record = none ∧
      (weighing.scale .sideArm).silence = .running 250000 ∧
      weighing.weigh.attitudeTimer = .running 500000 ∧
      (weighing.scale .sideArm).capture = .running 5000000) ∧
    (let s := { raising with tags := { Tags.start with assigned := ⟨some ⟨9, 4⟩, none, none⟩ } }
     live s ∧ s.tags.assigned.get .sideArm = some ⟨9, 4⟩ ∧ (s.lift .sideArm).record ≠ none) := by
  and_intros <;> decide +kernel

/-- The Side Arm in some state with a run and a capture; its window is of two samples. -/
def sampled (x : StationState) (r : Run) (capture : Bool) : State :=
  (withLift .sideArm { Lift.start with
      state := x, record := if x = .idle then none else some record }
    (served 0 [(0x62682, 2)])).setScale .sideArm { WeighStation.start with
      run := r, captureRun := r, capture := if capture then .running 5000000 else .stopped
      silence := .running 250000 }

theorem witness_WeighFrames :
    (live ready ∧ (∀ st : Station, ready.cfg.weighNode st ≠ (39 : Byte).toNat) ∧
      ready.cfg.attitudeNode ≠ (39 : Byte).toNat ∧ ready.cfg.attitudeNode = (48 : Byte).toNat ∧
      stationOf ready.cfg.weighNode 40 = some .sideArm ∧ (ready.lift .sideArm).state ≠ .raise ∧
      (ready.scale .sideArm).capture.isRunning = false) ∧
    (let s := sampled .idle Run.empty true
     live s ∧ (s.lift .sideArm).state = .idle ∧ (s.scale .sideArm).capture.isRunning = true ∧
      ((s.scale .sideArm).captureRun.take (s.cfg.windowLength .sideArm) 5 0).run.counts.length ≠
        s.cfg.windowLength .sideArm) ∧
    (let s := sampled .idle ⟨[2000], 3⟩ true
     let r := ((s.scale .sideArm).captureRun.take (s.cfg.windowLength .sideArm) 2000 4).run
     live s ∧ (s.lift .sideArm).state = .idle ∧ (s.scale .sideArm).capture.isRunning = true ∧
      r.counts.length = s.cfg.windowLength .sideArm ∧
      windowSpread r.counts ≤ s.cfg.stabilityBand .sideArm ∧
      roundDiv (windowSum r.counts) (s.cfg.windowLength .sideArm) =
        s.cfg.commissionedZero .sideArm + s.cfg.zeroRange .sideArm) ∧
    (let s := sampled .raise Run.empty false
     live s ∧ (s.lift .sideArm).state = .raise ∧ s.qualifies .sideArm 249 = false ∧
      s.qualifies .sideArm 250 = true ∧ s.qualifies .sideArm 800 = true ∧
      1 < s.cfg.windowLength .sideArm ∧ (s.scale .sideArm).run.counts = []) ∧
    (let s := sampled .raise ⟨[5], 255⟩ false
     live s ∧ s.qualifies .sideArm 800 = true ∧ (s.scale .sideArm).run.counts ≠ [] ∧
      (1 : Byte).toNat ≠ ((s.scale .sideArm).run.seq + 1) % 256 ∧
      (0 : Byte).toNat = ((s.scale .sideArm).run.seq + 1) % 256 ∧
      (s.scale .sideArm).run.counts.length + 1 = s.cfg.windowLength .sideArm ∧
      (s.scale .sideArm).accepted = none ∧
      windowSpread (405 :: (s.scale .sideArm).run.counts) ≤ s.cfg.stabilityBand .sideArm) ∧
    (let s := (sampled .raise ⟨[5, 6], 3⟩ false).setScale .sideArm { WeighStation.start with
        run := ⟨[5, 6], 3⟩, accepted := some ⟨1, 30, 0, 0⟩ }
     live s ∧ s.qualifies .sideArm 800 = true ∧ (s.scale .sideArm).run.counts ≠ [] ∧
      (4 : Byte).toNat = ((s.scale .sideArm).run.seq + 1) % 256 ∧
      (s.scale .sideArm).accepted ≠ none) ∧
    (let s := sampled .idle ⟨[2000], 3⟩ true
     let win (c : Int) := ((s.scale .sideArm).captureRun.take (s.cfg.windowLength .sideArm) c 4).run
     (win 9000).counts.length = s.cfg.windowLength .sideArm ∧
      s.cfg.stabilityBand .sideArm < windowSpread (win 9000).counts) ∧
    (let s := sampled .idle ⟨[30000], 3⟩ true
     let r := ((s.scale .sideArm).captureRun.take (s.cfg.windowLength .sideArm) 30000 4).run
     live s ∧ (s.lift .sideArm).state = .idle ∧ r.counts.length = s.cfg.windowLength .sideArm ∧
      windowSpread r.counts ≤ s.cfg.stabilityBand .sideArm ∧
      s.cfg.commissionedZero .sideArm + s.cfg.zeroRange .sideArm <
        roundDiv (windowSum r.counts) (s.cfg.windowLength .sideArm)) ∧
    (∀ o ∈ [none, some ⟨0, 9000⟩, some ⟨0, 8995⟩],
      let s := (sampled .raise ⟨[5], 3⟩ false).setScale .sideArm { WeighStation.start with
        run := ⟨[5], 3⟩, fallback := o }
      live s ∧ s.qualifies .sideArm 800 = true ∧ (s.scale .sideArm).accepted = none ∧
        s.cfg.stabilityBand .sideArm < windowSpread [9000, 5] ∧ windowSpread [9000, 5] = 8995 ∧
        (s.scale .sideArm).fallback = o) ∧
    (let s := { sampled .raise Run.empty false with cfg := [(0x62682, 1)] }
     live s ∧ s.qualifies .sideArm 800 = true ∧ s.cfg.windowLength .sideArm = 1 ∧
      ([5] : List Int).length = s.cfg.windowLength .sideArm ∧
      windowSpread [5] ≤ s.cfg.stabilityBand .sideArm) := by
  and_intros <;> first | decide +kernel | (intro st; cases st <;> decide +kernel)

/-- A table of two records, of tags 5 and 7, with accounts 1, in some state. -/
def tabled (st : TableState) (count : Nat) (staged : List Byte) : State :=
  { ready with
    store := [(0, 5), (5, 1), (32, 7), (37, 1)]
    table := { Table.cold with state := st, recordCount := count, staging := staged } }

/-- A record of a tag below 256 with account 1. -/
def staged (tag : Byte) : List Byte := [tag, 0, 0, 0, 0, 1] ++ List.replicate 26 0

theorem witness_TableSearchAndCheck :
    ((tabled .closed 2 []).table.recordCount ≤ 65535 ∧
    (∀ a b, a < b → b < (tabled .closed 2 []).table.recordCount →
      recTag ((tabled .closed 2 []).store.record a) <
        recTag ((tabled .closed 2 []).store.record b)) ∧
    (tabled .closed 2 []).find 7 = some 1) ∧
    (let s := (tabled .checking 12288 []).setTable { (tabled .checking 12288 []).table with
        checkTimer := .running 24576 }
     live s ∧ s.table.checkTimer = .running 24576 ∧ s.table.recordCount ≤ 12288) ∧
    (let s := (tabled .checking 12289 []).setTable { (tabled .checking 12289 []).table with
        checkTimer := .running 2 }
     live s ∧ s.table.checkTimer = .running 2 ∧ 12288 < s.table.recordCount) := by
  refine ⟨⟨by decide +kernel, ?_, by decide +kernel⟩, ?_⟩
  · intro a b hab hb
    have hb2 : b < 2 := hb
    obtain ⟨rfl, rfl⟩ : a = 0 ∧ b = 1 := by omega
    decide +kernel
  · and_intros <;> decide +kernel

/-- A table of two records at work on its journal, with or without the request that started it. -/
def working (j : Journal) (h : Bool) : State :=
  let s := tabled .closed 2 (staged 3)
  { s.setTable { s.table with journal := j, moveTimer := .running 2 } with
    agent := if h then { Agent.start with
        hold := .table, queue := [⟨.service, 2, 3, .command 3 0⟩] } else Agent.start }

/-- The same move on the point of its end, with a lookup that the Side Arm's lift awaits and the counter
access of a request. -/
def listed : State :=
  let s := working ⟨.delete, 0, 1, []⟩ false
  withLift .sideArm { Lift.start with
      state := .hold, wait := .lookup, record := some { record with tag := some 7, lookupPending := true } }
    { s.setTable { s.table with waiting := [.lookup .sideArm 7, .counter] } with
      billing := { Billing.start with
        list := [⟨.station .rearLeft, .charge { record with
          tag := some 7, snapshot := some ⟨1, 0, .active, 0⟩ }⟩]
        waiting := some Figures.zero } }

theorem witness_TableMoves :
    ((let s := working ⟨.insert, 0, 0, staged 3⟩ false
     live s ∧ storesWell s ∧ s.table.moveTimer = .running 2 ∧ s.table.journal.next = (0 : Nat) ∧
      s.table.journal.op = .insert ∧ s.table.journal.pos ≤ 0) ∧
    (let s := working ⟨.delete, 0, 0, []⟩ false
     live s ∧ storesWell s ∧ s.table.journal.next = (0 : Nat) ∧ s.table.journal.op = .delete ∧
      0 + 1 < s.table.recordCount) ∧
    (let s := working ⟨.openPeriod, 0, 1, []⟩ false
     live s ∧ storesWell s ∧ s.table.journal.next = (1 : Nat) ∧
      s.table.journal.op = .openPeriod ∧ 1 < s.table.recordCount)) ∧
    ((let s := working ⟨.insert, 0, -1, staged 3⟩ true
     live s ∧ s.table.moveTimer = .running 2 ∧ s.table.stepsLeft = false ∧ s.table.waiting = [] ∧
      s.table.journal.op = .insert ∧ s.agent.hold = .table ∧
      s.agent.queue = [⟨.service, 2, 3, .command 3 0⟩] ∧ controlOpen s) ∧
    (let s := working ⟨.delete, 0, 1, []⟩ false
     live s ∧ s.table.stepsLeft = false ∧ s.table.journal.op = .delete ∧ s.agent.hold = .none ∧
      s.agent.queue = []) ∧
    (let s := working ⟨.openPeriod, 0, 2, []⟩ false
     live s ∧ s.table.stepsLeft = false ∧ s.table.journal.op = .openPeriod)) ∧
    (live listed ∧ storesWell listed ∧ listed.table.moveTimer = .running 2 ∧
      listed.table.stepsLeft = false ∧ listed.table.state = .closed ∧
      listed.table.recordCount - 1 ≤ 12288 ∧ listed.agent.hold = .none ∧ listed.agent.queue = [] ∧
      .lookup .sideArm 7 ∈ listed.table.waiting ∧ .counter ∈ listed.table.waiting ∧
      (listed.lift .sideArm).state = .hold ∧ (listed.lift .sideArm).wait = .lookup ∧
      listed.requests (.station .sideArm) = 0 ∧ listed.billing.waiting = some Figures.zero ∧
      (listed.billing.list.map fun q => q.kind.access.isSome) = [true] ∧
      (after (exec .deleteMoveEnd listed)).map (fun t => (t.queue.count, t.table.waiting)) =
        some (1, [])) := by
  and_intros <;> decide +kernel

theorem witness_PeriodicOutputs :
    (live ready ∧ (ready.channels[(11 : Fin 12)]).periodEnd = .running 1024 ∧
      ready.clock.tick = .running 1000000) ∧
    (live raising ∧ raising.toggles.beacon.timer = .running 500000) ∧
    (live (gate .opening true 0 true) ∧
      (gate .opening true 0 true).toggles.horn.timer = .running 250000) ∧
    (let s := ready.setAgent { Agent.start with spacing := .running 100000 }
     live s ∧ s.agent.spacing = .running 100000 ∧ s.agent.sendNeeded = false) ∧
    (let s := ready.setAgent { Agent.start with spacing := .running 100000, sendNeeded := true }
     live s ∧ controlOpen s ∧ s.agent.spacing = .running 100000 ∧ s.agent.sendNeeded = true) := by
  and_intros <;> decide +kernel

/-- An arbiter with the packer in service below its demand, and a station that waits or not. -/
def yielding (waits : Bool) : Arbiter :=
  { State.reset.arbiter with
    req := ⟨⟨if waits then some ⟨.raise, 45, 45⟩ else none, none, none⟩,
      some ⟨.extending, 60, 20⟩, none⟩
    grant := ⟨Tri.all 0, 20, 0⟩ }

theorem witness_RestoreStep :
    ((yielding false).req.packer = some ⟨.extending, 60, 20⟩ ∧
      (∀ r : Requester, ¬ (((yielding false).req.get r).isSome = true ∧
        (yielding false).grant.get r = 0)) ∧
      0 < (yielding false).grant.packer ∧ (yielding false).grant.packer < 60 ∧
      0 < (yielding false).free 40) ∧
    (((yielding true).req.get (.station .sideArm)).isSome = true ∧
      (yielding true).grant.get (.station .sideArm) = 0) := by
  and_intros <;> first
    | decide +kernel
    | (intro r; rcases r with st | _ | _ <;> (try cases st) <;> decide +kernel)

/-- The priority list of Rotating mode with the packer below. -/
def downward : List Requester :=
  [.tailgate, .station .sideArm, .station .rearLeft, .station .rearRight, .packer]

/-- An arbiter with two stations and the packer in service, and the tailgate's request waiting. -/
def serviced : Arbiter :=
  { State.reset.arbiter with
    req := ⟨⟨some ⟨.raise, 45, 45⟩, some ⟨.raise, 35, 35⟩, none⟩, some ⟨.extending, 60, 20⟩,
      some ⟨.opening, 25, 25⟩⟩
    grant := ⟨⟨45, 35, 0⟩, 50, 0⟩ }

theorem witness_TrimStep : downward.Perm requesters ∧
    (serviced.trim 120 (fun _ => false) downward).grant = ⟨⟨45, 35, 0⟩, 40, 0⟩ ∧
    (serviced.trim 70 (fun _ => false) downward).grant = ⟨⟨45, 0, 0⟩, 0, 0⟩ ∧
    (serviced.trim 120 (fun r => r == .packer) downward).grant = ⟨⟨45, 35, 0⟩, 0, 0⟩ := by
  and_intros <;> decide +kernel

theorem witness_GrantWalk : downward.Perm requesters ∧ serviced.used ≤ 130 ∧
    (serviced.walk 130 (fun _ => false) downward).grant = ⟨⟨45, 35, 0⟩, 25, 25⟩ ∧
    (serviced.walk 155 (fun _ => false) downward).grant = ⟨⟨45, 35, 0⟩, 50, 25⟩ ∧
    (let a := { serviced with grant := ⟨⟨45, 0, 0⟩, 20, 25⟩ }
     a.used ≤ 100 ∧ (a.walk 100 (fun _ => false) downward).grant = a.grant ∧
      (a.walk 100 (fun _ => false) downward).walkStops = a.walkStops + 1) := by
  and_intros <;> decide +kernel

theorem witness_PriorityAndDemands :
    (ready.arbiter.group.Perm stations ∧ ready.cfg.rotating = true ∧ ready.priority = downward) ∧
    (let s := served 0 [(0x62864, 0), (0x62866, 2), (0x62867, 3), (0x62868, 1), (0x62869, 0)]
     s.arbiter.group.Perm stations ∧ s.cfg.rotating = false ∧
      ((List.range 4).map s.cfg.fixedOrder).Perm [0, 1, 2, 3] ∧
      s.cfg.groupStart = [.rearRight, .rearLeft, .sideArm]) ∧
    (serviced.used ≤ 130 ∧ downward.Perm requesters ∧
      serviced.grant.get (.station .sideArm) = 45 ∧ serviced.grant.get .tailgate = 0 ∧
      (serviced.settle 130 (.station .sideArm) ⟨.dump, 35, 35⟩).grant = ⟨⟨35, 35, 0⟩, 50, 0⟩ ∧
      (serviced.settle 130 (.station .sideArm) ⟨.dump, 46, 46⟩).grant = ⟨⟨0, 35, 0⟩, 50, 0⟩ ∧
      (serviced.settle 135 .packer ⟨.retracting, 60, 56⟩).grant = ⟨⟨45, 35, 0⟩, 0, 0⟩ ∧
      (serviced.settle 135 .packer ⟨.retracting, 60, 55⟩).grant = ⟨⟨45, 35, 0⟩, 55, 0⟩) := by
  and_intros <;> decide +kernel

theorem witness_RequestsTaken :
    (live ready ∧ 2 ≤ ([1, 0] : List Byte).length ∧ (List.replicate 8 (0 : Byte)).length ≤ 8 ∧
      ready.cfg.managerNode .terminal ≠ (3 : Byte).toNat ∧
      ready.cfg.managerNode .service ≠ (3 : Byte).toNat) ∧
    (ready.cfg.managerNode .terminal ≠ ready.cfg.managerNode .service ∧
      ready.cfg.managerNode .service = (2 : Byte).toNat) ∧
    (live (holdingHead 4) ∧ controlOpen (holdingHead 4) ∧ 4 ≤ (holdingHead 4).agent.queue.length ∧
      (holdingHead 4).agent.hold ≠ .none) ∧
    (live (holdingHead 3) ∧ (holdingHead 3).agent.queue.length < 4 ∧
      (holdingHead 3).agent.hold ≠ .none) ∧
    ([1, 0, 16, 4] : List Byte).length ≤ 8 ∧ ([6, 7, 3, 1, 0, 0] : List Byte).length ≤ 8 ∧
    ([2, 0, 16, 4, 1, 2, 3, 4] : List Byte).length ≤ 8 ∧
    ([5, 6, 1, 2, 3, 4, 5, 6] : List Byte).length ≤ 8 ∧
    (serving ready ∧ ([1, 0, 16] : List Byte).length < 4 ∧ ([3, 8] : List Byte).length < 3 ∧
      ([6, 7, 3, 1, 0] : List Byte).length < 6 ∧ 6 < (7 : Byte).toNat ∧ 20 < (21 : Byte).toNat) := by
  and_intros <;> decide +kernel

/-- A move at work, with the Agent free, as after a start that resumed it (R124). -/
def resumed : State := working ⟨.delete, 0, 0, []⟩ false

theorem witness_ReadAnswers :
    (serving ready ∧ ((0 : Byte).toNat = 0 ∧ 4 < (5 : Byte).toNat) ∧
      0xE000 < (0xDFFD : BitVec 16).toNat + (4 : Byte).toNat ∧
      ((0x9FFD : BitVec 16).toNat < 0xA000 ∧ 0xA000 < (0x9FFD : BitVec 16).toNat + (4 : Byte).toNat) ∧
      (0xA000 ≤ (0xA3FD : BitVec 16).toNat ∧ ((0xA3FD : BitVec 16).toNat - 0xA000) / 0x400 ≠
        ((0xA3FD : BitVec 16).toNat + (4 : Byte).toNat - 1 - 0xA000) / 0x400)) ∧
    (serving resumed ∧ resumed.table.moving = true ∧
      (0x9FFC : BitVec 16).toNat + (4 : Byte).toNat ≤ 0xA000 ∧
      (∃ x, (0x0FFF : BitVec 16).toNat ≤ x ∧ x < (0x0FFF : BitVec 16).toNat + (2 : Byte).toNat ∧
        0x1000 ≤ x ∧ x < 0x9000 ∧ resumed.agent.bankBase * 0x1000 + (x - 0x1000) < 0x60000)) ∧
    (serving ready ∧ ready.table.moving = false ∧ (0 : BitVec 16).toNat + (4 : Byte).toNat ≤ 4 ∧
      8 ≤ (8 : BitVec 16).toNat) := by
  and_intros <;> first | decide +kernel | exact ⟨0x1000, by decide +kernel⟩

/-- The Bank Area at some base, with a table state and modes. -/
def banked (base : Nat) (t : TableState) (m : Mode) : State :=
  { State.reset with
    mode := m, table := { Table.cold with state := t }, agent := { Agent.start with bankBase := base } }

theorem witness_WriteRegions :
    (serving (banked 0 .opened ⟨false, true, false⟩) ∧ storesWell (banked 0 .opened ⟨false, true, false⟩) ∧
      0x1000 ≤ (0x1000 : BitVec 16).toNat ∧ (0x8FFC : BitVec 16).toNat + 4 ≤ 0x9000 ∧
      (banked 0 .opened ⟨false, true, false⟩).table.state = .opened ∧
      0 * 0x1000 + ((0x8FFC : BitVec 16).toNat - 0x1000) + 4 ≤ 0x60000) ∧
    (serving (banked 0x5F .closed ⟨false, true, false⟩) ∧
      (banked 0x5F .closed ⟨false, true, false⟩).table.state ≠ .opened ∧
      0x5F * 0x1000 + ((0x1FFC : BitVec 16).toNat - 0x1000) + 4 = 0x60000) ∧
    (let s := banked 0x60 .closed ⟨false, true, true⟩
     serving s ∧ s.mode.maintenance = true ∧ s.queue.count = 0 ∧ s.queue.reserved = 0 ∧
      s.agent.bankBase * 0x1000 + ((0x2FFC : BitVec 16).toNat - 0x1000) + 4 = 0x62000) ∧
    (let s := banked 0x62 .closed ⟨true, true, false⟩
     serving s ∧ s.mode.configuring = true ∧
      s.agent.bankBase * 0x1000 + ((0x1000 : BitVec 16).toNat - 0x1000) = 0x62000 ∧
      s.agent.bankBase * 0x1000 + ((0x1FFC : BitVec 16).toNat - 0x1000) + 4 = 0x63000) ∧
    (let s := banked 0x63 .closed ⟨false, true, false⟩
     serving s ∧ s.mode.maintenance = false ∧
      s.agent.bankBase * 0x1000 + ((0x10FC : BitVec 16).toNat - 0x1000) + 4 = 0x63100 ∧
      0x63100 ≤ s.agent.bankBase * 0x1000 + ((0x1100 : BitVec 16).toNat - 0x1000)) ∧
    ([1, 2, 3, 4] : List Byte).length < (5 : Byte).toNat ∧
    (serving ready ∧ ready.table.staging.length = 32 ∧
      (0x10 ≤ (0x10 : BitVec 16).toNat ∧ (0x10 : BitVec 16).toNat + 4 ≤ 0x30) ∧
      (0x10 ≤ (0x2C : BitVec 16).toNat ∧ (0x2C : BitVec 16).toNat + 4 ≤ 0x30) ∧
      (∀ x ∈ [((0 : BitVec 16), 1), (1, 1), (0xA, 2), (0xB, 1), (0x30, 4), (0xFFC, 4), (0x9000, 4),
          (0x9FFC, 4)],
        (x.1.toNat + x.2 ≤ 2 ∨ (0xA ≤ x.1.toNat ∧ x.1.toNat + x.2 ≤ 0xC) ∨
          (0x30 ≤ x.1.toNat ∧ x.1.toNat + x.2 ≤ 0x1000) ∨
          (0x9000 ≤ x.1.toNat ∧ x.1.toNat + x.2 ≤ 0xA000))) ∧
      (4 ≤ (4 : BitVec 16).toNat ∧ (4 : BitVec 16).toNat + 4 ≤ 8) ∧
      0xE000 < (0xDFFD : BitVec 16).toNat + 4 ∧
      ((0x9FFD : BitVec 16).toNat < 0xA000 ∧ 0xA000 < (0x9FFD : BitVec 16).toNat + 4) ∧
      (0xA000 ≤ (0xDBFF : BitVec 16).toNat ∧ ((0xDBFF : BitVec 16).toNat - 0xA000) / 0x400 ≠
        ((0xDBFF : BitVec 16).toNat + 2 - 1 - 0xA000) / 0x400)) := by
  and_intros <;> decide +kernel

/-- A manager's pointer at some address, with the Bank Area on the configuration region. -/
def pointed (p : Nat) (configuring : Bool) : State :=
  let s := banked 0x62 .closed ⟨configuring, true, false⟩
  s.setAgent { s.agent with servicePtr := p }

theorem witness_PointerRequests :
    (serving (pointed 8 false) ∧ storesWell (pointed 8 false) ∧ 6 < (7 : Byte).toNat ∧
      (6 : Byte).toNat ≤ 6 ∧ 8 ≤ (pointed 8 false).agent.pointer .service ∧
      (pointed 8 false).table.moving = false) ∧
    (serving (pointed 0x9FFA true) ∧ (pointed 0x9FFA true).agent.pointer .service + 6 ≤ 0xA000) ∧
    (serving (pointed 0xDFFB false) ∧
      0xE000 < (pointed 0xDFFB false).agent.pointer .service + (6 : Byte).toNat) ∧
    (serving (pointed 0x1000 true) ∧ storesWell (pointed 0x1000 true) ∧
      0x1000 ≤ (pointed 0x1000 true).agent.pointer .service ∧
      0x62000 ≤ (pointed 0x1000 true).agent.bankBase * 0x1000 +
        ((pointed 0x1000 true).agent.pointer .service - 0x1000) ∧
      (pointed 0x1000 true).mode.configuring = true) ∧
    (serving (pointed 0x1FFA false) ∧
      (pointed 0x1FFA false).agent.bankBase * 0x1000 +
        ((pointed 0x1FFA false).agent.pointer .service - 0x1000) + 6 ≤ 0x63000 ∧
      (pointed 0x1FFA false).mode.configuring = false) ∧
    (∀ x ∈ [(0x5F, TableState.opened, 0x1FFA, 0x60000), (0x60, .closed, 0x2FFA, 0x62000),
        (0x62, .closed, 0x1FFA, 0x63000), (0x63, .closed, 0x10FA, 0x63100)],
      ∀ m ∈ [(⟨true, true, false⟩ : Mode), ⟨false, true, true⟩],
      let s := (banked x.1 x.2.1 m).setAgent { (banked x.1 x.2.1 m).agent with servicePtr := x.2.2.1 }
      serving s ∧ storesWell s ∧ s.queue.count = 0 ∧ s.queue.reserved = 0 ∧
        s.agent.bankBase * 0x1000 + (s.agent.pointer .service - 0x1000) + 6 = x.2.2.2) ∧
    (let s := (banked 0x63 .closed ⟨false, true, false⟩).setAgent
        { (banked 0x63 .closed ⟨false, true, false⟩).agent with servicePtr := 0x1100 }
     serving s ∧ s.agent.bankBase * 0x1000 + (s.agent.pointer .service - 0x1000) = 0x63100) ∧
    (∀ p ∈ [(0x10, 0x30), (0x2A, 0x30), (4, 8), (0x30, 0x1000), (0xFFA, 0x1000), (0x9FFA, 0xA000)],
      serving (pointed p.1 false) ∧ storesWell (pointed p.1 false) ∧
        (pointed p.1 false).table.staging.length = 32 ∧
        (pointed p.1 false).agent.pointer .service + 4 ≤ p.2) ∧
    (pointed 0 false).agent.pointer .service + 2 ≤ 2 ∧
    (pointed 0xA false).agent.pointer .service + 2 ≤ 0xC ∧
    ((pointed 0x9FFB false).agent.pointer .service < 0xA000 ∧
      0xA000 < (pointed 0x9FFB false).agent.pointer .service + 6) := by
  and_intros <;> decide +kernel

theorem witness_ControlWords :
    (serving ready ∧ (120 : BitVec 16).toNat ≤ 120 ∧ 120 < (121 : BitVec 16).toNat ∧
      ready.mode.maintenance = false ∧ ready.table.state ≠ .opened) ∧
    (let s := banked 0 .opened ⟨false, true, true⟩
     serving s ∧ s.mode.maintenance = true ∧ s.queue.count = 0 ∧ s.queue.reserved = 0 ∧
      (1 : BitVec 32) ≠ 0 ∧ s.table.state = .opened ∧ 12288 < (12289 : BitVec 16).toNat) := by
  and_intros <;> decide +kernel

/-- The Snapshot buffers Latched or not, at some positions. -/
def latched (a b : Bool) (p q : Nat) : State :=
  ready.setSnaps ⟨⟨a, List.replicate 16 1, p⟩, ⟨b, List.replicate 48 2, q⟩⟩

theorem witness_Snapshots :
    (serving ready ∧ ready.snaps.status.latched = false ∧ ready.snaps.totals.latched = false ∧
      1 ≤ (1 : Byte).toNat ∧ (4 : Byte).toNat ≤ 4 ∧ 4 < (5 : Byte).toNat ∧
      (1 ≤ (1 : BitVec 16).toNat ∧ 4 < (1 : BitVec 16).toNat + (4 : Byte).toNat) ∧
      ((3 : BitVec 16).toNat < 4 ∧ 4 < (3 : BitVec 16).toNat + (2 : Byte).toNat)) ∧
    (serving (latched true true 2 0) ∧ (latched true true 2 0).snaps.status.latched = true ∧
      (latched true true 2 0).snaps.status.bytes.length = 16 ∧
      (latched true true 2 0).snaps.status.pos < 3) ∧
    (serving (latched true true 3 0) ∧ (latched true true 3 0).snaps.status.pos = 3) ∧
    (serving (latched false true 0 10) ∧ (latched false true 0 10).snaps.status.latched = false ∧
      (latched false true 0 10).snaps.totals.latched = true ∧
      (latched false true 0 10).snaps.totals.bytes.length = 48 ∧
      (latched false true 0 10).snaps.totals.pos < 11) ∧
    (serving (latched false true 0 11) ∧ (latched false true 0 11).snaps.totals.pos = 11) := by
  and_intros <;> decide +kernel

/-- A Read of the last four bytes of slot 15 of the Node Mirror. -/
def mirrorRead : ReqBody := .read 0xDFFC 4

/-- Its access as the Deferred Slot keeps it. -/
def mirrorKept : Access := ⟨.service, mirrorRead, 0xDFFC, 77, 1, [0xFF, 0xFC, 4]⟩

/-- The Deferred Slot in some state, with the last Node List entry enabled or not. -/
def mirrored (d : Deferred) (on : Bool) : State :=
  { served 0 (if on then [(0x629B2, 1), (0x629B3, 77)] else []) with
    agent := { Agent.start with deferred := d } }

theorem witness_MirrorAccesses :
    ((mirrorRead.isAccess = true ∧ mirrorRead.wf = true ∧
      bodyOp 0 mirrorRead = some ⟨false, 0xDFFC, 4, [], 4⟩ ∧
      (⟨false, 0xDFFC, 4, [], 4⟩ : Op).malformed = false ∧
      (⟨false, 0xDFFC, 4, [], 4⟩ : Op).inOneSlot = true) ∧
    (serving (mirrored .free false) ∧ (mirrored .free false).agent.pointer .service = 0 ∧
      (mirrored .free false).cfg.nodeEnabled 15 = false) ∧
    (serving (mirrored .free true) ∧ (mirrored .free true).cfg.nodeEnabled 15 = true ∧
      (mirrored .free true).control.length + 2 ≤ 8) ∧
    (serving (mirrored (.querying mirrorKept (.running 5)) true) ∧
      mirrorKept.mgr = .service ∧ mirrorKept.body = normalBody mirrorRead ∧
      mirrorKept.addr = 0xDFFC) ∧
    (serving (mirrored (.ready mirrorKept .timeout (.running 5)) true) ∧
      mirrorKept.mgr ≠ .terminal)) ∧
    ((live (mirrored (.querying mirrorKept (.running 5)) true) ∧
      controlOpen (mirrored (.querying mirrorKept (.running 5)) true) ∧
      (mirrored (.querying mirrorKept (.running 5)) true).agent.deferred =
        .querying mirrorKept (.running 5) ∧
      2 ≤ ([0xFF, 0xFC, 1, 2, 3, 4] : List Byte).length ∧
      ([0xFF, 0xFC, 1, 2, 3, 4] : List Byte).length = 2 + mirrorKept.readLen.getD 0 ∧
      ([0xFF, 0xFC, 1, 2, 3, 4] : List Byte).take 2 = mirrorKept.query.take 2 ∧
      ([0xFF, 0xFC, 1, 2, 3] : List Byte).length ≠ 2 + mirrorKept.readLen.getD 0) ∧
    (live (mirrored (.requerying mirrorKept (.running 5)) true) ∧
      (mirrored (.requerying mirrorKept (.running 5)) true).agent.deferred =
        .requerying mirrorKept (.running 5)) ∧
    (live (mirrored (.ready mirrorKept .timeout (.running 5)) true) ∧
      (mirrored (.ready mirrorKept .timeout (.running 5)) true).agent.deferred =
        .ready mirrorKept .timeout (.running 5)) ∧
    (live (mirrored .free true) ∧ (mirrored .free true).agent.deferred = .free)) := by
  and_intros <;> decide +kernel

theorem witness_TableCommands :
    (let s := tabled .opened 12288 []
     serving s ∧ storesWell s ∧ s.table.state = .opened ∧ 0 < s.table.recordCount ∧
      s.table.recordCount ≤ 12288) ∧
    (let s := tabled .opened 12289 []
     serving s ∧ s.table.state = .opened ∧ 12288 < s.table.recordCount) ∧
    (let s := tabled .invalid 2 []
     serving s ∧ storesWell s ∧ s.table.state = .invalid ∧
      ∀ st : Station, (s.lift st).state = .idle) ∧
    (let s := tabled .checking 2 []
     serving s ∧ s.table.state ≠ .opened ∧ ¬ (s.table.state = .closed ∧ s.table.busy = false)) ∧
    (let s := tabled .closed 2 (staged 0)
     serving s ∧ s.table.state = .closed ∧ s.table.busy = false ∧
      badRecord s.table.staging = true) ∧
    (let s := tabled .closed 2 (staged 6)
     serving s ∧ badRecord s.table.staging = false ∧ s.find (recTag s.table.staging) = none) ∧
    (let s := tabled .closed 2 (staged 7)
     serving s ∧ storesWell s ∧ badRecord s.table.staging = false ∧ s.table.staging.length = 32 ∧
      s.find (recTag s.table.staging) = some 1) := by
  and_intros <;> first | decide +kernel | (intro st; cases st <;> decide +kernel)

theorem witness_EditCommands :
    (let s := tabled .opened 2 (staged 6)
     serving s ∧ ¬ (s.table.state = .closed ∧ s.table.busy = false)) ∧
    (let s := tabled .closed 2 (staged 0)
     serving s ∧ s.table.state = .closed ∧ s.table.busy = false ∧
      badRecord s.table.staging = true) ∧
    (let s := tabled .closed 2 (staged 5)
     serving s ∧ badRecord s.table.staging = false ∧ s.find (recTag s.table.staging) = some 0 ∧
      0 + 1 < s.table.recordCount) ∧
    (let s := tabled .closed 12288 (staged 6)
     serving s ∧ badRecord s.table.staging = false ∧ s.find (recTag s.table.staging) = none ∧
      s.table.recordCount = 12288) ∧
    (let s := tabled .closed 2 (staged 6)
     serving s ∧ badRecord s.table.staging = false ∧ s.find (recTag s.table.staging) = none ∧
      s.table.recordCount ≠ 12288 ∧ 0 < s.table.recordCount) ∧
    (let s := tabled .closed 2 (staged 7)
     serving s ∧ s.table.waiting = [] ∧ s.find (recTag s.table.staging) = some 1 ∧
      s.table.recordCount ≤ 1 + 1) ∧
    (let s := tabled .closed 0 []
     serving s ∧ s.table.state = .closed ∧ s.table.busy = false ∧ s.table.waiting = [] ∧
      s.table.recordCount = 0) := by
  and_intros <;> decide +kernel

/-- The Clock valid at 100 s. -/
def clocked : State := ready.setClock { Clock.cold 0 with seconds := 100, valid := true }

theorem witness_PlainAndStationCommands :
    ((serving ready ∧ storesWell ready ∧ ready.clock.valid = false ∧ (1 : BitVec 32) ≠ 0 ∧
      6 < (7 : Byte).toNat ∧ 20 < (21 : Byte).toNat) ∧
    (serving clocked ∧ storesWell clocked ∧ clocked.clock.valid = true ∧
      ((102 : BitVec 32).toNat - clocked.clock.seconds) +
        (clocked.clock.seconds - (102 : BitVec 32).toNat) ≤ clocked.cfg.syncTolerance ∧
      clocked.cfg.syncTolerance < ((97 : BitVec 32).toNat - clocked.clock.seconds) +
        (clocked.clock.seconds - (97 : BitVec 32).toNat))) ∧
    ((serving ready ∧ 2 < (3 : Byte).toNat ∧ Station.ofNum (2 : Byte).toNat = some .rearRight ∧
      ready.configured = true ∧ (ready.lift .rearRight).state = .idle ∧
      (ready.scale .rearRight).capture.isRunning = false) ∧
    (serving State.reset ∧ State.reset.configured = false) ∧
    (let s := ready.setScale .rearRight { WeighStation.start with capture := .running 5000000 }
     serving s ∧ s.configured = true ∧ (s.lift .rearRight).state = .idle ∧
      (s.scale .rearRight).capture.isRunning = true)) := by
  and_intros <;> decide +kernel

theorem witness_ModeCommands :
    (serving ready ∧ (∀ st : Station, (ready.lift st).state = .idle) ∧
      ready.packer.state = .parked ∧ ready.tailgate.state = .closed ∧
      ready.mode.configuring = false ∧ ready.mode.maintenance = false ∧
      (∀ st : Station, (ready.scale st).capture.isRunning = false)) ∧
    (serving State.reset ∧ State.reset.mode.configuring = true) ∧
    (serving raising ∧ raising.mode.configuring = false ∧ raising.mode.maintenance = false ∧
      (raising.lift .sideArm).state ≠ .idle) ∧
    (let s := banked 0 .closed ⟨false, true, true⟩
     serving s ∧ s.mode.maintenance = true ∧ s.mode.configuring = false) := by
  and_intros <;> first | decide +kernel | (intro st; cases st <;> decide +kernel)

/-- A written copy that meets every check: the roles of the three stations and the body. -/
def committable : State :=
  { State.reset with
    store := (List.range 20).map fun k => (0x625C0 + k, BitVec.ofNat 8 (([0x01, 0x02, 0x03, 0x04, 0x11,
      0x12, 0x13, 0x14, 0x21, 0x22, 0x23, 0x24, 0x06, 0x07, 0x08, 0x0A, 0x0B, 0x09, 0x15,
      0x25] : List Nat).getD k 0)) }

/-- A written copy that inverts the E-Stop input 12, has a pair of inputs 0 and 1, a Change Mask of input 0
and an Association Window of 500 ms. -/
def rewritten : Mem :=
  (committable.store.write (0x625C0 + 12) 0x86) ++
    [(0x625E4, 1), (0x625E8, 1), (0x625EA, 1), (0x626C9, 5)]

/-- A Commit of it at tag time 5,000, with reads at both sides of the new window, on some scanner; the Side
Arm is Homing and the Rear Left station holds the Lift Record of a request already made. -/
def recommit (x : Scanner) : State :=
  let held : Lift := { Lift.start with state := .fault, record := some { record with requested := true } }
  withLift .sideArm { Lift.start with state := .homing } (withLift .rearLeft held { State.reset with
    store := rewritten, scanner := x, sys := { State.reset.sys with now := 5000000 }
    tags := { State.reset.tags with
      queue := [⟨.sideArm, 1, 4000, 4500, 1, 9⟩, ⟨.sideArm, 2, 4000, 4501, 1, 9⟩]
      assigned := ⟨some ⟨3, 4500⟩, some ⟨4, 4500⟩, some ⟨5, 4501⟩⟩ } })

/-- After Scan Ready, with inputs 0 and 1 active and the bit of input 0 set in the Change Map. -/
def scanned : Scanner :=
  { State.reset.scanner with ready := true, published := 3, filtered := 3, logical := 3, changeMap := 1 }

/-- Before it, with a full-scan count above the new Debounce Count. -/
def unscanned : Scanner := { State.reset.scanner with scans := 5 }

/-- The outcome of the Commit meets a test. -/
def commits (x : Scanner) (p : State → Bool) : Bool :=
  (after (exec (.commit .service 3) (recommit x))).any p

theorem witness_CommitCommand :
    (∀ x ∈ [scanned, unscanned], let s := recommit x
     serving s ∧ storesWell s ∧ s.mode.configuring = true ∧
      s.writtenCopy.commitFailure s.sys.ownNode.toNat = none ∧ s.eStop = false ∧
      (s.lift .sideArm).state = .homing ∧ (s.lift .sideArm).record = none ∧
      s.stationMoving .rearLeft = false ∧ s.stationMoving .rearRight = false ∧
      s.tailgate.state = .closed ∧ s.tagTime = 5000) ∧
    (commits scanned (fun t => t.scanner.published == 0x1003 && t.scanner.changeMap == 0x1001 &&
        t.scanner.pairErrors == 1 && t.eStop && (t.lift .sideArm).lastFault == some .sensorError &&
        t.agent.notices.getLsbD 2 && !t.cfg.noticeModes.getLsbD 2) = true ∧
      commits scanned (fun t => t.tags.queue.map (·.tag) == [2] &&
        t.tags.assigned == ⟨none, some ⟨4, 4500⟩, some ⟨5, 4501⟩⟩) = true ∧
      commits unscanned (fun t => t.scanner.filtered == 0x1000 && t.scanner.published == 0 &&
        t.scanner.changeMap == 0 && t.scanner.scans == 3 && (t.lift .sideArm).state == .homing) = true) ∧
    (serving ready ∧ storesWell ready ∧ ready.mode.configuring = false) ∧
    (serving State.reset ∧ State.reset.mode.configuring = true ∧
      (State.reset.writtenCopy.commitFailure State.reset.sys.ownNode.toNat).isSome = true) ∧
    (serving committable ∧ storesWell committable ∧ committable.mode.configuring = true ∧
      committable.writtenCopy.commitFailure committable.sys.ownNode.toNat = none ∧
      (∀ st : Station, committable.stationMoving st = false) ∧
      committable.tailgateMoving = false ∧ committable.control.length + 2 ≤ 8) ∧
    (let s := withTailgate { Tailgate.start with state := .closing }
        (withLift .sideArm { Lift.start with state := .homing } committable)
     serving s ∧ storesWell s ∧ s.mode.configuring = true ∧
      s.writtenCopy.commitFailure s.sys.ownNode.toNat = none ∧
      (s.lift .sideArm).state = .homing ∧ (s.lift .sideArm).record = none ∧
      s.tailgateMoving = true ∧ s.tailgate.state ≠ .ejecting ∧
      ∀ st : Station, s.stationMoving st = true → (s.lift st).state = .homing) := by
  and_intros <;> first | decide +kernel | (intro st; cases st <;> decide +kernel)


/-! ### Witnesses of the invariants that name several blocks -/

/-- The Side Arm in Raise, with its reservation and its marker. -/
def lifting : State :=
  { raising with
    queue := { Queue.cold with heldSt := ⟨true, false, false⟩ }
    markers := ⟨record.marker .engaged, Marker.clear, Marker.clear⟩
    pending := [.encoderPulse] }

/-- The tailgate ejects, on the point of its Unload request, behind one record of the last Sequence
Number before the wrap. -/
def unloading : State :=
  let s := gate .ejecting false 1 true
  { withTailgate { s.tailgate with marker := .ejecting, pauseTimer := .stopped } s with
    store := (List.range 4).map fun k => (0x60000 + k, 255)
    queue := { s.queue with nextSeq := 1 }
    pending := [.ejectTimerExpiry] }

theorem witness_ReservationsKept :
    (reservationsWell starting ∧
      (after (step starting)).map (fun t => t.queue.reserved) = some 1) ∧
    (reservationsWell lifting ∧ lifting.queue.reserved = 1 ∧
      (after (step lifting)).isSome = true) ∧
    (reservationsWell unloading ∧ (after (step unloading)).map (fun t => t.queue.reserved) = some 0) ∧
    (let s := { marked .ejecting with
        sys := { State.reset.sys with powered := false }, pending := [.warmStart 0] }
     reservationsWell s ∧ (after (step s)).map (fun t => t.queue.count) = some 3) := by
  unfold reservationsWell phasesOrderly
  and_intros
  all_goals first
    | decide +kernel
    | (intro h; exact absurd h (by decide +kernel))
    | (intro _; and_intros <;> first | decide +kernel | (intro st; cases st <;> decide +kernel))

/-- The order of a table's tags, checked position by position. -/
theorem rises {m : Mem} {pos : Nat → Nat} {n : Nat} (h : ∀ k, k < n → recTag (m.record (pos k)) ≠ 0 ∧
    (k + 1 < n → recTag (m.record (pos k)) < recTag (m.record (pos (k + 1))))) : m.tagsRise pos n := h

theorem witness_SequencesKept : storesWell unloading ∧ reservationsWell unloading ∧
    tableSound unloading ∧ sequencesRise unloading ∧ unloading.queue.count = 1 ∧
    unloading.sequenceAt 0 = 0xFFFFFFFF ∧
    (after (step unloading)).map (fun t => (t.queue.count, t.sequenceAt 1, t.queue.nextSeq)) =
      some (2, 1, 2) := by
  unfold reservationsWell phasesOrderly tableSound sequencesRise
  and_intros
  all_goals first
    | decide +kernel
    | (intro _; and_intros <;> first
        | decide +kernel
        | exact rises (by decide +kernel)
        | (intro st; cases st <;> decide +kernel))


/-- The same table with a step or an end of its work waiting. -/
def atWork (j : Journal) (c : Instr) : State := (working j false).setPending [c]

theorem witness_TableKept :
    (let s := (tabled .closed 2 (staged 3)).setPending [.encoderPulse]
     storesWell s ∧ tableSound s ∧ s.table.busy = false ∧ (after (step s)).isSome = true) ∧
    (let s := atWork ⟨.insert, 0, 1, staged 3⟩ .moveStep
     storesWell s ∧ tableSound s ∧ (after (step s)).map (fun t => t.table.journal.next) = some 0) ∧
    (let s := atWork ⟨.insert, 2, 1, staged 9⟩ .insertMoveEnd
     storesWell s ∧ tableSound s ∧ (after (step s)).map (fun t => t.table.recordCount) = some 3) ∧
    (let s := atWork ⟨.delete, 0, 0, []⟩ .moveStep
     storesWell s ∧ tableSound s ∧ (after (step s)).map (fun t => t.table.journal.next) = some 1) ∧
    (let s := atWork ⟨.openPeriod, 0, 2, []⟩ .openPeriodWalkEnd
     storesWell s ∧ tableSound s ∧ (after (step s)).map (fun t => t.table.busy) = some false) := by
  unfold tableSound
  and_intros
  all_goals first
    | decide +kernel
    | (intro _; and_intros <;> first | decide +kernel | exact rises (by decide +kernel))

/-- The whole part at rest, with an Unload waiting. -/
def unloadable : State :=
  withTailgate Tailgate.start { served 3 [(0x625C0, 10), (0x625C1, 11)] with pending := [.unload 0 0] }

theorem witness_UnloadAloneKept :
    (phasesOrderly unloadable ∧ packerOrderly unloadable ∧ unloadAlone unloadable ∧
      unloadable.tailgate.state = .closed ∧
      (after (step unloadable)).map (fun t => t.tailgate.state) = some .opening) ∧
    (phasesOrderly unloading ∧ packerOrderly unloading ∧ unloadAlone unloading ∧
      unloading.tailgate.state ≠ .closed ∧
      (after (step unloading)).map (fun t => t.tailgate.state) = some .closing) ∧
    (let s := (marked .ejecting).setPending [.warmStart 0]
     phasesOrderly s ∧ packerOrderly s ∧ unloadAlone s ∧
      (after (step s)).map (fun t => (t.tailgate.state, t.tailgate.lastFault)) =
        some (.fault, none)) ∧
    (let s := { served 0 [(0x624EC, 3), (0x624ED, 3), (0x624EE, 1), (0x62524, 7)] with
        pending := [.frameReceived .body (delivered .operatorCommand 8 [6, 0, 0, 0, 0, 0, 0, 0])] }
     s.signals.tailgatePermit = true ∧ (after (step s)).map (fun t =>
        (t.tailgate.state, t.signals.tailgatePermit)) = some (.opening, false)) := by
  unfold phasesOrderly packerOrderly unloadAlone
  and_intros
  all_goals first
    | decide +kernel
    | (intro st; cases st <;> decide +kernel)
    | (intro h; exact absurd h (by decide +kernel))
    | (intro _; and_intros <;> first | decide +kernel | (intro st; cases st <;> decide +kernel))

theorem witness_PayloadKept :
    (storesWell unloading ∧ tableSound unloading ∧ reservationsWell unloading ∧
      agentRests unloading ∧ unloading.agent.queue.length ≤ 1 ∧ unloading.pending = [.ejectTimerExpiry] ∧
      unloading.billing.waiting = none ∧
      (after (step unloading)).map (fun t => (t.queue.count, t.payload.mass)) = some (2, 0)) ∧
    (let s := { withLift .sideArm { lifting.lift .sideArm with phaseTimer := .running 5 } lifting with
        pending := [.phaseTimerExpiry .sideArm] }
     storesWell s ∧ tableSound s ∧ reservationsWell s ∧ agentRests s ∧ s.agent.queue.length ≤ 1 ∧
      s.billing.waiting = none ∧ (after (step s)).map (fun t => t.queue.count) = some 1) := by
  unfold tableSound reservationsWell phasesOrderly
  and_intros
  all_goals first
    | decide +kernel
    | (intro _; and_intros <;> first
        | decide +kernel
        | exact rises (by decide +kernel)
        | (intro st; cases st <;> decide +kernel))

/-! ### Witnesses of the group read's statements -/

/-- The outcome of a group read meets a test. -/
def reads (lines : Byte) (s : State) (p : State → Bool) : Bool :=
  ((after (exec (.groupRead lines) s)).map p).getD false

/-- The pair errors that begin between two states. -/
def begun (s t : State) : BitVec 8 := t.scanner.pairErrors &&& ~~~ s.scanner.pairErrors

/-- Inputs 0 to 2 of a station, the packer and the tailgate, each in a pair of its own, with a Debounce
Count of 1; the Change Mask has input 0 alone. -/
def paired (more : List Host.Cell) : Mem :=
  [(0x625C0, 1), (0x625C1, 7), (0x625C2, 10)] ++ more ++
    [(0x625E0, 1), (0x625E4, 1), (0x625E8, 1), (0x625EC, 1), (0x625ED, 1), (0x625EE, 1),
      (0x625F0, 1), (0x625F1, 2), (0x625F2, 2)]

/-- Every function in motion. -/
def allMoving (c : Mem) : State :=
  withLift .sideArm { Lift.start with state := .raise, record := some record }
    (withPacker { Packer.start with state := .extending }
      (withTailgate { Tailgate.start with state := .opening } (served 0 c)))

theorem witness_ChangesPublished :
    (∀ s ∈ [allMoving (paired []), served 0 (paired [])],
      live s ∧ s.scanner.ready = true ∧ s.scanner.nextRead = .running 2000 ∧ s.billing.list = []) ∧
    (let s := allMoving (paired [])
     s.stationMoving .sideArm = true ∧ s.packerMoving = true ∧ s.tailgateMoving = true ∧
      reads 7 s (fun t => begun s t == 7 &&
        [Requester.station .sideArm, .packer, .tailgate].all (s.cfg.begunFor 7) &&
        (s.scanner.published ^^^ t.scanner.published) == 7) = true) ∧
    (let s := served 0 (paired [])
     s.stationMoving .sideArm = false ∧ s.packerMoving = false ∧ s.tailgateMoving = false ∧
      (7 &&& ~~~ s.scanner.changeMap &&& s.cfg.changeMask) = 1 ∧
      (6 &&& ~~~ s.scanner.changeMap &&& s.cfg.changeMask) = 0 ∧
      s.cfg.noticeModes.getLsbD 2 = false ∧ s.cfg.noticeModes.getLsbD 3 = false ∧
      reads 7 s (fun t => begun s t == 7) = true ∧ reads 6 s (fun t => begun s t == 6) = true ∧
      reads 0 s (fun t => begun s t == 0 && t.scanner.published == s.scanner.published) = true) := by
  and_intros <;> decide +kernel

/-- Every function in motion, with input 3 of the role E-Stop. -/
def stopping : State := allMoving (paired [(0x625C3, 6)])

theorem witness_EStopHalts :
    (live stopping ∧ stopping.scanner.nextRead = .running 2000 ∧ packerOrderly stopping ∧
      stopping.billing.waiting = none ∧ stopping.billing.list = [] ∧ stopping.eStop = false ∧
      stopping.stationMoving .sideArm = true ∧ stopping.packerMoving = true ∧
      stopping.tailgateMoving = true ∧ storesWell stopping ∧ stopping.table.recordCount ≤ 12288 ∧
      (stopping.lift .sideArm).record = some record ∧ record.requested = false ∧
      record.reachedDump = false) ∧
    reads 8 stopping (fun t => t.eStop && begun stopping t == 0) = true ∧
    (reads 15 stopping (fun t => t.eStop && begun stopping t == 7) = true ∧
      (∀ r : Requester, r = .station .sideArm ∨ r = .packer ∨ r = .tailgate →
        stopping.cfg.begunFor 7 r = true)) := by
  unfold packerOrderly
  and_intros
  all_goals first
    | decide +kernel
    | (rintro r (rfl | rfl | rfl) <;> decide +kernel)

/-- The Side Arm in some phase with its inputs 0 to 3, Blade Clear on input 4, and some published states. -/
def phased (x : StationState) (pub : BitVec 32) (more : List Host.Cell) : State :=
  withLift .sideArm { Lift.start with
      state := x, record := if x = .release ∨ x = .homing then none else some record }
    (served pub ([(0x625C0, 1), (0x625C1, 2), (0x625C2, 3), (0x625C3, 4), (0x625C4, 7),
      (0x625E0, 1)] ++ more))

/-- The hypotheses of a phase end that a group read meets: no E-Stop, and no pair error that begins. -/
def calm (lines : Byte) (s : State) (p : State → Bool) : Bool :=
  s.scanner.ready && s.scanner.nextRead == .running 2000 && !s.eStop &&
    (s.billing.waiting.isSome || s.billing.list.isEmpty) &&
    reads lines s (fun t => !t.eStop && begun s t == 0 && p t)

theorem witness_StationPhaseEnds :
    (∀ q ∈ [[], [entry 7], [entry 7, entry 9]], ∀ c ∈ [([] : List Host.Cell), [(0x626C8, 1)]],
      let s := { phased .engage 1 c with tags := { Tags.start with queue := q } }
      live s ∧ storesWell s ∧ s.table.recordCount ≤ 12288 ∧ (s.lift .sideArm).state = .engage ∧
        (s.lift .sideArm).record = some record ∧ record.requested = false ∧
        s.cfg.rollover = !c.isEmpty ∧ s.stationRole .gripped .sideArm = false ∧
        (s.tags.queue.filter fun x => x.station == .sideArm) = q ∧
        calm 3 s (fun t => t.stationRole .gripped .sideArm && !t.stationRole .atTop .sideArm) = true) ∧
    (let s := { phased .engage 1 [] with
        tags := { Tags.start with queue := [entry 7] }, store := (tabled .closed 2 []).store
        table := (tabled .closed 2 []).table }
     live s ∧ storesWell s ∧ s.table.state = .closed ∧ s.table.busy = false ∧ s.find 7 = some 1 ∧
      calm 3 s (fun t => t.stationRole .gripped .sideArm) = true) ∧
    (let s := { phased .engage 1 [] with
        tags := { Tags.start with queue := [entry 7] }, store := (working ⟨.delete, 0, 0, []⟩ false).store
        table := (working ⟨.delete, 0, 0, []⟩ false).table }
     live s ∧ storesWell s ∧ s.table.moving = true ∧
      calm 3 s (fun t => t.stationRole .gripped .sideArm) = true) ∧
    (∀ w ∈ [WeighStation.start, { WeighStation.start with accepted := some ⟨2, 30, 0, 0⟩ },
        { WeighStation.start with fallback := some ⟨100, 900⟩ }],
      ∀ c ∈ [([] : List Host.Cell), [(0x62651, 1)]],
      let s := (phased .raise 2 c).setScale .sideArm w
      live s ∧ storesWell s ∧ (s.lift .sideArm).state = .raise ∧
        (s.lift .sideArm).record = some record ∧ record.lookupPending = false ∧
        record.snapshot = none ∧ s.cfg.unidentifiedTip = !c.isEmpty ∧
        s.stationRole .atTop .sideArm = false ∧
        calm 6 s (fun t => t.stationRole .atTop .sideArm) = true) ∧
    (let s := phased .raise 18 [(0x62651, 1)]
     live s ∧ s.cfg.unidentifiedTip = true ∧ (s.lift .sideArm).record = some record ∧
      calm 22 s (fun t => t.stationRole .atTop .sideArm && t.role .bladeClear &&
        t.packer.state != .extending && t.packer.state != .dwelling) = true) ∧
    (∀ r ∈ [{ record with lookupPending := true },
        { record with snapshot := some ⟨1, 0, .suspended, 0⟩ },
        { record with snapshot := some ⟨1, 0, .active, 0⟩ }],
      let s := (phased .raise 2 []).setLift .sideArm
        { (phased .raise 2 []).lift .sideArm with record := some r }
      live s ∧ storesWell s ∧ (s.lift .sideArm).record = some r ∧ r.requested = false ∧
        calm 6 s (fun t => t.stationRole .atTop .sideArm) = true) ∧
    (let s := (phased .lower 2 []).setScale .sideArm { WeighStation.start with
        accepted := some ⟨2, 30, 0, 0⟩ }
     live s ∧ storesWell s ∧ (s.lift .sideArm).state = .lower ∧
      (s.lift .sideArm).chargePending = false ∧ (s.lift .sideArm).record = some record ∧
      s.billing.waiting = none ∧ s.billing.list = [] ∧ s.table.moving = false ∧
      s.stationRole .lowered .sideArm = false ∧ (s.scale .sideArm).accepted ≠ none ∧
      calm 10 s (fun t => t.stationRole .lowered .sideArm) = true) ∧
    (let s := phased .lower 2 []
     (s.scale .sideArm).accepted = none ∧
      calm 10 s (fun t => t.stationRole .lowered .sideArm) = true ∧
      let x := s.setBilling { s.billing with waiting := some Figures.zero }
      live x ∧ x.billing.waiting ≠ none ∧
        calm 10 x (fun t => t.stationRole .lowered .sideArm) = true) ∧
    (∀ c ∈ [([] : List Host.Cell), [(0x62864, 1)]],
      let s := phased .release 2 c
      live s ∧ (s.lift .sideArm).state = .release ∧ s.releaseDone .sideArm = false ∧
        calm 1 s (fun t => !t.stationRole .gripped .sideArm && t.stationRole .stowed .sideArm) =
          true) ∧
    (∀ x, x ≠ .sideArm → ((phased .release 2 []).lift x).state ≠ .release ∧
      ((phased .release 2 []).lift x).state ≠ .lower) ∧
    (let s := phased .homing 2 []
     live s ∧ (s.lift .sideArm).state = .homing ∧ s.atHome .sideArm = false ∧
      calm 1 s (fun t => !t.stationRole .gripped .sideArm && t.stationRole .stowed .sideArm) =
        true) := by
  and_intros <;> first | decide +kernel | (intro st; cases st <;> decide +kernel)

/-- The packer and the tailgate in some states, with the inputs 0 to 4 of their roles. -/
def compacting (p : PackerState) (pending : Bool) (g : TailgateState) (reached : Bool) (pub : BitVec 32)
    (more : List Host.Cell) : State :=
  withPacker { Packer.start with state := p, packPending := pending }
    (withTailgate { Tailgate.start with state := g, openReached := reached }
      (served pub ([(0x625C0, 7), (0x625C1, 8), (0x625C2, 9), (0x625C3, 10), (0x625C4, 11),
        (0x625E0, 1)] ++ more)))

theorem witness_CompactionPhaseEnds :
    (let s := compacting .extending false .closed false 0 []
     live s ∧ s.packer.state = .extending ∧ s.role .pressureMax = false ∧ s.cfg.dwellTime ≠ 0 ∧
      calm 4 s (fun t => t.role .pressureMax) = true) ∧
    (let s := compacting .extending false .closed false 0 [(0x62953, 0)]
     live s ∧ s.packer.state = .extending ∧ s.cfg.dwellTime = 0 ∧
      calm 4 s (fun t => t.role .pressureMax && !t.packerHome) = true) ∧
    (let s := withLift .rearLeft { Lift.start with
        state := .hold, wait := .blade, record := some record }
        (compacting .retracting false .closed false 1 [])
     live s ∧ s.packer.state = .retracting ∧ s.packerHome = false ∧ s.packer.packPending = false ∧
      (s.lift .rearLeft).state = .hold ∧ (s.lift .rearLeft).wait = .blade ∧
      calm 3 s (fun t => t.role .packerHome && t.role .bladeClear) = true) ∧
    (let s := compacting .retracting true .closed false 1 []
     live s ∧ s.packer.packPending = true ∧ s.signals.packPermit = true ∧
      s.tailgate.state = .closed ∧
      calm 3 s (fun t => t.role .packerHome && t.role .bladeClear && !t.role .pressureMax &&
        stations.all fun st => (t.lift st).state != .dump) = true) ∧
    (∀ reached ∈ [true, false],
      let s := compacting .parked false .opening reached 16 []
      live s ∧ s.tailgate.state = .opening ∧ s.tailgateOpen = false ∧
        s.tailgate.openReached = reached ∧
        calm 0 s (fun t => !t.role .tailgateClosed && !t.role .tailgateLocked) = true) ∧
    (let s := compacting .parked false .closing false 8 []
     live s ∧ s.tailgate.state = .closing ∧ s.tailgateShut = false ∧
      calm 24 s (fun t => t.role .tailgateClosed && t.role .tailgateLocked) = true) := by
  and_intros <;> decide +kernel

/-! ### Witnesses of the charge -/

/-- A table of two records on the point of a record's commit, before the Sequence Number's wrap. -/
def charging : State :=
  { tabled .closed 2 [] with
    queue := { Queue.cold with heldSt := ⟨true, false, false⟩, nextSeq := 0xFFFFFFFF } }

/-- A Lift Record of the household of tag 7, in some class and status. -/
def household (tag account : Nat) (st : HouseStatus) : LiftRecord :=
  { record with tag := some tag, snapshot := some ⟨account, 0, st, 0⟩ }

theorem witness_RecordFormed :
    (storesWell charging ∧ charging.table.moving = false ∧ charging.table.recordCount ≤ 12288 ∧
      charging.queue.nextSeq < 2 ^ 32 ∧ charging.clock.seconds < 2 ^ 32) ∧
    (let r := { household 7 1 .active with gross := some 65535, tare := some 1300 }
     r.gross = some 65535 ∧ r.tare.getD 0 < 65536 ∧
      ((serveHead ⟨.station .sideArm, .charge r⟩ charging).queue.count,
        (serveHead ⟨.station .sideArm, .charge r⟩ charging).queue.nextSeq) = (1, 1)) ∧
    ({ household 7 1 .active with tare := some 1300 }.gross = none ∧
      record.gross = none ∧ record.gross.getD 0 < 65536) ∧
    (let m := { Marker.clear with furthest := .dumped, tag := 7, account := 1, gross := some 44 }
     m.gross = some 44 ∧ 44 < 65536) := by
  and_intros <;> decide +kernel

theorem witness_LiftPriced :
    (storesWell charging ∧ charging.table.moving = false ∧ charging.table.recordCount ≤ 12288 ∧
      charging.clock.seconds < 2 ^ 32 ∧ charging.table.state = .closed) ∧
    (charging.find 7 = some 1 ∧ recAccount (charging.store.record 1) = 1 ∧
      charging.find 9 = none) ∧
    (∀ x ∈ [HouseStatus.active, .suspended, .exempt],
      (household 7 1 x).snapshot = some ⟨1, 0, x, 0⟩ ∧ (household 7 1 x).tag = some 7) ∧
    ((household 7 1 .active).admission ≠ .refused ∧
      { household 7 1 .active with admission := .refused }.admission = .refused ∧
      record.snapshot = none) ∧
    ({ Marker.clear with furthest := .dumped, tag := 7, account := 1 }.account ≠ 0 ∧
      Marker.clear.account = 0) := by
  and_intros <;> decide +kernel

/-! ### The manual's worked examples (expected values from the named files of spec/) -/

/-- 01, R1: both strap pins high give the own node number 19. -/
theorem test_coldStart_node :
    (after (exec (.coldStart 3) State.reset)).map (·.sys.ownNode) = some 19 := by decide +kernel

/-- 06, R98: a mean of −10.5 becomes −11 and one of 10.5 becomes 11. -/
theorem test_mean_ties : roundDiv (-21) 2 = -11 ∧ roundDiv 21 2 = 11 := by decide

/-- 06, R99: the index of the pitches 34, 35, −35 and 151. -/
theorem test_tilt_index : tiltIndex 34 = 3 ∧ tiltIndex 35 = 4 ∧ tiltIndex (-35) = -4 ∧
    tiltIndex 151 = 15 := by decide

/-- 13 at 626CCh and 06, R87: a Tilt Table entry of index −15 below 16,384 is reported with that index. -/
theorem test_tilt_failure : firstFailure 6 (Mem.checkStations [(0x626CD, 0x3F)]) = some ⟨6, 0xFFF1⟩ := by
  decide +kernel

/-- 13, R200 with 01, R7: an enabled entry whose Match is 20000000h, the first value above the identifiers,
is reported with item 1 and its number; 1FFFFFFFh passes. -/
theorem test_match_range : firstFailure 1 (Mem.checkRoutes [(0x624EC, 1), (0x624F3, 0x20)]) = some ⟨1, 63⟩ ∧
    firstFailure 1 (Mem.checkRoutes [(0x624EC, 1), (0x624F0, 0xFF), (0x624F1, 0xFF), (0x624F2, 0xFF),
      (0x624F3, 0x1F)]) = none := by decide +kernel

/-- 03, R41 and 04, R66: a pair error that begins at a Commit puts a station in Homing in Fault with Sensor
Error. -/
theorem test_commit_pair :
    let s := withLift .sideArm { Lift.start with state := .homing } { committable with
      store := committable.store ++ [(0x625E8, 1), (0x625EA, 1)]
      scanner := { ready.scanner with published := 3, filtered := 3 } }
    (after (exec (.commit .service 0) s)).map (fun t => (t.mode.configuring, t.scanner.pairErrors,
      (t.lift .sideArm).state, (t.lift .sideArm).lastFault)) =
        some (false, 1, .fault, some .sensorError) := by decide +kernel

/-- 03, R41, R42 and 04, R65: with the packer's pair error and E-Stop in one read, a station that waits
for the blade goes to Fault from Hold, and no dump is counted. -/
theorem test_halt_in_hold :
    let s := withPacker { Packer.start with state := .extending } (withLift .rearLeft { Lift.start with
        state := .hold, wait := .blade, record := some record } (served 0x10 [(0x625C0, 6), (0x625C4, 7),
      (0x625C5, 8), (0x625E0, 1), (0x625E8, 1), (0x625E9, 5), (0x625EA, 4)]))
    (after (exec (.groupRead 0x31) s)).map (fun t => (t.eStop, (t.lift .rearLeft).state,
      (t.lift .rearLeft).lastFault, t.packer.lastFault, t.packer.dumps)) =
        some (true, .fault, some .eStop, some .sensorError, 0) := by
  decide +kernel

/-- 06, the rear lift with no stable window: gross 4,500, tare 1,300, billed 320. -/
theorem test_rear_figures :
    (netFigures (Mem.writeBytes [] (stationAddr .rearLeft + 12) (leBytes 2 4500)) .rearLeft 4500 1300
      0).billed = 320 := by decide +kernel

/-- 08, one household, two rear lifts: 300 + 8,549 mills, then 5,004 mills. -/
theorem test_band_split : massCharge 1200 300 417 1190 215 = 8849 ∧
    massCharge 1200 300 417 1405 120 = 5004 ∧ massCharge 1200 300 417 1190 120 = 4887 := by decide

/-- 08, a queue wrapping: after 4,294,967,295 the Sequence Number is 1. -/
theorem test_sequence_wrap : nextSeq 4294967295 = 1 ∧ nextSeq 901 = 902 := by decide

/-- 10, an automatic pack that stalls: the fills and their index. -/
theorem test_fill : cycleFill 1200 840 = 30 ∧ cycleFill 1200 660 = 45 ∧
    fillIndex [12, 18, 25] = 18 ∧ fillIndex [12, 18, 25, 30] = 21 ∧
    fillIndex [18, 25, 30, 45] = 30 := by decide

/-- 09, a packer yielding: the capacity of 100 is shared 45, 35 and 20. -/
theorem test_packer_yields :
    let a : Arbiter := { Arbiter.start [.sideArm, .rearLeft, .rearRight] with
      req := ⟨⟨some ⟨.raise, 45, 45⟩, some ⟨.raise, 35, 35⟩, none⟩, some ⟨.extending, 60, 20⟩, none⟩
      grant := ⟨⟨45, 0, 0⟩, 55, 0⟩ }
    (a.run 100 (fun _ => false) [.tailgate, .station .sideArm, .station .rearLeft,
      .station .rearRight, .packer]).grant = ⟨⟨45, 35, 0⟩, 20, 0⟩ := by decide

/-- 11, a step between two records: a difference of 3 steps the clock, and one of 2 does not. -/
theorem test_clock_step :
    let s : State := { ready with
      cfg := Mem.write [] 0x62990 2, clock := { ready.clock with valid := true, seconds := 800000000 } }
    (syncSample 800000002 s).clock.seconds = 800000000 ∧
      (syncSample 800000003 s).clock.stepped = true := by decide +kernel

end Sys2Proof.Tests
end

/-! What a start does to the part: the Cold Start state (O14), and what a Warm Start, a Body Reset start
and a loss of main power keep (O16). A Warm Start that finds no marker is the retained part after the
table has resumed and Body Full has been tested, and each of the two touches a few fields only. -/

namespace Sys2Proof.Proofs

open Sys2Proof Sys2Proof.Machine Sys2Proof.Laws

/-! ### The commands of a start -/

theorem exec_coldStart_eq (na : BitVec 2) (s : State) :
    exec (.coldStart na) s = .next (settleToggles (coldStart na s)) := rfl

theorem exec_warmStart_eq (na : BitVec 2) (s : State) :
    exec (.warmStart na) s = .next (settleToggles (warmStart na s)) := rfl

theorem exec_mainPowerLoss_eq (s : State) : exec .mainPowerLoss s = .next (mainPowerLoss s) := rfl

theorem exec_bodyResetStart_eq (na : BitVec 2) (s : State) :
    exec (.bodyResetStart na) s = .next (handled (bodyResetStart na) s) := rfl

theorem handled_powered {f : State → State} {s : State} (hp : s.sys.powered = true) :
    handled f s = settleToggles (f s) := if_pos hp

/-- Before its blocks act on what they find, a start leaves every function at rest and both toggle
outputs low. -/
theorem settled_restarted (na : BitVec 2) (k : Bool) (s : State) : settled (restarted na k s) :=
  ⟨rfl, rfl⟩

/-! ### The configuration's Cold Start contents -/

theorem statusPeriod_cold : Mem.statusPeriod [] = 500000 := by decide

theorem channelPeriod_cold : ∀ c : Fin 12, Mem.channelPeriod [] c.val = 1024 := by decide

theorem groupStart_cold : Mem.groupStart [] = [.sideArm, .rearLeft, .rearRight] := by decide

/-- With the default periods every valve channel begins a period of 1,024 µs (R156, R162). -/
theorem channels_cold (t : Nat) :
    (Vector.ofFn fun c : Fin 12 => Channel.start t (Mem.channelPeriod [] c.val)) =
      Vector.replicate 12 (Channel.start t 1024) := by
  ext c hc : 1
  rw [Vector.getElem_ofFn, Vector.getElem_replicate, channelPeriod_cold ⟨c, hc⟩]

theorem coldRetained_cfg (s : State) : (coldRetained s).cfg = [] := rfl

theorem startRefusal_reset (st : Station) : State.reset.startRefusal st = some .notReady := rfl

/-- Settles O14: a start leaves the toggle outputs settled, so a Cold Start is `restarted` on the Cold
Start contents, whose periods and group order are the defaults. -/
theorem coldStartState : Obligations.ColdStartState := by
  intro na s
  refine ⟨?_, startRefusal_reset⟩
  obtain ⟨hbeacon, hhorn⟩ := settled_restarted na false (coldRetained s)
  rw [exec_coldStart_eq, coldStart, settleToggles_same hbeacon hhorn]
  simp only [restarted, coldRetained_cfg, statusPeriod_cold, groupStart_cold, channels_cold]
  rfl

/-! ### A notice leaves the Agent's requests alone -/

/-- The Agent with no notice pending or sent: all of it that a notice leaves alone (R196). -/
def unnoticed (a : Agent) : Agent :=
  { a with notices := 0, sendNeeded := false, spacing := .stopped, noticesSent := 0 }

theorem sendNotice_unnoticed (s : State) :
    unnoticed (sendNotice s).agent = unnoticed s.agent := by
  have hoffer (f : Frame) : (offerControl f false s).agent = s.agent :=
    offerControl_keeps State.agent keeps_agent.mono _ _ _
  simp only [sendNotice, setAgent_agent, unnoticed, hoffer]

theorem raiseNotice_unnoticed (k : Notice) (s : State) :
    unnoticed (raiseNotice k s).agent = unnoticed s.agent := by
  unfold raiseNotice
  split
  · rfl
  · dsimp only
    split
    · rfl
    · exact sendNotice_unnoticed _

theorem testBodyFull_unnoticed (s : State) :
    unnoticed (testBodyFull s).agent = unnoticed s.agent := by
  unfold testBodyFull
  dsimp only
  split
  · exact raiseNotice_unnoticed _ _
  · rfl

theorem beginCheck_unnoticed (s : State) :
    unnoticed (beginCheck s).agent = unnoticed s.agent := by
  unfold beginCheck
  dsimp only
  split
  · exact raiseNotice_unnoticed _ _
  · rfl

theorem resumeTable_unnoticed (s : State) :
    unnoticed (resumeTable s).agent = unnoticed s.agent := by
  unfold resumeTable
  split
  · rfl
  · split
    · exact beginCheck_unnoticed s
    · rfl

/-! ### Body Full's test leaves the payload's retained items alone (R172) -/

theorem testBodyFull_payload (s : State) :
    (testBodyFull s).payload = { s.payload with bodyFull := s.bodyFullTest } := by
  unfold testBodyFull
  dsimp only
  split
  · exact raiseNotice_keeps State.payload keeps_payload.mono _ _
  · rfl

/-! ### The records that a check tests (R117) -/

/-- A check from a position on tests at least one of the records before it, and no more than all. -/
theorem checkFrom_tested (m : Mem) (p n : Nat) :
    (0 < n → p < (m.checkFrom p n).tested) ∧ (m.checkFrom p n).tested ≤ p + n := by
  induction n generalizing p with
  | zero => simp [Mem.checkFrom]
  | succ n ih =>
    obtain ⟨hsome, hall⟩ := ih (p + 1)
    simp only [Mem.checkFrom]
    split
    · simp
    · rcases Nat.eq_zero_or_pos n with rfl | hn
      · simp [Mem.checkFrom]
      · have := hsome hn
        omega

theorem check_empty (m : Mem) : m.check 0 = ⟨.passed, 0, 0⟩ := rfl

theorem check_tooLarge (m : Mem) {n : Nat} (h : 12288 < n) :
    m.check n = ⟨.countTooLarge, Config.maxRecords, 0⟩ := if_pos h

theorem check_tested (m : Mem) {n : Nat} (h0 : 0 < n) (hn : n ≤ 12288) :
    0 < (m.check n).tested ∧ (m.check n).tested ≤ n := by
  have hcheck : m.check n = m.checkFrom 0 n := if_neg (Nat.not_lt.mpr hn)
  obtain ⟨hsome, hall⟩ := checkFrom_tested m 0 n
  rw [hcheck]
  exact ⟨hsome h0, by omega⟩

/-! ### The table after a start (R124) -/

/-- A check that ends gives its result and leaves the records and the journal alone. -/
theorem endCheck_table (s : State) :
    (endCheck s).table.state =
      (if (s.store.check s.table.recordCount).result = .passed then .closed else .invalid) ∧
    (endCheck s).table.recordCount = s.table.recordCount ∧
    (endCheck s).table.journal = s.table.journal := by
  unfold endCheck
  dsimp only
  rw [raiseNotice_keeps State.table keeps_table.mono]
  exact ⟨rfl, rfl, rfl⟩

/-- A check that tests no record ends at once. -/
theorem beginCheck_none {s : State} (h : (s.store.check s.table.recordCount).tested = 0) :
    (beginCheck s).table.state =
      if (s.store.check s.table.recordCount).result = .passed then .closed else .invalid := by
  unfold beginCheck
  dsimp only
  rw [if_pos h]
  exact (endCheck_table _).1

/-- A check that tests records runs for 2 µs each. -/
theorem beginCheck_some {s : State} (h : 0 < (s.store.check s.table.recordCount).tested) :
    (beginCheck s).table.state = .checking ∧ (beginCheck s).table.checkTimer =
      .running (s.now + 2 * (s.store.check s.table.recordCount).tested) := by
  unfold beginCheck
  dsimp only
  rw [if_neg h.ne']
  exact ⟨rfl, rfl⟩

theorem beginCheck_retains (s : State) :
    (beginCheck s).table.recordCount = s.table.recordCount ∧
    (beginCheck s).table.journal = s.table.journal := by
  unfold beginCheck
  dsimp only
  split
  · exact (endCheck_table _).2
  · exact ⟨rfl, rfl⟩

theorem resumeTable_busy {s : State} (h : s.table.busy = true) :
    resumeTable s =
      s.setTable { s.table with state := .closed, moveTimer := s.table.nextMove s.now } := if_pos h

theorem resumeTable_checking {s : State} (hb : s.table.busy = false)
    (hc : s.table.state = .checking) : resumeTable s = beginCheck s := by
  simp [resumeTable, hb, hc]

theorem resumeTable_rests {s : State} (hb : s.table.busy = false)
    (hc : s.table.state ≠ .checking) : resumeTable s = s := by
  simp [resumeTable, hb, hc]

theorem resumeTable_retains (s : State) :
    (resumeTable s).table.recordCount = s.table.recordCount ∧
    (resumeTable s).table.journal = s.table.journal := by
  unfold resumeTable
  split
  · exact ⟨rfl, rfl⟩
  · split
    · exact beginCheck_retains s
    · exact ⟨rfl, rfl⟩

/-- The next event of a move or walk: an Insert's last write takes its 2 µs as a record step does. -/
theorem nextMove_eq (tb : Table) (t : Nat) : tb.nextMove t =
    .running (if tb.stepsLeft = true ∨ tb.journal.op = .insert then t + 2 else t) := by
  unfold Table.nextMove
  simp only [Bool.or_eq_true, beq_iff_eq]
  split <;> rfl

/-! ### A start that finds no marker (R72, R176) -/

theorem markerStation_clear {s : State} {st : Station} (h : (s.marker st).furthest = .clear) :
    markerStation s st = s := if_pos h

theorem markerStations_clear {s : State} (h : ∀ st : Station, (s.marker st).furthest = .clear)
    (l : List Station) : l.foldl markerStation s = s := by
  induction l with
  | nil => rfl
  | cons st l ih => rw [List.foldl_cons, markerStation_clear (h st), ih]

theorem markerTailgate_clear {s : State} (h : s.tailgate.marker = .clear) :
    markerTailgate s = s := by
  unfold markerTailgate
  rw [h]

theorem serveBilling_nil {s : State} (h : s.billing.list = []) : serveBilling s = s := by
  unfold serveBilling
  rw [h]
  rfl

/-- With no marker and no request, the table resumes and Body Full is tested, and nothing more. -/
theorem resume_unmarked {s : State} (hst : ∀ st : Station, (s.marker st).furthest = .clear)
    (htg : s.tailgate.marker = .clear) (hb : s.billing.list = []) :
    resume s = testBodyFull (resumeTable s) := by
  have hmarkers := resumeTable_keeps State.markers keeps_markers.mono s
  have htailgate := resumeTable_keeps State.tailgate keeps_tailgate.mono s
  have hbilling := resumeTable_keeps State.billing keeps_billing.mono s
  have hst' : ∀ st : Station, ((resumeTable s).marker st).furthest = .clear := by
    intro st
    rw [State.marker, hmarkers]
    exact hst st
  unfold resume
  rw [markerStations_clear hst', markerTailgate_clear (htailgate ▸ htg),
    serveBilling_nil (hbilling ▸ hb)]

/-- The part after a Warm Start that finds no marker. -/
def unmarkedStart (na : BitVec 2) (s : State) : State :=
  settleToggles (testBodyFull (resumeTable (restarted na true s)))

theorem exec_warmStart_unmarked (na : BitVec 2) {s : State}
    (hst : ∀ st : Station, (s.marker st).furthest = .clear) (htg : s.tailgate.marker = .clear) :
    exec (.warmStart na) s = .next (unmarkedStart na s) := by
  rw [exec_warmStart_eq, warmStart, resume_unmarked (s := restarted na true s) hst htg rfl]
  rfl

/-- Such a start leaves alone what neither the table, Body Full, their notices nor the toggle outputs
touch. -/
theorem unmarkedStart_keeps {α : Type} (π : State → α)
    (hk : Keeps π [.body, .control, .table, .payload, .toggles, .agent])
    (na : BitVec 2) (s : State) : π (unmarkedStart na s) = π (restarted na true s) := by
  unfold unmarkedStart
  rw [settleToggles_keeps π hk.mono, testBodyFull_keeps π hk.mono, resumeTable_keeps π hk.mono]

theorem unmarkedStart_table (na : BitVec 2) (s : State) :
    (unmarkedStart na s).table = (resumeTable (restarted na true s)).table := by
  unfold unmarkedStart
  rw [settleToggles_keeps State.table keeps_table.mono,
    testBodyFull_keeps State.table keeps_table.mono]

theorem unmarkedStart_payload (na : BitVec 2) (s : State) :
    (unmarkedStart na s).payload.mass = s.payload.mass ∧
    (unmarkedStart na s).payload.fills = s.payload.fills := by
  unfold unmarkedStart
  rw [settleToggles_keeps State.payload keeps_payload.mono, testBodyFull_payload,
    resumeTable_keeps State.payload keeps_payload.mono]
  exact ⟨rfl, rfl⟩

theorem unmarkedStart_unnoticed (na : BitVec 2) (s : State) :
    unnoticed (unmarkedStart na s).agent = Agent.start := by
  unfold unmarkedStart
  rw [settleToggles_keeps State.agent keeps_agent.mono, testBodyFull_unnoticed,
    resumeTable_unnoticed]
  rfl

/-- What of the Agent no notice touches is as after every start (R197, R198). -/
theorem unmarkedStart_agent {α : Type} (ρ : Agent → α) (hρ : ∀ a, ρ (unnoticed a) = ρ a)
    (na : BitVec 2) (s : State) : ρ (unmarkedStart na s).agent = ρ Agent.start := by
  rw [← hρ, unmarkedStart_unnoticed]

theorem unmarkedStart_queue (na : BitVec 2) (s : State) :
    let q := (unmarkedStart na s).queue
    q.head = s.queue.head ∧ q.count = s.queue.count ∧ q.nextSeq = s.queue.nextSeq ∧
      q.reserved = 0 := by
  rw [unmarkedStart_keeps State.queue keeps_queue.mono]
  exact ⟨rfl, rfl, rfl, rfl⟩

theorem unmarkedStart_clock (na : BitVec 2) (s : State) :
    let c := (unmarkedStart na s).clock
    c.seconds = s.clock.seconds ∧ c.valid = s.clock.valid ∧ c.stepped = s.clock.stepped := by
  rw [unmarkedStart_keeps State.clock keeps_clock.mono]
  exact ⟨rfl, rfl, rfl⟩

theorem unmarkedStart_journal (na : BitVec 2) (s : State) :
    (unmarkedStart na s).table.recordCount = s.table.recordCount ∧
    (unmarkedStart na s).table.journal = s.table.journal := by
  rw [unmarkedStart_table]
  exact resumeTable_retains _

/-- A move or walk goes on from the journal's next index (R124). -/
theorem unmarkedStart_move (na : BitVec 2) {s : State} (hb : s.table.busy = true) :
    let t := unmarkedStart na s
    t.table.state = .closed ∧ t.table.moveTimer =
      .running (if t.table.stepsLeft = true ∨ s.table.journal.op = .insert then s.sys.now + 2
        else s.sys.now) := by
  dsimp only
  rw [unmarkedStart_table, resumeTable_busy (s := restarted na true s) hb, setTable_table]
  exact ⟨rfl, nextMove_eq _ _⟩

/-- A check begins again (R124). -/
theorem unmarkedStart_check (na : BitVec 2) {s : State} (hb : s.table.busy = false)
    (hc : s.table.state = .checking) :
    let t := unmarkedStart na s
    (s.table.recordCount = 0 → t.table.state = .closed) ∧
    (12288 < s.table.recordCount → t.table.state = .invalid) ∧
    (0 < s.table.recordCount → s.table.recordCount ≤ 12288 →
      ∃ n, 0 < n ∧ n ≤ s.table.recordCount ∧ t.table.state = .checking ∧
        t.table.checkTimer = .running (s.sys.now + 2 * n)) := by
  dsimp only
  rw [unmarkedStart_table, resumeTable_checking (s := restarted na true s) hb hc]
  have hcheck : (restarted na true s).store.check (restarted na true s).table.recordCount =
    s.store.check s.table.recordCount := rfl
  refine ⟨fun h0 => ?_, fun hlarge => ?_, fun h0 hn => ?_⟩
  · rw [h0, check_empty] at hcheck
    rw [beginCheck_none (by rw [hcheck]), hcheck]
    rfl
  · rw [check_tooLarge _ hlarge] at hcheck
    rw [beginCheck_none (by rw [hcheck]), hcheck]
    rfl
  · obtain ⟨hpos, hle⟩ := check_tested s.store h0 hn
    obtain ⟨hstate, htimer⟩ := beginCheck_some (s := restarted na true s) hpos
    exact ⟨_, hpos, hle, hstate, htimer⟩

theorem unmarkedStart_rests (na : BitVec 2) {s : State} (hb : s.table.busy = false)
    (hc : s.table.state ≠ .checking) : (unmarkedStart na s).table.state = s.table.state := by
  rw [unmarkedStart_table, resumeTable_rests (s := restarted na true s) hb hc]
  rfl

/-! ### A start's functions at rest (R71, R104, R162) -/

theorem restarted_stations (na : BitVec 2) (k : Bool) (s : State) (st : Station) :
    ((restarted na k s).lift st).state = .idle ∧
    ((restarted na k s).scale st).pendingZero = none := by
  cases st <;> exact ⟨rfl, rfl⟩

theorem restarted_requests (na : BitVec 2) (k : Bool) (s : State) (r : Requester) :
    (restarted na k s).request r = none ∧ (restarted na k s).grant r = 0 := by
  cases r with
  | station st => cases st <;> exact ⟨rfl, rfl⟩
  | packer => exact ⟨rfl, rfl⟩
  | tailgate => exact ⟨rfl, rfl⟩

theorem restarted_applied (na : BitVec 2) (k : Bool) (s : State) (c : Fin 12) :
    ((restarted na k s).channels[c]).applied = 0 := by
  simp [restarted, Channel.start]

/-- Every function is at rest after a start that finds no marker, with no grant and every valve low. -/
theorem unmarkedStart_atRest (na : BitVec 2) (s : State) :
    let t := unmarkedStart na s
    (∀ st : Station, (t.lift st).state = .idle ∧ (t.scale st).pendingZero = none) ∧
    t.packer.state = .parked ∧ (∀ r : Requester, t.request r = none ∧ t.grant r = 0) ∧
    (∀ c : Fin 12, (t.channels[c]).applied = 0) := by
  simp only [State.lift, State.scale, State.request, State.grant,
    unmarkedStart_keeps State.lifts keeps_lifts.mono,
    unmarkedStart_keeps State.weigh keeps_weigh.mono,
    unmarkedStart_keeps State.packer keeps_packer.mono,
    unmarkedStart_keeps State.arbiter keeps_arbiter.mono,
    unmarkedStart_keeps State.channels keeps_channels.mono]
  exact ⟨restarted_stations na true s, rfl, restarted_requests na true s,
    restarted_applied na true s⟩

theorem mainPowerLoss_applied (s : State) (c : Fin 12) :
    ((mainPowerLoss s).channels[c]).applied = 0 := by
  simp [mainPowerLoss, restarted, Channel.start]

/-! ### The Body Reset start (R1, R198) -/

theorem exec_bodyResetStart_due (na : BitVec 2) {s : State} (hp : s.sys.powered = true)
    (hd : s.resetDue = true) (hk : s.sys.kgood = true) :
    exec (.bodyResetStart na) s = exec (.warmStart na) s := by
  rw [exec_bodyResetStart_eq, handled_powered hp, bodyResetStart, if_pos hd, hk]
  rfl

theorem exec_bodyResetStart_waits (na : BitVec 2) {s : State} (hl : live s)
    (hd : s.resetDue = false) : exec (.bodyResetStart na) s = .next s := by
  obtain ⟨hp, hbeacon, hhorn⟩ := hl
  rw [exec_bodyResetStart_eq, handled_powered hp, bodyResetStart, if_neg (by simp [hd]),
    settleToggles_same hbeacon hhorn]

/-- Settles O16: a Warm Start that finds no marker, the Body Reset start by its wait, and the loss of
main power. -/
theorem retainedKept : Obligations.RetainedKept := by
  intro na s
  refine ⟨fun hst htg => ⟨unmarkedStart na s, exec_warmStart_unmarked na hst htg, ?_⟩,
    fun hl hd hk => exec_bodyResetStart_due na hl.1 hd hk, exec_bodyResetStart_waits na,
    mainPowerLoss s, exec_mainPowerLoss_eq s, ?_⟩
  · obtain ⟨hhead, hcount, hseq, hreserved⟩ := unmarkedStart_queue na s
    obtain ⟨hrecords, hjournal⟩ := unmarkedStart_journal na s
    obtain ⟨hmass, hfills⟩ := unmarkedStart_payload na s
    obtain ⟨hseconds, hvalid, hstepped⟩ := unmarkedStart_clock na s
    obtain ⟨hstations, hpacker, hrequests, hchannels⟩ := unmarkedStart_atRest na s
    exact ⟨unmarkedStart_keeps State.store keeps_store.mono na s,
      unmarkedStart_keeps State.cfg keeps_cfg.mono na s,
      unmarkedStart_keeps State.zeros keeps_zeros.mono na s,
      unmarkedStart_keeps State.markers keeps_markers.mono na s,
      unmarkedStart_keeps State.mode keeps_mode.mono na s,
      hhead, hcount, hseq, hreserved, hrecords, hjournal, unmarkedStart_move na,
      unmarkedStart_check na, unmarkedStart_rests na, hmass, hfills, hseconds, hvalid, hstepped,
      unmarkedStart_keeps State.pending keeps_pending.mono na s, hstations, hpacker,
      congrArg Tailgate.state (unmarkedStart_keeps State.tailgate keeps_tailgate.mono na s),
      hrequests, hchannels,
      unmarkedStart_agent Agent.bankBase (fun _ => rfl) na s,
      unmarkedStart_agent Agent.terminalPtr (fun _ => rfl) na s,
      unmarkedStart_agent Agent.servicePtr (fun _ => rfl) na s,
      unmarkedStart_agent Agent.queue (fun _ => rfl) na s,
      unmarkedStart_agent Agent.deferred (fun _ => rfl) na s⟩
  · exact ⟨rfl, rfl, rfl, rfl, rfl, rfl, rfl, rfl, rfl, rfl, rfl, rfl, rfl, rfl, rfl, rfl, rfl, rfl,
      rfl, mainPowerLoss_applied s, rfl, rfl, rfl⟩

end Sys2Proof.Proofs

/-! Every command runs, and operands outside a row's form are read as the frame that would carry them (O2). -/

namespace Sys2Proof.Proofs

open Sys2Proof Sys2Proof.Machine Sys2Proof.Laws

theorem exec_total (c : Instr) (s : State) : ∃ t, exec c s = .next t := by
  cases c <;> exact ⟨_, rfl⟩

/-- A handling that a settled part with power takes, and that leaves the functions' states as they are. -/
theorem handled_settled {f : State → State} {s : State} (hp : s.sys.powered = true)
    (hf : settled (f s)) : handled f s = f s :=
  (handled_powered hp).trans (settleToggles_same hf.1 hf.2)

/-! ### Operands outside a row's form (log entry 1) -/

theorem carriedFrame_take (id : BitVec 29) (data : List Byte) :
    carriedFrame ⟨true, id, data.take 8⟩ = carriedFrame ⟨true, id, data⟩ := by
  simp [carriedFrame, frameData, List.take_take]

theorem carriedBody_write_take (addr : BitVec 16) (len : Byte) (bytes : List Byte) :
    carriedBody (.write addr len (bytes.take 4)) = carriedBody (.write addr len bytes) := by
  simp [carriedBody, List.take_take]

theorem carriedBody_writeNext_take (len : Byte) (bytes : List Byte) :
    carriedBody (.writeNext len (bytes.take 6)) = carriedBody (.writeNext len bytes) := by
  simp [carriedBody, List.take_take]

theorem exec_frameReceived_eq (p : Port) (f : Frame) (s : State) :
    exec (.frameReceived p f) s = .next (handled (frameReceived p (carriedFrame f)) s) := rfl

theorem exec_write_eq (m : Manager) (tag : BitVec 4) (addr : BitVec 16) (len : Byte)
    (bytes : List Byte) (s : State) : exec (.write m tag addr len bytes) s =
      .next (handled (submit m tag (carriedBody (.write addr len bytes))) s) := rfl

theorem exec_writeNext_eq (m : Manager) (tag : BitVec 4) (len : Byte) (bytes : List Byte)
    (s : State) : exec (.writeNext m tag len bytes) s =
      .next (handled (submit m tag (carriedBody (.writeNext len bytes))) s) := rfl

theorem exec_unknownRequest_eq (m : Manager) (tag : BitVec 4) (kind code : Byte) (s : State) :
    exec (.unknownRequest m tag kind code) s =
      .next (handled (submit m tag (codedRequest kind code)) s) := rfl

/-- A byte with zero bytes behind it, as the two bytes of an address. -/
theorem addr_of_byte (b : Byte) : BitVec.ofNat 16 (ofLe [b, 0]) = b.setWidth 16 := by
  apply BitVec.eq_of_toNat_eq
  simp [ofLe]

/-- A request of one of the five kinds that read or write, with zero bytes behind its code. -/
theorem codedRequest_access (b : Byte) :
    codedRequest 1 b = .read (b.setWidth 16) 0 ∧
    codedRequest 2 b = .write (b.setWidth 16) 0 [0, 0] ∧
    codedRequest 3 b = .setPointer (b.setWidth 16) ∧
    codedRequest 4 b = .readNext b ∧
    codedRequest 5 b = .writeNext b [0, 0, 0, 0] := by
  rw [← addr_of_byte b]
  exact ⟨rfl, rfl, rfl, rfl, rfl⟩

theorem codedRequest_command (code : Byte) : codedRequest 6 code = .command code 0 := rfl

/-- Data too short for their class reach no owner (R9). -/
theorem handData_short {c : BodyClass} {data : List Byte} {s : State}
    (owner : List Byte → State → State) (hd : data.length < c.minLength.getD 0) :
    handData c data owner s = countMalformed s := if_pos hd

/-- Settles O2. -/
theorem everyCommandRuns : Obligations.EveryCommandRuns := by
  refine ⟨exec_total, fun m src tag s => ⟨fun p id data => ?_, fun addr len bytes => ⟨?_, ?_, rfl⟩,
    fun b => ?_, ?_, fun hl data hd => ?_⟩⟩
  · rw [exec_frameReceived_eq, exec_frameReceived_eq, carriedFrame_take]
  · rw [exec_write_eq, exec_write_eq, carriedBody_write_take]
  · rw [exec_writeNext_eq, exec_writeNext_eq, carriedBody_writeNext_take]
  · obtain ⟨hread, hwrite, hpointer, hreadNext, hwriteNext⟩ := codedRequest_access b
    simp only [exec_unknownRequest_eq, hread, hwrite, hpointer, hreadNext, hwriteNext]
    exact ⟨rfl, rfl, rfl, rfl, rfl, rfl, rfl, rfl, rfl, rfl, rfl, rfl, rfl⟩
  · simp only [exec_unknownRequest_eq, codedRequest_command]
    exact ⟨rfl, rfl, rfl, rfl, rfl, rfl, rfl, rfl, rfl, rfl, rfl, rfl, rfl, rfl, rfl, rfl, rfl, rfl,
      rfl, rfl⟩
  · obtain ⟨hp, ht⟩ := hl
    have short (c : BodyClass) (hc : c.minLength = some 2) (owner : List Byte → State → State) :
        handled (handData c data owner) s = countMalformed s := by
      have hs : handData c data owner s = countMalformed s :=
        handData_short owner (by rw [hc]; exact hd)
      rw [handled_settled hp (hs ▸ ht), hs]
    exact ⟨congrArg _ (short .nodeData rfl _), congrArg _ (short .managementRequest rfl _)⟩

end Sys2Proof.Proofs

/-! The ports and routes: what one replacement of a port or a route leaves of the others, the arbiter's
choice, and the way of a received frame that no block takes (O18, and O17's Default Action). -/

namespace Sys2Proof.Proofs

open Sys2Proof Sys2Proof.Machine Sys2Proof.Laws

/-! ### One port and one route at a time -/

@[simp] theorem port_setPort (s : State) (p : Port) (x : PortState) : (s.setPort p x).port p = x := by
  cases p <;> rfl

@[simp] theorem port_other_setPort (s : State) (p : Port) (x : PortState) :
    (s.setPort p x).port p.other = s.port p.other := by cases p <;> rfl

@[simp] theorem port_setPort_other (s : State) (p : Port) (x : PortState) :
    (s.setPort p.other x).port p = s.port p := by cases p <;> rfl

@[simp] theorem setPort_self (s : State) (p : Port) : s.setPort p (s.port p) = s := by cases p <;> rfl

@[simp] theorem setPort_setPort (s : State) (p : Port) (x y : PortState) :
    (s.setPort p x).setPort p y = s.setPort p y := by cases p <;> rfl

@[simp] theorem setPort_cfg (s : State) (p : Port) (x : PortState) : (s.setPort p x).cfg = s.cfg := by
  cases p <;> rfl

@[simp] theorem setPort_sys (s : State) (p : Port) (x : PortState) : (s.setPort p x).sys = s.sys := by
  cases p <;> rfl

@[simp] theorem setPort_mode (s : State) (p : Port) (x : PortState) :
    (s.setPort p x).mode = s.mode := by cases p <;> rfl

@[simp] theorem setPort_routes (s : State) (p : Port) (x : PortState) :
    (s.setPort p x).routes = s.routes := by cases p <;> rfl

@[simp] theorem setPort_slots (s : State) (p : Port) (x : PortState) :
    (s.setPort p x).slots = s.slots := by cases p <;> rfl

@[simp] theorem setPort_agent (s : State) (p : Port) (x : PortState) :
    (s.setPort p x).agent = s.agent := by cases p <;> rfl

@[simp] theorem setPort_route (s : State) (p : Port) (x : PortState) (i : Fin 64) :
    (s.setPort p x).route i = s.route i := by cases p <;> rfl

@[simp] theorem setRoute_port (s : State) (i : Fin 64) (r : RouteState) (p : Port) :
    (s.setRoute i r).port p = s.port p := by cases p <;> rfl

@[simp] theorem setRoute_cfg (s : State) (i : Fin 64) (r : RouteState) :
    (s.setRoute i r).cfg = s.cfg := rfl

@[simp] theorem setRoute_sys (s : State) (i : Fin 64) (r : RouteState) :
    (s.setRoute i r).sys = s.sys := rfl

@[simp] theorem route_setRoute (s : State) (i : Fin 64) (r : RouteState) :
    (s.setRoute i r).route i = r := by
  simp [State.setRoute, State.route]

theorem route_setRoute_other (s : State) {i j : Fin 64} (r : RouteState) (h : j ≠ i) :
    (s.setRoute i r).route j = s.route j := by
  have hij : i.val ≠ j.val := fun e => h (Fin.ext e.symm)
  simp [State.setRoute, State.route, Vector.getElem_set_ne _ _ hij]

@[simp] theorem setRoute_setRoute (s : State) (i : Fin 64) (r x : RouteState) :
    (s.setRoute i r).setRoute i x = s.setRoute i x := by
  simp [State.setRoute, State.setRoutes, Vector.set]

@[simp] theorem firstWaits_setPort (s : State) (p : Port) (x : PortState) :
    (s.setPort p x).firstWaits = s.firstWaits := by
  funext q
  cases p <;> cases q <;> rfl

theorem settled_setPort (s : State) (p : Port) (x : PortState) :
    settled (s.setPort p x) ↔ settled s := by cases p <;> rfl

theorem settled_setRoute (s : State) (i : Fin 64) (r : RouteState) :
    settled (s.setRoute i r) ↔ settled s := Iff.rfl

theorem dropOn_setRoute (s : State) (i : Fin 64) (r : RouteState) :
    dropOn i (s.setRoute i r) = s.setRoute i { r with dropped := bump r.dropped } := by
  simp [dropOn]

/-- What no function's state enters into leaves the toggle conditions as they are. -/
theorem keeps_settled : Keeps settled [.sys, .mode, .store, .cfg, .chassis, .body, .statusBuffer,
    .control, .routes, .statusTimer, .slots, .signals, .scanner, .foreignCommands, .markers, .tags,
    .weigh, .zeros, .table, .billing, .queue, .arbiter, .channels, .payload, .clock, .snaps, .agent,
    .pending] := by
  intro f hf
  cases f <;> first | exact fun _ _ => rfl | exact absurd hf (by decide)

/-! ### The transmit arbiter (R6) -/

/-- The arbiter replaces the choice of its port, and nothing else. -/
theorem chooseTx_sets (p : Port) (s : State) :
    ∃ tx, chooseTx p s = s.setPort p { s.port p with tx := tx } := by
  unfold chooseTx
  dsimp only
  split
  · exact ⟨(s.port p).tx, (setPort_self s p).symm⟩
  · split
    · exact ⟨_, rfl⟩
    · split
      · exact ⟨_, rfl⟩
      · exact ⟨(s.port p).tx, (setPort_self s p).symm⟩

theorem rechooseTx_sets (p : Port) (s : State) :
    ∃ tx, rechooseTx p s = s.setPort p { s.port p with tx := tx } := by
  obtain ⟨tx, h⟩ := chooseTx_sets p (s.setPort p { s.port p with tx := none })
  exact ⟨tx, by simpa [rechooseTx] using h⟩

/-- A free port chooses the store that it prefers, when a frame waits there. -/
theorem rechooseTx_first {p : Port} {s : State} (hoff : (s.port p).off = false)
    (hwait : (s.port p).waitRecessive = false) (hf : s.firstWaits p = true) :
    ((rechooseTx p s).port p).tx = some .first := by
  simp [rechooseTx, chooseTx, hoff, hwait, hf]

/-- A Forward Queue takes a frame at its tail. -/
theorem pushForward_sets (p : Port) (f : Frame) (o : Option (Fin 64)) (s : State) :
    ∃ tx, pushForward p f o s =
      s.setPort p { s.port p with forward := (s.port p).forward ++ [⟨f, o⟩], tx := tx } := by
  obtain ⟨tx, h⟩ := chooseTx_sets p
    (s.setPort p { s.port p with forward := (s.port p).forward ++ [⟨f, o⟩] })
  exact ⟨tx, by simpa [pushForward] using h⟩

/-! ### A received frame (R2, R8, R9) -/

theorem carriedFrame_wf {f : Frame} (hf : f.wf = true) : carriedFrame f = f := by
  obtain ⟨ext, id, data⟩ := f
  simp only [Frame.wf, Bool.and_eq_true, decide_eq_true_eq, Bool.or_eq_true] at hf
  obtain ⟨hlen, hid⟩ := hf
  have hdata : frameData data = data := List.take_of_length_le hlen
  have hmask : (if ext then id else id &&& 0x7FF) = id := by
    cases ext with
    | true => rfl
    | false =>
      have hid : id.toNat ≤ 2 ^ 11 - 1 := hid.resolve_left Bool.false_ne_true
      apply BitVec.eq_of_toNat_eq
      have h := Nat.and_two_pow_sub_one_eq_mod id.toNat 11
      simp only [Bool.false_eq_true, if_false, BitVec.toNat_and]
      exact h.trans (Nat.mod_eq_of_lt (by omega))
  simp only [carriedFrame, hdata, hmask]

theorem countReceived_eq (p : Port) (s : State) :
    countReceived p s = s.setPort p (s.port p).heard := by
  simp [countReceived, receivedWell, PortState.heard]

theorem dispatch_undelivered {f : Frame} {s : State}
    (h : s.addressed f = false ∨ (frameClass f).bind BodyClass.minLength = none) :
    dispatch f s = s := by
  unfold dispatch
  split
  · rfl
  · next c hc =>
    split
    · rfl
    · next n hn => rw [if_pos (by simpa [hc, hn] using h)]

/-- Of a frame that no block takes, a port hands the Frame Router all there is to do. -/
theorem frameReceived_undelivered {p : Port} {f : Frame} {s : State} (hoff : (s.port p).off = false)
    (hn : notDelivered s p f) :
    frameReceived p f s = serveAgent (routeFrame p f (s.setPort p (s.port p).heard)) := by
  have hd : (if p = .body then dispatch f (countReceived p s) else countReceived p s) =
      s.setPort p (s.port p).heard := by
    rw [countReceived_eq]
    split
    · next hp =>
      refine dispatch_undelivered (Or.imp_left (fun h => ?_) (hn.resolve_left (by simp [hp])))
      simpa [State.addressed] using h
    · rfl
  unfold frameReceived
  rw [if_neg (by simp [hoff])]
  exact congrArg (fun x => serveAgent (routeFrame p f x)) hd

theorem serveAgent_rests {s : State} (h : agentRests s) : serveAgent s = s := by
  unfold serveAgent
  cases hq : s.agent.queue with
  | nil => rfl
  | cons r l =>
    have hh : s.agent.hold ≠ .none := fun hh => by simp [h hh] at hq
    unfold serveQueue
    simp only [List.length_cons]
    split
    · next hn _ => exact absurd hn hh
    · rfl

theorem agentRests_congr {s t : State} (h : t.agent = s.agent) : agentRests t ↔ agentRests s := by
  unfold agentRests
  rw [h]

/-- A frame that no block takes, in a part at rest: what the Frame Router makes of it. -/
theorem exec_undelivered {p : Port} {f : Frame} {s : State} (hl : live s) (hf : f.wf = true)
    (hoff : (s.port p).off = false) (hn : notDelivered s p f) :
    exec (.frameReceived p f) s =
      .next (settleToggles (serveAgent (routeFrame p f (s.setPort p (s.port p).heard)))) := by
  rw [exec_frameReceived_eq, handled_powered hl.1, carriedFrame_wf hf,
    frameReceived_undelivered hoff hn]

/-- The same, when the Frame Router leaves the Agent and the functions alone. -/
theorem exec_undelivered_next {p : Port} {f : Frame} {s t : State} (hl : live s) (ha : agentRests s)
    (hf : f.wf = true) (hoff : (s.port p).off = false) (hn : notDelivered s p f)
    (ht : routeFrame p f (s.setPort p (s.port p).heard) = t)
    (hagent : t.agent = s.agent) (hset : settled t) : exec (.frameReceived p f) s = .next t := by
  rw [exec_undelivered hl hf hoff hn, ht, serveAgent_rests ((agentRests_congr hagent).mpr ha),
    settleToggles_same hset.1 hset.2]

/-! ### The Default Action (R12) -/

theorem routeFrame_default {p : Port} {f : Frame} {s : State}
    (h : s.mode.configuring = true ∨ s.cfg.findRoute p f = none) :
    routeFrame p f s = defaultAction p f s := by
  unfold routeFrame
  rcases h with h | h
  · rw [if_pos h]
  · simp only [h, ite_self]

/-! ### The entry that a frame matches (R8, R10) -/

theorem routeFrame_matched {p : Port} {f : Frame} {i : Fin 64} {s : State}
    (hm : s.mode.configuring = false) (hr : s.cfg.findRoute p f = some i) :
    routeFrame p f s = applyRoute i p f s := by
  simp [routeFrame, hm, hr]

theorem applyRoute_drop {i : Fin 64} {p : Port} {f : Frame} {s : State}
    (h : s.cfg.routeAction i = .drop) :
    applyRoute i p f s =
      dropOn i (s.setRoute i { s.route i with matched := bump (s.route i).matched }) := by
  simp [applyRoute, h, RouteAction.taps, RouteAction.offers]

theorem applyRoute_untapped {i : Fin 64} {p : Port} {f : Frame} {s : State}
    (ht : (s.cfg.routeAction i).taps = false) (h : s.cfg.routeAction i ≠ .drop) :
    applyRoute i p f s = forwardRouted i p.other f
      (s.setRoute i { s.route i with matched := bump (s.route i).matched }) := by
  cases ha : s.cfg.routeAction i <;> simp [ha, RouteAction.taps] at ht h <;>
    simp [applyRoute, ha, RouteAction.taps, RouteAction.offers]

/-! ### The limit of a route (R13) -/

theorem forwardRouted_unlimited {i : Fin 64} {p : Port} {f : Frame} {s : State}
    (h : s.cfg.routeInterval i = 0) :
    forwardRouted i p f s = if s.canForward p then pushForward p (s.cfg.translated i f) (some i) s
      else dropOn i s := if_pos h

theorem forwardRouted_off {i : Fin 64} {p : Port} {f : Frame} {s : State}
    (h : s.cfg.routeInterval i ≠ 0) (hoff : (s.port p).off = true) :
    forwardRouted i p f s = dropOn i s := by
  simp [forwardRouted, h, offerLimited, hoff]

theorem forwardRouted_timing {i : Fin 64} {p : Port} {f : Frame} {s : State}
    (h : s.cfg.routeInterval i ≠ 0) (hoff : (s.port p).off = false)
    (ht : (s.route i).timing.isRunning = true) :
    forwardRouted i p f s = s.setRoute i { s.route i with
      dropped := if (s.route i).held.isSome then bump (s.route i).dropped else (s.route i).dropped
      held := some (s.cfg.translated i f) } := by
  simp only [forwardRouted, h, offerLimited, hoff, ht, if_true, if_false, Bool.false_eq_true]
  split <;> simp [dropOn]

theorem forwardRouted_open {i : Fin 64} {p : Port} {f : Frame} {s : State}
    (h : s.cfg.routeInterval i ≠ 0) (hoff : (s.port p).off = false)
    (ht : (s.route i).timing.isRunning = false) :
    forwardRouted i p f s = if s.canForward p then
        pushForward p (s.cfg.translated i f) (some i) (s.setRoute i { s.route i with
          timing := .running (s.now + s.cfg.routeInterval i) })
      else dropOn i s := by
  simp [forwardRouted, h, offerLimited, hoff, ht]

theorem canForward_congr {s t : State} {p : Port} (h : t.port p = s.port p) :
    t.canForward p = s.canForward p := by
  simp only [State.canForward, h]

/-- Settles O18. -/
theorem routedFrame : Obligations.RoutedFrame := by
  intro p f i s hl ha hf hoff hn hm hr hact matched becomes refused leaves
  have hcfg (q : Port) (r : RouteState) :
      ((s.setPort q (s.port q).heard).setRoute i r).cfg = s.cfg := by simp
  have route : routeFrame p f (s.setPort p (s.port p).heard) =
      applyRoute i p f (s.setPort p (s.port p).heard) :=
    routeFrame_matched (by simpa using hm) (by simpa using hr)
  have hset (r : RouteState) : settled ((s.setPort p (s.port p).heard).setRoute i r) :=
    (settled_setRoute _ i r).mpr ((settled_setPort s p _).mpr hl.2)
  have next {t : State} (ht : routeFrame p f (s.setPort p (s.port p).heard) = t) :=
    exec_undelivered_next (t := t) hl ha hf hoff hn ht
  have hbecomes {r : RouteState} (h : applyRoute i p f (s.setPort p (s.port p).heard) =
      (s.setPort p (s.port p).heard).setRoute i r) : becomes r :=
    next (route.trans h) (by simp [State.setRoute]) (hset r)
  have hleaves {r : RouteState} (h : applyRoute i p f (s.setPort p (s.port p).heard) =
      pushForward p.other (s.cfg.translated i f) (some i)
        ((s.setPort p (s.port p).heard).setRoute i r)) : leaves r := by
    obtain ⟨tx, htx⟩ := pushForward_sets p.other (s.cfg.translated i f) (some i)
      ((s.setPort p (s.port p).heard).setRoute i r)
    exact ⟨_, next (route.trans (h.trans htx)) (by simp [State.setRoute])
      ((settled_setPort _ _ _).mpr (hset r)), by simp⟩
  have hforward (h : s.cfg.routeAction i ≠ .drop) :
      applyRoute i p f (s.setPort p (s.port p).heard) =
        forwardRouted i p.other f ((s.setPort p (s.port p).heard).setRoute i matched) := by
    rw [applyRoute_untapped (by simpa using hact) (by simpa using h)]
    simp [matched]
  have hcan : ((s.setPort p (s.port p).heard).setRoute i matched).canForward p.other =
      s.canForward p.other := canForward_congr (by simp)
  refine ⟨fun hdrop => hbecomes ?_, fun hfwd hunlimited => ⟨fun hc => hleaves ?_, fun hc => hbecomes ?_⟩,
    fun hfwd hlimited => ⟨fun ho => hbecomes ?_, fun ho ht => hbecomes ?_, fun ho ht =>
      ⟨fun hc => hleaves ?_, fun hc => hbecomes ?_⟩⟩⟩
  · rw [applyRoute_drop (by simpa using hdrop), dropOn_setRoute]
    simp [matched]
  · rw [hforward hfwd, forwardRouted_unlimited (by simpa using hunlimited), hcan, if_pos hc, hcfg]
  · rw [hforward hfwd, forwardRouted_unlimited (by simpa using hunlimited), hcan, if_neg (by simp [hc]),
      dropOn_setRoute]
  · rw [hforward hfwd, forwardRouted_off (by simpa using hlimited) (by simpa using ho), dropOn_setRoute]
  · rw [hforward hfwd, forwardRouted_timing (by simpa using hlimited) (by simpa using ho)
      (by simpa [matched] using ht)]
    simp [matched]
  · rw [hforward hfwd, forwardRouted_open (by simpa using hlimited) (by simpa using ho)
      (by simpa [matched] using ht), hcan, if_pos hc]
    simp [State.now]
  · rw [hforward hfwd, forwardRouted_open (by simpa using hlimited) (by simpa using ho)
      (by simpa [matched] using ht), hcan, if_neg (by simp [hc]), dropOn_setRoute]

end Sys2Proof.Proofs

/-! The timers of the Frame Router and of the signal slots (O20). -/

namespace Sys2Proof.Proofs

open Sys2Proof Sys2Proof.Machine Sys2Proof.Laws

/-! ### Time alone (log entry 3) -/

@[simp] theorem reach_port (s : State) (e : Nat) (p : Port) : (s.reach e).port p = s.port p := by
  cases p <;> rfl

@[simp] theorem reach_route (s : State) (e : Nat) (i : Fin 64) : (s.reach e).route i = s.route i := rfl

@[simp] theorem reach_cfg (s : State) (e : Nat) : (s.reach e).cfg = s.cfg := rfl

/-! ### The status timer (R17) -/

/-- The Status Buffer takes a frame of an Active port, and counts the one that it replaces (R5). -/
theorem offerStatus_takes (f : Frame) {s : State} (h : s.chassis.off = false) :
    ∃ tx, offerStatus f s = (s.setStatusBuffer (some f)).setChassis { s.chassis with
      tx := tx
      statusReplaced := if s.statusBuffer.isSome then bump s.chassis.statusReplaced
        else s.chassis.statusReplaced } := by
  unfold offerStatus
  rw [if_neg (by simp [h])]
  dsimp only
  split
  · exact chooseTx_sets .chassis _
  · exact chooseTx_sets .chassis _

theorem exec_statusTimerExpiry_eq (s : State) :
    exec .statusTimerExpiry s = .next (handled statusExpiry s) := rfl

theorem statusExpiry_running {e : Nat} {s : State} (h : s.statusTimer = .running e) :
    statusExpiry s = (offerStatus s.statusFrame (s.reach e)).setStatusTimer
      (.running (e + s.cfg.statusPeriod)) := by
  have hcfg : (offerStatus (s.reach e).statusFrame (s.reach e)).cfg = s.cfg :=
    offerStatus_keeps State.cfg keeps_cfg.mono _ _
  unfold statusExpiry
  rw [h, onExpiry_running]
  dsimp only
  rw [hcfg]
  rfl

theorem exec_statusTimerExpiry_running {e : Nat} {s : State} (hl : live s)
    (h : s.statusTimer = .running e) : exec .statusTimerExpiry s =
      .next ((offerStatus s.statusFrame (s.reach e)).setStatusTimer
        (.running (e + s.cfg.statusPeriod))) := by
  have hset : settled (statusExpiry s) := by
    rw [statusExpiry_running h]
    exact (offerStatus_keeps settled keeps_settled.mono s.statusFrame (s.reach e)).mpr hl.2
  rw [exec_statusTimerExpiry_eq, handled_settled hl.1 hset, statusExpiry_running h]

/-! ### A limited route's interval (R14) -/

theorem exec_routeIntervalExpiry_eq (i : Fin 64) (s : State) :
    exec (.routeIntervalExpiry i) s = .next (handled (routeExpiry i) s) := rfl

theorem exec_routeIntervalExpiry_next {i : Fin 64} {s t : State} (hl : live s)
    (ht : routeExpiry i s = t) (hset : settled t) :
    exec (.routeIntervalExpiry i) s = .next t := by
  rw [exec_routeIntervalExpiry_eq, handled_settled hl.1 (ht ▸ hset), ht]

theorem routeExpiry_empty {i : Fin 64} {e : Nat} {s : State} (ht : (s.route i).timing = .running e)
    (hh : (s.route i).held = none) : routeExpiry i s =
      (s.reach e).setRoute i { s.route i with timing := .stopped, held := none } := by
  unfold routeExpiry
  rw [ht, onExpiry_running]
  simp only [reach_route, hh]

theorem routeExpiry_held {i : Fin 64} {e : Nat} {f : Frame} {s : State}
    (ht : (s.route i).timing = .running e) (hh : (s.route i).held = some f) : routeExpiry i s =
      if s.canForward (s.cfg.routeIngress i).other then
        pushForward (s.cfg.routeIngress i).other f (some i) ((s.reach e).setRoute i { s.route i with
          timing := .running (e + s.cfg.routeInterval i), held := none })
      else (s.reach e).setRoute i { s.route i with
        timing := .stopped, held := none, dropped := bump (s.route i).dropped } := by
  have hcan (r : RouteState) (p : Port) : ((s.reach e).setRoute i r).canForward p = s.canForward p :=
    canForward_congr (by simp)
  unfold routeExpiry
  rw [ht, onExpiry_running]
  simp only [reach_route, reach_cfg, hh, hcan, setRoute_cfg, route_setRoute, setRoute_setRoute,
    dropOn_setRoute]

/-! ### The timers of a slot (R24, R25) -/

theorem freshnessExpiry_running {k : SlotId} {e : Nat} {s : State}
    (h : (s.slot k).fresh = .running e) : freshnessExpiry k s =
      if s.cfg.slotHoldTime k = 0 then degrade k (s.reach e)
      else resignal ((s.reach e).setSlot k { s.slot k with
        state := .holding, fresh := .stopped
        hold := .running (max s.sys.now e + s.cfg.slotHoldTime k) }) := by
  unfold freshnessExpiry
  rw [h, onExpiry_running]
  rfl

theorem slotHoldExpiry_running {k : SlotId} {e : Nat} {s : State}
    (h : (s.slot k).hold = .running e) : slotHoldExpiry k s = degrade k (s.reach e) := by
  unfold slotHoldExpiry
  rw [h, onExpiry_running]

/-- A slot that changes hands its outputs on. -/
theorem handled_resignal {f : State → State} {s u : State} (hl : live s) (hf : f s = resignal u)
    (hu : settled u) : ∃ t, handled f s = t ∧ handsOn u t :=
  ⟨_, (handled_powered hl.1).trans (congrArg settleToggles hf), resignal_handsOn hu⟩

/-- Settles O20. -/
theorem routerTimers : Obligations.RouterTimers := by
  refine ⟨fun i e s hl => ⟨fun ht => ?_, fun ht hh => ?_, fun f ht hh hc => ?_, fun f ht hh hc => ?_⟩,
    fun k e s hl => ⟨fun ht hz => ?_, fun ht hz => ?_, fun ht => ?_⟩⟩
  · refine ⟨_, exec_statusTimerExpiry_running hl ht, rfl, fun ho => ?_, fun ho => ?_, ?_⟩
    · have he : offerStatus s.statusFrame (s.reach e) = s.reach e := if_pos ho
      rw [he]
      exact ⟨rfl, rfl⟩
    · obtain ⟨tx, he⟩ := offerStatus_takes s.statusFrame (s := s.reach e) ho
      rw [he]
      exact ⟨rfl, rfl⟩
    · cases ho : s.chassis.off with
      | true =>
        have he : offerStatus s.statusFrame (s.reach e) = s.reach e := if_pos ho
        rw [he]
        rfl
      | false =>
        obtain ⟨tx, he⟩ := offerStatus_takes s.statusFrame (s := s.reach e) ho
        rw [he]
        rfl
  · exact exec_routeIntervalExpiry_next hl (routeExpiry_empty ht hh) hl.2
  · refine exec_routeIntervalExpiry_next hl ?_ hl.2
    rw [routeExpiry_held ht hh, if_neg (by simp [hc])]
  · obtain ⟨tx, hp⟩ := pushForward_sets (s.cfg.routeIngress i).other f (some i)
      ((s.reach e).setRoute i { s.route i with
        timing := .running (e + s.cfg.routeInterval i), held := none })
    have hexp := ((routeExpiry_held ht hh).trans (if_pos hc)).trans hp
    refine ⟨_, exec_routeIntervalExpiry_next hl hexp ((settled_setPort _ _ _).mpr hl.2),
      by simp, by simp, by simp, fun j hj => ?_⟩
    simp [route_setRoute_other _ _ hj]
  · obtain ⟨t, he, ht⟩ := handled_resignal (f := freshnessExpiry k) hl
      ((freshnessExpiry_running ht).trans (if_neg hz)) hl.2
    exact ⟨t, congrArg _ he, ht⟩
  · obtain ⟨t, he, ht⟩ := handled_resignal (f := freshnessExpiry k) hl
      ((freshnessExpiry_running ht).trans (if_pos hz)) hl.2
    exact ⟨t, congrArg _ he, ht⟩
  · obtain ⟨t, he, ht⟩ := handled_resignal (f := slotHoldExpiry k) hl (slotHoldExpiry_running ht) hl.2
    exact ⟨t, congrArg _ he, ht⟩

end Sys2Proof.Proofs

/-! The bus events: a frame sent, a lost arbitration, errors, bus-off with all that it discards, recovery,
remote frames and recessive bits (O19). -/

namespace Sys2Proof.Proofs

open Sys2Proof Sys2Proof.Machine Sys2Proof.Laws

/-! ### The commands of the bus -/

theorem exec_recoveryTimerExpiry_eq (p : Port) (s : State) :
    exec (.recoveryTimerExpiry p) s = .next (handled (recoverPort p) s) := rfl

/-- A handling of a live part that replaces a port and no more. -/
theorem handled_setPort {f : State → State} {s : State} {p : Port} {x : PortState} (hl : live s)
    (hf : f s = s.setPort p x) : handled f s = s.setPort p x := by
  rw [handled_settled hl.1 (hf ▸ (settled_setPort s p x).mpr hl.2), hf]

/-- A handling of a live part that leaves it as it is. -/
theorem handled_same {f : State → State} {s : State} (hl : live s) (hf : f s = s) :
    handled f s = s := by
  rw [handled_settled hl.1 (hf.symm ▸ hl.2), hf]

/-! ### A transmission and its end (R3, R6) -/

theorem popSent_settled {p : Port} {sel : TxSel} {s : State} (h : settled s) :
    settled (popSent p sel s) := by
  cases sel <;> cases p <;> exact h

theorem frameSent_sets {p : Port} {sel : TxSel} {s : State} (h : (s.port p).tx = some sel) :
    ∃ tx, frameSent p s = (popSent p sel s).setPort p { (popSent p sel s).port p with
      sent := bump ((popSent p sel s).port p).sent
      txErr := ((popSent p sel s).port p).txErr - 1, tx := tx } := by
  obtain ⟨tx, he⟩ := rechooseTx_sets p ((popSent p sel s).setPort p { (popSent p sel s).port p with
    sent := bump ((popSent p sel s).port p).sent, txErr := ((popSent p sel s).port p).txErr - 1 })
  exact ⟨tx, by simpa [frameSent, h] using he⟩

theorem lostArbitration_eq {p : Port} {sel : TxSel} {s : State} (h : (s.port p).tx = some sel) :
    lostArbitration p s = rechooseTx p s := by
  simp [lostArbitration, h]

theorem transmitError_below {p : Port} {sel : TxSel} {s : State} (h : (s.port p).tx = some sel)
    (hb : (s.port p).txErr + 8 ≤ 255) : transmitError p s =
      rechooseTx p (s.setPort p { s.port p with txErr := (s.port p).txErr + 8 }) := by
  simp [transmitError, h, Nat.not_lt.mpr hb]

theorem transmitError_above {p : Port} {s : State} (h : (s.port p).tx.isSome = true)
    (ha : 255 < (s.port p).txErr + 8) : transmitError p s = goOff p s := by
  obtain ⟨sel, h⟩ := Option.isSome_iff_exists.mp h
  simp [transmitError, h, ha]

/-! ### Counts that rise by several frames -/

/-- A 16-bit saturating count after `k` more. -/
def countedUp (c k : Nat) : Nat := if k = 0 then c else min (c + k) 0xFFFF

@[simp] theorem countedUp_zero (c : Nat) : countedUp c 0 = c := rfl

theorem countedUp_bump (c k : Nat) : countedUp (bump c) k = countedUp c (k + 1) := by
  simp only [countedUp, bump, satAdd, Nat.add_eq_zero_iff, one_ne_zero, and_false, if_false]
  split <;> omega

theorem bump_countedUp (c k : Nat) : bump (countedUp c k) = countedUp c (k + 1) := by
  simp only [countedUp, bump, satAdd, Nat.add_eq_zero_iff, one_ne_zero, and_false, if_false]
  split <;> omega

/-! ### What a port that goes Off discards (R3) -/

/-- A discarded frame is counted in its route or in the port's Unrouted Drops, and nothing else. -/
theorem discardForwarded_port (p : Port) (s : State) (x : FwdFrame) :
    (discardForwarded p s x).port p = { s.port p with
      unrouted := countedUp (s.port p).unrouted (if x.origin = none then 1 else 0) } := by
  unfold discardForwarded
  cases h : x.origin with
  | some i => simp [dropOn]
  | none => simp [countUnrouted, ← bump_countedUp]

theorem discardForwarded_route (p : Port) (s : State) (x : FwdFrame) (i : Fin 64) :
    (discardForwarded p s x).route i = { s.route i with
      dropped := countedUp (s.route i).dropped (if x.origin = some i then 1 else 0) } := by
  unfold discardForwarded
  cases h : x.origin with
  | none => simp [countUnrouted]
  | some j =>
    by_cases hj : i = j
    · subst hj
      simp [dropOn, ← bump_countedUp]
    · simp [dropOn, route_setRoute_other _ _ hj, Ne.symm hj]

theorem countedUp_ite (c k : Nat) (q : Prop) [Decidable q] :
    countedUp (countedUp c (if q then 1 else 0)) k = countedUp c (k + if q then 1 else 0) := by
  split
  · rw [← bump_countedUp c 0, countedUp_zero, countedUp_bump]
  · simp

theorem discards_port (p : Port) (l : List FwdFrame) (s : State) :
    (l.foldl (discardForwarded p) s).port p = { s.port p with
      unrouted := countedUp (s.port p).unrouted (l.countP fun x => decide (x.origin = none)) } := by
  induction l generalizing s with
  | nil => simp
  | cons x l ih =>
    rw [List.foldl_cons, ih, discardForwarded_port]
    simp [List.countP_cons, countedUp_ite]

theorem discards_route (p : Port) (l : List FwdFrame) (s : State) (i : Fin 64) :
    (l.foldl (discardForwarded p) s).route i = { s.route i with
      dropped := countedUp (s.route i).dropped
        (l.countP fun x => decide (x.origin = some i)) } := by
  induction l generalizing s with
  | nil => simp
  | cons x l ih =>
    rw [List.foldl_cons, ih, discardForwarded_route]
    simp [List.countP_cons, countedUp_ite]

/-- A route whose hold slot is emptied. -/
def emptied (r : RouteState) : RouteState :=
  { r with held := none, dropped := if r.held.isSome then bump r.dropped else r.dropped }

theorem emptyHold_route (s : State) (i j : Fin 64) :
    (emptyHold s j).route i = if i = j then emptied (s.route i) else s.route i := by
  unfold emptyHold emptied
  by_cases hij : i = j
  · subst hij
    cases hh : (s.route i).held with
    | none =>
      simp only [Option.isSome_none, Bool.false_eq_true, if_false, if_true]
      rw [← hh]
    | some f => simp [dropOn]
  · rw [if_neg hij]
    split <;> simp [dropOn, route_setRoute_other _ _ hij]

theorem emptyHold_port (s : State) (i : Fin 64) (p : Port) : (emptyHold s i).port p = s.port p := by
  unfold emptyHold
  split <;> simp [dropOn]

theorem emptyHolds_port (l : List (Fin 64)) (s : State) (p : Port) :
    (l.foldl emptyHold s).port p = s.port p :=
  foldl_keeps (fun s : State => s.port p) emptyHold (fun s i => emptyHold_port s i p) l s

theorem emptyHolds_route {l : List (Fin 64)} (hl : l.Nodup) (s : State) (i : Fin 64) :
    (l.foldl emptyHold s).route i = if i ∈ l then emptied (s.route i) else s.route i := by
  induction l generalizing s with
  | nil => simp
  | cons j l ih =>
    obtain ⟨hj, hl⟩ := List.nodup_cons.mp hl
    rw [List.foldl_cons, ih hl, emptyHold_route]
    by_cases hij : i = j
    · subst hij
      simp [hj]
    · simp [hij]

/-! ### A notice (R196) -/

theorem putBit_true {w : Nat} (m : BitVec w) {i : Nat} (hi : i < w) :
    (putBit m i true).getLsbD i = true := by
  rw [putBit, if_pos rfl, BitVec.getLsbD_or, oneBit, BitVec.getLsbD_ofNat]
  simp only [hi, decide_true, Bool.true_and, Nat.testBit_two_pow_self, Bool.or_true]

theorem notice_bit_lt (k : Notice) : k.bit < 16 := by cases k <;> decide

/-- A Notice frame leaves the pending kinds that are Latched. -/
theorem sendNotice_agent (s : State) : (sendNotice s).agent = { s.agent with
    notices := s.agent.notices &&& ~~~ s.cfg.noticeModes
    sendNeeded := false
    spacing := .running (s.now + Config.spacingTime)
    noticesSent := bump s.agent.noticesSent } := by
  have hagent (f : Frame) : (offerControl f false s).agent = s.agent :=
    offerControl_keeps State.agent keeps_agent.mono _ _ _
  have hcfg (f : Frame) : (offerControl f false s).cfg = s.cfg :=
    offerControl_keeps State.cfg keeps_cfg.mono _ _ _
  have hnow (f : Frame) : (offerControl f false s).now = s.now :=
    congrArg Sys.now (offerControl_keeps State.sys keeps_sys.mono f false s)
  simp only [sendNotice, setAgent_agent, hagent, hcfg, hnow]

/-- A notice kind joins the Notice Set. -/
def markNotice (k : Notice) (s : State) : State :=
  s.setAgent { s.agent with notices := putBit s.agent.notices k.bit true, sendNeeded := true }

theorem markNotice_bit (k : Notice) (s : State) :
    (markNotice k s).agent.notices.getLsbD k.bit = true := putBit_true _ (notice_bit_lt k)

theorem raiseNotice_eq (k : Notice) (s : State) : raiseNotice k s =
    if hasBit s.agent.notices k.bit then s
    else if s.agent.spacing.isRunning then markNotice k s else sendNotice (markNotice k s) := rfl

/-- A notice that is raised is pending, or has gone out. -/
theorem raiseNotice_noticed (k : Notice) (s : State) : s.noticed (raiseNotice k s) k.bit := by
  have hcfg : (raiseNotice k s).cfg = s.cfg := raiseNotice_keeps State.cfg keeps_cfg.mono k s
  have hmark := markNotice_bit k s
  unfold State.noticed
  rw [hcfg, raiseNotice_eq]
  split
  · next hb => exact ⟨fun _ => hb, fun h => absurd (hb.symm.trans h) (by decide)⟩
  · split
    · exact ⟨fun _ => hmark, fun _ => .inl hmark⟩
    · next hs =>
      rw [sendNotice_agent]
      refine ⟨fun h => ?_, fun _ => .inr rfl⟩
      have hmode : (markNotice k s).cfg.noticeModes.getLsbD k.bit = false := h.resolve_right hs
      simp only [BitVec.getLsbD_and, BitVec.getLsbD_not, hmark, hmode, notice_bit_lt k, decide_true,
        Bool.not_false, Bool.and_self]

/-- A Body Port in Off takes no Notice frame: it is counted, and no more of the port changes (R5). -/
theorem offerControl_off {f : Frame} {reset : Bool} {s : State} (h : s.body.off = true) :
    offerControl f reset s =
      s.setBody { s.body with controlOverflow := bump s.body.controlOverflow } :=
  if_pos (by simp [h])

theorem raiseNotice_off {k : Notice} {s : State} (h : s.body.off = true) :
    ∃ n, (raiseNotice k s).body = { s.body with controlOverflow := n } ∧
      (raiseNotice k s).control = s.control := by
  have hsame : s.body = { s.body with controlOverflow := s.body.controlOverflow } := rfl
  rw [raiseNotice_eq]
  split
  · exact ⟨_, hsame, rfl⟩
  · split
    · exact ⟨_, hsame, rfl⟩
    · refine ⟨bump s.body.controlOverflow, ?_⟩
      unfold sendNotice
      dsimp only
      rw [offerControl_off (by exact h)]
      exact ⟨rfl, rfl⟩

/-! ### Going Off (R3) -/

/-- A port as it goes Off, before its discarded frames are counted. -/
def shutPort (p : Port) (s : State) : State :=
  clearFirst p (s.setPort p { s.port p with
    off := true, tx := none, forward := [], txErr := 255
    offDiscards := satAdd 0xFFFF (s.port p).offDiscards (s.storedFrames p)
    busOff := bump (s.port p).busOff
    recovery := .running (s.now + Config.recoveryTime) })

/-- The routes toward a port. -/
def routesToward (c : Mem) (p : Port) : List (Fin 64) :=
  (fins 64).filter fun i => c.routeIngress i == p.other

/-- A port that has gone Off, with its frames and hold slots counted. -/
def discarded (p : Port) (s : State) : State :=
  (routesToward s.cfg p).foldl emptyHold
    ((s.port p).forward.foldl (discardForwarded p) (shutPort p s))

theorem shutPort_port (p : Port) (s : State) : (shutPort p s).port p = { s.port p with
    off := true, tx := none, forward := [], txErr := 255
    offDiscards := satAdd 0xFFFF (s.port p).offDiscards (s.storedFrames p)
    busOff := bump (s.port p).busOff
    recovery := .running (s.now + Config.recoveryTime) } := by cases p <;> rfl

/-- Going Off is the discard, and then the notice. -/
theorem goOff_eq (p : Port) (s : State) : goOff p s = raiseNotice .portOff (discarded p s) := by
  have hcfg : ((s.port p).forward.foldl (discardForwarded p) (shutPort p s)).cfg = s.cfg := by
    rw [foldl_keeps State.cfg _ (discardForwarded_keeps State.cfg keeps_cfg.mono p)]
    cases p <;> rfl
  unfold discarded routesToward
  rw [← hcfg]
  rfl

/-- What the discard does not reach. -/
theorem discarded_keeps {α : Type} (π : State → α)
    (hk : Keeps π [.chassis, .body, .routes, .statusBuffer, .control]) (p : Port) (s : State) :
    π (discarded p s) = π s := by
  unfold discarded shutPort
  rw [foldl_keeps π _ (emptyHold_keeps π hk.mono),
    foldl_keeps π _ (discardForwarded_keeps π hk.mono p), clearFirst_keeps π hk.mono,
    setPort_keeps π hk.mono]

theorem discarded_port (p : Port) (s : State) : (discarded p s).port p = { s.port p with
    off := true, tx := none, forward := [], txErr := 255
    offDiscards := satAdd 0xFFFF (s.port p).offDiscards (s.storedFrames p)
    busOff := bump (s.port p).busOff
    recovery := .running (s.now + Config.recoveryTime)
    unrouted := countedUp (s.port p).unrouted
      ((s.port p).forward.countP fun x => decide (x.origin = none)) } := by
  rw [discarded, emptyHolds_port, discards_port, shutPort_port]

theorem discarded_route (p : Port) (s : State) (i : Fin 64) :
    (discarded p s).route i =
      let toward : Bool := decide (s.cfg.routeIngress i = p.other)
      { s.route i with
        held := if toward then none else (s.route i).held
        dropped := countedUp (s.route i).dropped
          (((s.port p).forward.countP fun x => decide (x.origin = some i)) +
            (if toward && (s.route i).held.isSome then 1 else 0)) } := by
  have hshut : (shutPort p s).route i = s.route i := by cases p <;> rfl
  have hmem : i ∈ routesToward s.cfg p ↔ s.cfg.routeIngress i = p.other := by
    simp [routesToward, fins, List.mem_finRange]
  have hnodup : (routesToward s.cfg p).Nodup := (List.nodup_finRange 64).filter _
  rw [discarded, emptyHolds_route hnodup, discards_route, hshut]
  simp only [hmem]
  by_cases ht : s.cfg.routeIngress i = p.other
  · cases hh : (s.route i).held <;> simp [ht, emptied, bump_countedUp]
  · simp [ht]

/-- A notice reaches a port that is Off, or is the Chassis Port, in its Control Overflow Count alone. -/
theorem raiseNotice_port {k : Notice} {p : Port} {s : State} (h : (s.port p).off = true) :
    ∃ n, (raiseNotice k s).port p = { s.port p with controlOverflow := n } := by
  cases p with
  | chassis => exact ⟨_, raiseNotice_keeps State.chassis keeps_chassis.mono k s⟩
  | body =>
    obtain ⟨n, hbody, -⟩ := raiseNotice_off (k := k) h
    exact ⟨n, hbody⟩

theorem discarded_control (s : State) : (discarded .body s).control = [] := by
  unfold discarded
  rw [foldl_keeps State.control _ (emptyHold_keeps State.control keeps_control.mono),
    foldl_keeps State.control _ (discardForwarded_keeps State.control keeps_control.mono .body)]
  rfl

theorem discarded_statusBuffer (s : State) : (discarded .chassis s).statusBuffer = none := by
  unfold discarded
  rw [foldl_keeps State.statusBuffer _ (emptyHold_keeps State.statusBuffer keeps_statusBuffer.mono),
    foldl_keeps State.statusBuffer _
      (discardForwarded_keeps State.statusBuffer keeps_statusBuffer.mono .chassis)]
  rfl

theorem goOff_settled {p : Port} {s : State} (h : settled s) : settled (goOff p s) :=
  (goOff_keeps settled keeps_settled.mono p s).mpr h

/-! ### Bus events of a settled part -/

theorem busEvents_sending {p : Port} {sel : TxSel} {s : State} (hl : live s)
    (htx : (s.port p).tx = some sel) :
    ∃ t, exec (.frameSent p) s = .next t ∧ t.port p.other = s.port p.other ∧
      t.port p = { s.port p with
        sent := bump (s.port p).sent, txErr := (s.port p).txErr - 1
        forward := if sel = .forward then (s.port p).forward.tail else (s.port p).forward
        tx := (t.port p).tx } ∧
      t.statusBuffer = (if sel = .first ∧ p = .chassis then none else s.statusBuffer) ∧
      t.control = (if sel = .first ∧ p = .body then s.control.tail else s.control) ∧
      t = { s with chassis := t.chassis, body := t.body, statusBuffer := t.statusBuffer
                   control := t.control } := by
  obtain ⟨tx, he⟩ := frameSent_sets htx
  have hset : settled (frameSent p s) :=
    he ▸ (settled_setPort _ _ _).mpr (popSent_settled hl.2)
  refine ⟨_, congrArg Host.Outcome.next ((handled_settled hl.1 hset).trans he), ?_⟩
  cases p <;> cases sel <;> exact ⟨rfl, rfl, rfl, rfl, rfl⟩

/-- A transmission that breaks off begins again with the frame that the arbiter chooses. -/
theorem rechosen_next {f : State → State} {p : Port} {s : State} {x : PortState} (hl : live s)
    (hf : f s = rechooseTx p (s.setPort p x)) (hoff : x.off = false)
    (hwait : x.waitRecessive = false) :
    ∃ t, handled f s = t ∧ t = s.setPort p { x with tx := (t.port p).tx } ∧
      (s.firstWaits p = true → (t.port p).tx = some .first) := by
  obtain ⟨tx, he⟩ := rechooseTx_sets p (s.setPort p x)
  have hx : f s = s.setPort p { x with tx := tx } := by rw [hf, he]; simp
  refine ⟨_, handled_setPort hl hx, by simp, fun hw => ?_⟩
  rw [← hx, hf]
  exact rechooseTx_first (by simpa using hoff) (by simpa using hwait) (by simpa using hw)

theorem busEvents_off {p : Port} {s : State} (hl : live s) (hoff : (s.port p).off = true) :
    exec (.receiveError p) s = .next s ∧ exec (.remoteFrameReceived p) s = .next s ∧
      ∀ f : Frame, exec (.frameReceived p f) s = .next s :=
  ⟨congrArg Host.Outcome.next (handled_same hl (if_pos hoff)),
    congrArg Host.Outcome.next (handled_same hl (if_pos hoff)),
    fun _ => congrArg Host.Outcome.next (handled_same hl (if_pos hoff))⟩

theorem busEvents_active {p : Port} {s : State} (hl : live s) (hoff : (s.port p).off = false) :
    exec (.receiveError p) s =
        .next (s.setPort p { s.port p with rxErr := min ((s.port p).rxErr + 1) 255 }) ∧
      exec (.remoteFrameReceived p) s =
        .next (s.setPort p { s.port p with rxErr := (s.port p).rxErr - 1 }) :=
  ⟨congrArg Host.Outcome.next (handled_setPort hl (if_neg (by simp [hoff]))),
    congrArg Host.Outcome.next (handled_setPort hl (if_neg (by simp [hoff])))⟩

/-- Settles O19. -/
theorem busEvents : Obligations.BusEvents := by
  refine ⟨fun p sel s hl htx hoff hwait => ⟨busEvents_sending hl htx, ?_, fun hb => ?_⟩,
    fun p s hl htx hb => ?_, fun p s hl => ⟨busEvents_active hl, busEvents_off hl, fun e he => ?_,
      fun hw => ?_⟩⟩
  · obtain ⟨t, he, ht, hfirst⟩ := rechosen_next (f := lostArbitration p) (x := s.port p) hl
      (by rw [setPort_self, lostArbitration_eq htx]) hoff hwait
    exact ⟨t, congrArg Host.Outcome.next he, ht, hfirst⟩
  · obtain ⟨t, he, ht, hfirst⟩ := rechosen_next (f := transmitError p) hl
      (transmitError_below htx hb) hoff hwait
    exact ⟨t, congrArg Host.Outcome.next he, ht, hfirst⟩
  · have hgo : handled (transmitError p) s = raiseNotice .portOff (discarded p s) := by
      rw [handled_settled hl.1 (transmitError_above htx hb ▸ goOff_settled hl.2),
        transmitError_above htx hb, goOff_eq]
    have hoff : ((discarded p s).port p).off = true := by rw [discarded_port]
    obtain ⟨n, hport⟩ := raiseNotice_port (k := .portOff) hoff
    rw [discarded_port] at hport
    have hnotice := raiseNotice_noticed .portOff (discarded p s)
    have hagent : (discarded p s).agent = s.agent := discarded_keeps _ keeps_agent.mono p s
    have hcfg : (raiseNotice .portOff (discarded p s)).cfg = s.cfg :=
      (raiseNotice_keeps State.cfg keeps_cfg.mono _ _).trans (discarded_keeps _ keeps_cfg.mono p s)
    unfold State.noticed at hnotice
    rw [hagent, hcfg] at hnotice
    refine ⟨_, congrArg Host.Outcome.next hgo, ?_⟩
    rw [hport]
    refine ⟨rfl, rfl, rfl, ?_, ?_, rfl, rfl, rfl, fun i => ?_, rfl, hnotice⟩
    · rintro rfl
      exact (raiseNotice_keeps State.statusBuffer keeps_statusBuffer.mono _ _).trans
        (discarded_statusBuffer s)
    · rintro rfl
      obtain ⟨-, -, hcontrol⟩ := raiseNotice_off (k := .portOff) hoff
      exact hcontrol.trans (discarded_control s)
    · have hr : (raiseNotice .portOff (discarded p s)).route i = (discarded p s).route i :=
        congrArg (fun v : Vector RouteState 64 => v[i])
          (raiseNotice_keeps State.routes keeps_routes.mono _ _)
      exact hr.trans (discarded_route p s i)
  · have hexp : recoverPort p s = (s.reach e).setPort p { s.port p with
        off := false, waitRecessive := true, txErr := 0, rxErr := 0, recovery := .stopped } := by
      unfold recoverPort
      rw [he, onExpiry_running]
      simp
    rw [exec_recoveryTimerExpiry_eq,
      handled_settled hl.1 (hexp ▸ (settled_setPort _ _ _).mpr hl.2), hexp]
  · obtain ⟨tx, ht⟩ := chooseTx_sets p (s.setPort p { s.port p with waitRecessive := false })
    have he : recessiveBits p s = s.setPort p { s.port p with waitRecessive := false, tx := tx } := by
      rw [recessiveBits, if_pos hw, ht]
      simp
    exact ⟨_, congrArg Host.Outcome.next (handled_setPort hl he), by simp⟩

end Sys2Proof.Proofs

/-! What the blocks behind the ports do not look at. A handling of a lift, of the packer, of the tailgate, of
a tag or of a sample neither reads nor changes the Chassis Port, the routes, the Unrouted Drops of the Body
Port or the Request Queue; so it may as well come after a frame has been routed (R8, R9). `Aside` is a value
for each of these, and each lemma below says of one operation that it acts the same whatever they are. -/

namespace Sys2Proof.Proofs

open Sys2Proof Sys2Proof.Machine Sys2Proof.Laws

/-- The items that stand aside: the Chassis Port, the Body Port's Unrouted Drops, the routes, and what
becomes of the Request Queue and of what its head is held for. -/
structure Aside where
  chassis : PortState
  unrouted : Nat
  routes : Vector RouteState 64
  queue : List Request → List Request
  hold : Hold → Hold

/-- A state with other values of these items. -/
def Aside.put (x : Aside) (s : State) : State :=
  { s with
    chassis := x.chassis, body := { s.body with unrouted := x.unrouted }, routes := x.routes
    agent := { s.agent with queue := x.queue s.agent.queue, hold := x.hold s.agent.hold } }

/-- The items as a state has them. -/
def State.asides (s : State) : Aside :=
  ⟨s.chassis, s.body.unrouted, s.routes, fun _ => s.agent.queue, fun _ => s.agent.hold⟩

/-- An operation that acts the same whatever the items are, and leaves them alone. -/
def Apart (f : State → State) : Prop := ∀ (x : Aside) (s : State), f (x.put s) = x.put (f s)

/-- Such an operation leaves the items as they were. -/
theorem Apart.asides {f : State → State} (hf : Apart f) (s : State) :
    State.asides (f s) = State.asides s := by
  have h : f s = (State.asides s).put (f s) := hf (State.asides s) s
  rw [h]
  rfl

/-! ### What a state shows, whatever the items are -/

section

variable (x : Aside) (s : State)

@[simp] theorem put_fields : (x.put s).sys = s.sys ∧ (x.put s).mode = s.mode ∧
    (x.put s).store = s.store ∧ (x.put s).cfg = s.cfg ∧ (x.put s).control = s.control ∧
    (x.put s).slots = s.slots ∧ (x.put s).signals = s.signals ∧ (x.put s).scanner = s.scanner ∧
    (x.put s).lifts = s.lifts ∧ (x.put s).foreignCommands = s.foreignCommands ∧
    (x.put s).markers = s.markers ∧ (x.put s).tags = s.tags ∧ (x.put s).weigh = s.weigh ∧
    (x.put s).zeros = s.zeros ∧ (x.put s).table = s.table ∧ (x.put s).billing = s.billing ∧
    (x.put s).queue = s.queue ∧ (x.put s).arbiter = s.arbiter ∧ (x.put s).channels = s.channels ∧
    (x.put s).toggles = s.toggles ∧ (x.put s).packer = s.packer ∧ (x.put s).payload = s.payload ∧
    (x.put s).tailgate = s.tailgate ∧ (x.put s).clock = s.clock := by
  simp only [Aside.put, and_self]

@[simp] theorem put_parts : (x.put s).now = s.now ∧ (x.put s).tagTime = s.tagTime ∧
    (x.put s).masked = s.masked ∧ (x.put s).priority = s.priority ∧
    (x.put s).configured = s.configured ∧ (∀ st, (x.put s).lift st = s.lift st) ∧
    (∀ st, (x.put s).marker st = s.marker st) ∧ (∀ st, (x.put s).scale st = s.scale st) ∧
    (∀ st, (x.put s).zero st = s.zero st) ∧ (∀ k, (x.put s).slot k = s.slot k) ∧
    (∀ r, (x.put s).request r = s.request r) ∧ (∀ r, (x.put s).grant r = s.grant r) ∧
    (∀ c, (x.put s).targetDuty c = s.targetDuty c) ∧
    (∀ r ph, (x.put s).flowReq r ph = s.flowReq r ph) ∧
    (∀ c d t l, (x.put s).bodyFrame c d t l = s.bodyFrame c d t l) :=
  ⟨rfl, rfl, rfl, rfl, rfl, fun _ => rfl, fun _ => rfl, fun _ => rfl, fun _ => rfl, fun _ => rfl,
    fun _ => rfl, fun _ => rfl, fun _ => rfl, fun _ _ => rfl, fun _ _ _ _ => rfl⟩

@[simp] theorem put_roles : (∀ r, (x.put s).role r = s.role r) ∧
    (∀ r st, (x.put s).stationRole r st = s.stationRole r st) ∧
    (∀ r, (x.put s).pairErrorOf r = s.pairErrorOf r) ∧ (x.put s).scanOk = s.scanOk ∧
    (x.put s).canStart = s.canStart ∧ (x.put s).bladeOk = s.bladeOk ∧
    (x.put s).packReady = s.packReady ∧ (x.put s).packerHome = s.packerHome ∧
    (x.put s).tailgateShut = s.tailgateShut ∧ (x.put s).tailgateOpen = s.tailgateOpen ∧
    (∀ st, (x.put s).releaseDone st = s.releaseDone st) ∧
    (∀ st, (x.put s).atHome st = s.atHome st) ∧
    (∀ st, (x.put s).startRefusal st = s.startRefusal st) ∧
    (x.put s).bodyFullTest = s.bodyFullTest ∧ (x.put s).outputs = s.outputs :=
  ⟨fun _ => rfl, fun _ _ => rfl, fun _ => rfl, rfl, rfl, rfl, rfl, rfl, rfl, rfl, fun _ => rfl,
    fun _ => rfl, fun _ => rfl, rfl, rfl⟩

@[simp] theorem put_records : (∀ tag, (x.put s).lookupResult tag = s.lookupResult tag) ∧
    (∀ tag acc, (x.put s).accessResult tag acc = s.accessResult tag acc) ∧
    (∀ st sum, (x.put s).convert st sum = s.convert st sum) ∧
    (∀ st a, (x.put s).qualifies st a = s.qualifies st a) ∧
    (∀ st tag, (x.put s).absorbs st tag = s.absorbs st tag) ∧
    (∀ st, (x.put s).openForLate st = s.openForLate st) ∧
    (∀ st, (x.put s).candidates st = s.candidates st) ∧
    (∀ t, (x.put s).total t = s.total t) ∧
    (∀ o k m a, (x.put s).charge o k m a = s.charge o k m a) ∧
    (∀ o m p b k, (x.put s).newCounters o m p b k = s.newCounters o m p b k) ∧
    (∀ q g a, (x.put s).recordOf q g a = s.recordOf q g a) ∧
    (x.put s).chargeLevel = s.chargeLevel ∧ (x.put s).unloadWaits = s.unloadWaits :=
  ⟨fun _ => rfl, fun _ _ => rfl, fun _ _ => rfl, fun _ _ => rfl, fun _ _ => rfl, fun _ => rfl,
    fun _ => rfl, fun _ => rfl, fun _ _ _ _ => rfl, fun _ _ _ _ _ => rfl, fun _ _ _ => rfl, rfl, rfl⟩

/-! ### What replaces other items -/

@[simp] theorem put_set : (∀ v, (x.put s).setStore v = x.put (s.setStore v)) ∧
    (∀ v, (x.put s).setControl v = x.put (s.setControl v)) ∧
    (∀ v, (x.put s).setSlots v = x.put (s.setSlots v)) ∧
    (∀ v, (x.put s).setSignals v = x.put (s.setSignals v)) ∧
    (∀ v, (x.put s).setLifts v = x.put (s.setLifts v)) ∧
    (∀ v, (x.put s).setForeignCommands v = x.put (s.setForeignCommands v)) ∧
    (∀ v, (x.put s).setMarkers v = x.put (s.setMarkers v)) ∧
    (∀ v, (x.put s).setTags v = x.put (s.setTags v)) ∧
    (∀ v, (x.put s).setWeigh v = x.put (s.setWeigh v)) ∧
    (∀ v, (x.put s).setZeros v = x.put (s.setZeros v)) ∧
    (∀ v, (x.put s).setTable v = x.put (s.setTable v)) ∧
    (∀ v, (x.put s).setBilling v = x.put (s.setBilling v)) ∧
    (∀ v, (x.put s).setQueue v = x.put (s.setQueue v)) ∧
    (∀ v, (x.put s).setArbiter v = x.put (s.setArbiter v)) ∧
    (∀ v, (x.put s).setChannels v = x.put (s.setChannels v)) ∧
    (∀ v, (x.put s).setToggles v = x.put (s.setToggles v)) ∧
    (∀ v, (x.put s).setPacker v = x.put (s.setPacker v)) ∧
    (∀ v, (x.put s).setPayload v = x.put (s.setPayload v)) ∧
    (∀ v, (x.put s).setTailgate v = x.put (s.setTailgate v)) ∧
    (∀ v, (x.put s).setClock v = x.put (s.setClock v)) := by
  refine ⟨?_, ?_, ?_, ?_, ?_, ?_, ?_, ?_, ?_, ?_, ?_, ?_, ?_, ?_, ?_, ?_, ?_, ?_, ?_, ?_⟩ <;>
    exact fun _ => rfl

@[simp] theorem put_setPart : (∀ st v, (x.put s).setLift st v = x.put (s.setLift st v)) ∧
    (∀ st v, (x.put s).setMarker st v = x.put (s.setMarker st v)) ∧
    (∀ st v, (x.put s).setScale st v = x.put (s.setScale st v)) ∧
    (∀ k v, (x.put s).setSlot k v = x.put (s.setSlot k v)) ∧
    (∀ v, (x.put s).setTagQueue v = x.put (s.setTagQueue v)) ∧
    (∀ st v, (x.put s).setAssigned st v = x.put (s.setAssigned st v)) ∧
    (∀ st f, (x.put s).countTags st f = x.put (s.countTags st f)) ∧
    (∀ f, (x.put s).countTable f = x.put (s.countTable f)) ∧
    (∀ st f, (x.put s).onRecord st f = x.put (s.onRecord st f)) :=
  ⟨fun _ _ => rfl, fun _ _ => rfl, fun _ _ => rfl, fun _ _ => rfl, fun _ => rfl, fun _ _ => rfl,
    fun _ _ => rfl, fun _ => rfl, fun _ _ => rfl⟩

@[simp] theorem put_ite (c : Prop) [Decidable c] (t : State) :
    (if c then x.put s else x.put t) = x.put (if c then s else t) := (apply_ite _ c s t).symm

theorem put_foldl {α : Type} {g : State → α → State} (hg : ∀ s a, g (x.put s) a = x.put (g s a))
    (l : List α) : l.foldl g (x.put s) = x.put (l.foldl g s) := by
  induction l generalizing s with
  | nil => rfl
  | cons a l ih => rw [List.foldl_cons, hg, ih, List.foldl_cons]

/-! ### Notices (R196) and replies -/

theorem chooseTx_put : chooseTx .body (x.put s) = x.put (chooseTx .body s) := by
  have hw : (x.put s).firstWaits .body = s.firstWaits .body := rfl
  have hp : (x.put s).port .body = { s.port .body with unrouted := x.unrouted } := rfl
  simp only [chooseTx, hw, hp]
  (repeat' split) <;> rfl

@[simp] theorem offerControl_put (f : Frame) (b : Bool) :
    offerControl f b (x.put s) = x.put (offerControl f b s) := by
  have hp : (x.put s).body = { s.body with unrouted := x.unrouted } := rfl
  simp only [offerControl, hp, put_fields]
  split
  · rfl
  · rw [← chooseTx_put]
    rfl

theorem sendNotice_put : sendNotice (x.put s) = x.put (sendNotice s) := by
  have hn : (x.put s).agent.notices = s.agent.notices := rfl
  simp only [sendNotice, hn, put_fields, put_parts, offerControl_put]
  rfl

@[simp] theorem raiseNotice_put (k : Notice) : raiseNotice k (x.put s) = x.put (raiseNotice k s) := by
  have hn : (x.put s).agent.notices = s.agent.notices := rfl
  have hs : (x.put s).agent.spacing = s.agent.spacing := rfl
  have hm : markNotice k (x.put s) = x.put (markNotice k s) := rfl
  simp only [raiseNotice_eq, hn, hs, hm, sendNotice_put, put_ite]

@[simp] theorem sendReply_put (code : Byte) (tag : BitVec 4) (st : Byte) (r : Reply) :
    sendReply code tag st r (x.put s) = x.put (sendReply code tag st r s) := by
  simp [sendReply]

/-! ### Requests and arbitrations (R146, R150) -/

theorem refreshValves_put : refreshValves (x.put s) = x.put (refreshValves s) := by
  simp [refreshValves]

@[simp] theorem endRun_put (st : Station) : endRun st (x.put s) = x.put (endRun st s) := by
  simp [endRun]

theorem paceLift_put (st : Station) : paceLift (x.put s) st = x.put (paceLift s st) := by
  simp [paceLift]

theorem pacePacker_put : pacePacker (x.put s) = x.put (pacePacker s) := by
  simp [pacePacker]

theorem paceTailgate_put : paceTailgate (x.put s) = x.put (paceTailgate s) := by
  simp [paceTailgate]

@[simp] theorem arbitrate_put : arbitrate (x.put s) = x.put (arbitrate s) := by
  simp [arbitrate, refreshValves_put, put_foldl x _ (fun s st => paceLift_put x s st),
    pacePacker_put, paceTailgate_put]

@[simp] theorem newRequest_put (r : Requester) (ph : FlowPhase) :
    newRequest r ph (x.put s) = x.put (newRequest r ph s) := by
  simp [newRequest]

@[simp] theorem changeDemand_put (r : Requester) (ph : FlowPhase) :
    changeDemand r ph (x.put s) = x.put (changeDemand r ph s) := by
  simp [changeDemand]

@[simp] theorem releaseRequest_put (r : Requester) :
    releaseRequest r (x.put s) = x.put (releaseRequest r s) := by
  simp [releaseRequest]

@[simp] theorem setGroupLowest_put (st : Station) :
    setGroupLowest st (x.put s) = x.put (setGroupLowest st s) := by
  simp [setGroupLowest, setGroup]

/-! ### Weighing (06) -/

@[simp] theorem setFlag_put (st : Station) (f : LiftFlag) :
    setFlag st f (x.put s) = x.put (setFlag st f s) := by
  simp [setFlag]

@[simp] theorem takeWindow_put (st : Station) (gross : Bool) (win : List Int) :
    takeWindow st gross win (x.put s) = x.put (takeWindow st gross win s) := by
  cases h : (s.scale st).fallback <;> simp [takeWindow, h]

@[simp] theorem phaseSample_put (st : Station) (gross : Bool) (count : Int) (angle seq : Nat) :
    phaseSample st gross count angle seq (x.put s) = x.put (phaseSample st gross count angle seq s) := by
  simp only [phaseSample, put_parts, put_records, put_fields, put_setPart]
  split
  · split
    · exact takeWindow_put _ _ _ _ _
    · rfl
  · exact endRun_put _ _ _

@[simp] theorem endCapture_put (st : Station) (r : ZeroResult) :
    endCapture st r (x.put s) = x.put (endCapture st r s) := by
  simp [endCapture]

@[simp] theorem captureWindow_put (st : Station) (win : List Int) :
    captureWindow st win (x.put s) = x.put (captureWindow st win s) := by
  simp [captureWindow]

@[simp] theorem captureSample_put (st : Station) (count : Int) (seq : Nat) :
    captureSample st count seq (x.put s) = x.put (captureSample st count seq s) := by
  simp only [captureSample, put_parts, put_fields, put_setPart]
  split
  · simp
  · rfl

@[simp] theorem ignoreSample_put : ignoreSample (x.put s) = x.put (ignoreSample s) := by
  simp [ignoreSample]

@[simp] theorem stationSample_put (st : Station) (count : Int) (angle seq : Nat) :
    stationSample st count angle seq (x.put s) = x.put (stationSample st count angle seq s) := by
  simp only [stationSample, put_parts, put_setPart]
  split <;> simp

@[simp] theorem weighSample_put (src : Byte) (count : BitVec 24) (angle : BitVec 16) (seq : Byte) :
    weighSample src count angle seq (x.put s) = x.put (weighSample src count angle seq s) := by
  simp only [weighSample, put_fields]
  split <;> simp

@[simp] theorem attitude_put (src : Byte) (pitch roll : BitVec 16) :
    attitude src pitch roll (x.put s) = x.put (attitude src pitch roll s) := by
  simp [attitude]

@[simp] theorem enterWeighing_put (st : Station) :
    enterWeighing st (x.put s) = x.put (enterWeighing st s) := by
  simp [enterWeighing]

@[simp] theorem fixGross_put (st : Station) : fixGross st (x.put s) = x.put (fixGross st s) := by
  cases ha : (s.scale st).accepted <;> cases hf : (s.scale st).fallback <;>
    simp [fixGross, leaveWeighing, ha, hf]

@[simp] theorem fixTare_put (st : Station) : fixTare st (x.put s) = x.put (fixTare st s) := by
  cases ha : (s.scale st).accepted <;> simp [fixTare, leaveWeighing, ha]

@[simp] theorem applyPendingZero_put (st : Station) :
    applyPendingZero st (x.put s) = x.put (applyPendingZero st s) := by
  cases h : (s.scale st).pendingZero <;> simp [applyPendingZero, h]

@[simp] theorem cancelCapture_put (st : Station) :
    cancelCapture st (x.put s) = x.put (cancelCapture st s) := by
  simp [cancelCapture]

/-! ### Tags (05) -/

@[simp] theorem queueRead_put (st : Station) (tag strength : Nat) :
    queueRead st tag strength (x.put s) = x.put (queueRead st tag strength s) := by
  simp [queueRead]

@[simp] theorem absorbRead_put (st : Station) (tag : Nat) :
    absorbRead st tag (x.put s) = x.put (absorbRead st tag s) := by
  simp [absorbRead]

@[simp] theorem assignTag_put (st : Station) :
    assignTag st (x.put s) = ((assignTag st s).1, x.put (assignTag st s).2) := by
  simp only [assignTag, put_records, put_fields]
  split
  · simp
  · simp [assignEntry]
  · split <;> simp [assignEntry, lockOut]

@[simp] theorem assignLate_put (st : Station) (tag : Nat) :
    assignLate st tag (x.put s) = x.put (assignLate st tag s) := by
  simp [assignLate]

@[simp] theorem settleAssigned_put (st : Station) :
    settleAssigned (x.put s) st = x.put (settleAssigned s st) := by
  cases h : s.tags.assigned.get st <;> simp [settleAssigned, h]

/-! ### Payload, markers and the Dump (04, 10) -/

@[simp] theorem testBodyFull_put : testBodyFull (x.put s) = x.put (testBodyFull s) := by
  simp [testBodyFull]

@[simp] theorem addFill_put (f : Nat) : addFill f (x.put s) = x.put (addFill f s) := by
  simp [addFill]

@[simp] theorem writeMarker_put (st : Station) (f : Furthest) :
    writeMarker st f (x.put s) = x.put (writeMarker st f s) := by
  cases h : (s.lift st).record <;> simp [writeMarker, h]

@[simp] theorem countDump_put : countDump (x.put s) = x.put (countDump s) := by
  simp [countDump, autoRequest]

@[simp] theorem enterDump_put (st : Station) : enterDump st (x.put s) = x.put (enterDump st s) := by
  simp [enterDump]

@[simp] theorem bladeTest_put (st : Station) : bladeTest st (x.put s) = x.put (bladeTest st s) := by
  simp [bladeTest]

theorem retestBlade_put (st : Station) : retestBlade (x.put s) st = x.put (retestBlade s st) := by
  simp [retestBlade]

@[simp] theorem bladeTests_put : bladeTests (x.put s) = x.put (bladeTests s) :=
  put_foldl x s (fun s st => retestBlade_put x s st) _

end

/-! ### The packer (R165 to R168) -/

theorem enterParked_apart {serve : State → State} (h : Apart serve) : Apart (enterParked serve) :=
  fun x s => by simp [enterParked, h x]

theorem enterRetracting_apart {serve : State → State} (h : Apart serve) :
    Apart (enterRetracting serve) := fun x s => by
  simp [enterRetracting, enterParked_apart h x]

theorem enterDwelling_apart {serve : State → State} (h : Apart serve) : Apart (enterDwelling serve) :=
  fun x s => by
    simp only [enterDwelling, put_fields, put_parts, put_set, enterRetracting_apart h x]
    split <;> rfl

theorem endExtending_apart {serve : State → State} (h : Apart serve) (stall : Bool) :
    Apart (endExtending serve stall) := fun x s => by
  simp [endExtending, enterDwelling_apart h x]

theorem beginExtending_apart {serve : State → State} (h : Apart serve) :
    Apart (beginExtending serve) := fun x s => by
  simp [beginExtending, endExtending_apart h true x]

theorem servePending_apart (n : Nat) : Apart (servePending n) := by
  induction n with
  | zero => exact fun _ _ => rfl
  | succ n ih => exact fun x s => by simp [servePending, beginExtending_apart ih x]

section

variable (x : Aside) (s : State)

@[simp] theorem servePack_put : servePack (x.put s) = x.put (servePack s) := servePending_apart 2 x s

@[simp] theorem pack_put : pack (x.put s) = ((pack s).1, x.put (pack s).2) := by
  simp only [pack, put_roles, put_fields, put_set, beginExtending_apart servePack_put x s]
  (repeat' split) <;> rfl

@[simp] theorem packerRecover_put :
    packerRecover (x.put s) = ((packerRecover s).1, x.put (packerRecover s).2) := by
  simp only [packerRecover, put_roles, put_fields, enterRetracting_apart servePack_put x s]
  (repeat' split) <;> rfl

end

end Sys2Proof.Proofs

/-! The rest of what stands aside: the tailgate, the Billing Engine, the lifts, the Clock, and the operator
commands. -/

namespace Sys2Proof.Proofs

open Sys2Proof Sys2Proof.Machine Sys2Proof.Laws

section

variable (x : Aside) (s : State)

/-! ### The tailgate (R173, R174) -/

@[simp] theorem setTailgateMarker_put (m : TailgateMarker) :
    setTailgateMarker m (x.put s) = x.put (setTailgateMarker m s) := rfl

@[simp] theorem reserve_put (h : Holder) : reserve h (x.put s) = x.put (reserve h s) := rfl

@[simp] theorem enterClosed_put : enterClosed (x.put s) = x.put (enterClosed s) := by
  simp [enterClosed]

@[simp] theorem enterClosing_put : enterClosing (x.put s) = x.put (enterClosing s) := by
  simp [enterClosing]

@[simp] theorem openingTest_put : openingTest (x.put s) = x.put (openingTest s) := by
  simp [openingTest, enterEjecting]

@[simp] theorem enterOpening_put : enterOpening (x.put s) = x.put (enterOpening s) := by
  simp [enterOpening]

@[simp] theorem reportUnload_put : reportUnload (x.put s) = x.put (reportUnload s) := by
  cases h : s.tailgate.unloadPending <;> simp [reportUnload, h]

@[simp] theorem unload_put : unload (x.put s) = ((unload s).1, x.put (unload s).2) := by
  simp only [unload, put_roles, put_fields, put_parts, reserve_put, setTailgateMarker_put,
    enterOpening_put]
  (repeat' split) <;> rfl

@[simp] theorem tailgateRecover_put :
    tailgateRecover (x.put s) = ((tailgateRecover s).1, x.put (tailgateRecover s).2) := by
  simp only [tailgateRecover, put_roles, put_fields, put_records, setTailgateMarker_put,
    enterOpening_put, enterClosing_put]
  (repeat' split) <;> rfl

/-! ### Release (R63, R64) -/

@[simp] theorem endRelease_put (st : Station) : endRelease st (x.put s) = x.put (endRelease st s) := by
  simp [endRelease]

@[simp] theorem enterRelease_put (st : Station) :
    enterRelease st (x.put s) = x.put (enterRelease st s) := by
  simp [enterRelease]

@[simp] theorem reportStation_put (st : Station) :
    reportStation st (x.put s) = x.put (reportStation st s) := by
  simp [reportStation]

/-! ### The Billing Engine (08) -/

@[simp] theorem addTotal_put (t : Total) (n : Nat) :
    addTotal t n (x.put s) = x.put (addTotal t n s) := by
  simp [addTotal]

@[simp] theorem commitRecord_put (h : Holder) (r : ChargeRecord) :
    commitRecord h r (x.put s) = x.put (commitRecord h r s) := by
  cases h : s.clock.valid <;> simp [commitRecord, h]

@[simp] theorem commitMarker_put (h : Holder) :
    commitMarker h (x.put s) = x.put (commitMarker h s) := by
  cases h <;> simp [commitMarker]

@[simp] theorem handPayload_put (r : ChargeRecord) :
    handPayload r (x.put s) = x.put (handPayload r s) := by
  simp [handPayload]

@[simp] theorem handTotals_put (r : ChargeRecord) :
    handTotals r (x.put s) = x.put (handTotals r s) := by
  simp [handTotals]

@[simp] theorem writeBack_put (k : BillKind) (r : ChargeRecord) (p : Price)
    (a : Option CounterAnswer) : writeBack k r p a (x.put s) = x.put (writeBack k r p a s) := by
  simp only [writeBack, put_fields, put_records, put_set]
  split <;> rfl

@[simp] theorem report_put (h : Holder) : report h (x.put s) = x.put (report h s) := by
  cases h <;> simp [report]

@[simp] theorem countServed_put (a : Option CounterAnswer) (capped : Bool) :
    countServed a capped (x.put s) = x.put (countServed a capped s) := by
  simp [countServed]

@[simp] theorem completeRequest_put (q : BillReq) (g : Figures) (a : Option CounterAnswer) :
    completeRequest q g a (x.put s) = x.put (completeRequest q g a s) := by
  simp [completeRequest]

@[simp] theorem answerCounter_put (q : BillReq) (g : Figures) (h : Household) :
    answerCounter q g h (x.put s) = x.put (answerCounter q g h s) := by
  simp [answerCounter, countAccess]

@[simp] theorem serveHead_put (q : BillReq) : serveHead q (x.put s) = x.put (serveHead q s) := by
  cases h : q.kind.access <;> simp [serveHead, h]

theorem serveRequests_put (n : Nat) : serveRequests n (x.put s) = x.put (serveRequests n s) := by
  induction n generalizing s with
  | zero => rfl
  | succ n ih =>
    simp only [serveRequests, put_fields]
    split
    · rw [serveHead_put, ih]
    · rfl

@[simp] theorem makeRequest_put (q : BillReq) : makeRequest q (x.put s) = x.put (makeRequest q s) := by
  simp [makeRequest, serveBilling, serveRequests_put]

/-! ### The lifts (04) -/

@[simp] theorem decideHold_put (st : Station) : decideHold st (x.put s) = x.put (decideHold st s) := by
  simp only [decideHold, put_fields, put_parts, put_setPart, bladeTest_put]
  (repeat' split) <;> rfl

@[simp] theorem enterHold_put (st : Station) : enterHold st (x.put s) = x.put (enterHold st s) := by
  simp [enterHold]

@[simp] theorem deliverLookup_put (st : Station) (tag : Nat) (res : Found) :
    deliverLookup st tag res (x.put s) = x.put (deliverLookup st tag res s) := by
  cases hr : (s.lift st).record with
  | none => simp [deliverLookup, hr]
  | some r => cases res <;> simp [deliverLookup, hr]

@[simp] theorem askLookup_put (st : Station) (tag : Nat) :
    askLookup st tag (x.put s) = x.put (askLookup st tag s) := by
  simp [askLookup, waitLookup, answerLookup, countLookup]

@[simp] theorem endRaise_put (st : Station) : endRaise st (x.put s) = x.put (endRaise st s) := by
  simp [endRaise]

@[simp] theorem enterRaise_put (st : Station) : enterRaise st (x.put s) = x.put (enterRaise st s) := by
  simp [enterRaise]

@[simp] theorem endEngage_put (st : Station) : endEngage st (x.put s) = x.put (endEngage st s) := by
  simp only [endEngage, assignTag_put]
  cases (assignTag st s).1 <;> simp

@[simp] theorem enterEngage_put (st : Station) :
    enterEngage st (x.put s) = x.put (enterEngage st s) := by
  simp [enterEngage]

@[simp] theorem acceptStart_put (st : Station) :
    acceptStart st (x.put s) = x.put (acceptStart st s) := by
  simp [acceptStart]

@[simp] theorem cycleStart_put (st : Station) :
    cycleStart st (x.put s) = ((cycleStart st s).1, x.put (cycleStart st s).2) := by
  simp only [cycleStart, put_roles, put_parts, put_setPart, acceptStart_put]
  (repeat' split) <;> rfl

@[simp] theorem lateRead_put (st : Station) (tag : Nat) :
    lateRead st tag (x.put s) = x.put (lateRead st tag s) := by
  simp [lateRead]

@[simp] theorem tagRead_put (src : Byte) (tag : BitVec 40) (strength : Byte) :
    tagRead src tag strength (x.put s) = x.put (tagRead src tag strength s) := by
  simp only [tagRead, put_fields, put_set, put_records, absorbRead_put, lateRead_put, queueRead_put]
  (repeat' split) <;> rfl

@[simp] theorem endLower_put (st : Station) : endLower st (x.put s) = x.put (endLower st s) := by
  simp only [endLower, fixTare_put, put_parts, put_setPart, releaseRequest_put]
  split
  · rfl
  · exact makeRequest_put _ _ _

@[simp] theorem enterLower_put (st : Station) : enterLower st (x.put s) = x.put (enterLower st s) := by
  simp [enterLower]

@[simp] theorem returnLift_put (st : Station) :
    returnLift st (x.put s) = ((returnLift st s).1, x.put (returnLift st s).2) := by
  simp only [returnLift, takeReturn, put_parts, put_setPart, enterLower_put]
  split <;> rfl

@[simp] theorem overrideLift_put (st : Station) :
    overrideLift st (x.put s) = ((overrideLift st s).1, x.put (overrideLift st s).2) := by
  simp only [overrideLift, put_parts, put_setPart, bladeTest_put]
  (repeat' split) <;> rfl

@[simp] theorem enterHoming_put (st : Station) :
    enterHoming st (x.put s) = x.put (enterHoming st s) := by
  simp [enterHoming, endHoming]

@[simp] theorem recover_put (st : Station) :
    recover st (x.put s) = ((recover st s).1, x.put (recover st s).2) := by
  simp only [recover, put_parts, put_roles, enterHoming_put]
  (repeat' split) <;> rfl

/-! ### The operator commands (R67) -/

@[simp] theorem operatorStart_put (st : Station) :
    operatorStart st (x.put s) = ((operatorStart st s).1, x.put (operatorStart st s).2) := by
  simp only [operatorStart, cycleStart_put]
  obtain ⟨r, t⟩ := cycleStart st s
  cases r <;> (split <;> rfl)

theorem stationCommand_put (code : OpCode) (tag : BitVec 4) (station : Byte)
    {f : Station → State → Reply × State}
    (hf : ∀ st, f st (x.put s) = ((f st s).1, x.put (f st s).2)) :
    stationCommand code tag station f (x.put s) = x.put (stationCommand code tag station f s) := by
  simp only [stationCommand, hf, served]
  split <;> exact sendReply_put _ _ _ _ _ _

theorem takeCommand_put (code : Byte) (tag : BitVec 4) (station : Byte) :
    takeCommand code tag station (x.put s) = x.put (takeCommand code tag station s) := by
  simp only [takeCommand]
  split
  · exact stationCommand_put x s _ _ _ (operatorStart_put x s)
  · exact stationCommand_put x s _ _ _ (returnLift_put x s)
  · exact stationCommand_put x s _ _ _ (overrideLift_put x s)
  · exact stationCommand_put x s _ _ _ (recover_put x s)
  · simp [commandPack, served]
  · simp [commandUnload, served]
  · simp [commandPackerRecover, served]
  · simp [commandTailgateRecover, served]
  · exact sendReply_put _ _ _ _ _ _

theorem operatorCommand_put (src : Byte) (tag : BitVec 4) (data : List Byte) :
    operatorCommand src tag data (x.put s) = x.put (operatorCommand src tag data s) := by
  simp [operatorCommand, takeCommand_put]

/-! ### The Node Mirror (R192) and the Clock (R180) -/

theorem nodeData_put (src : Byte) (tag : BitVec 4) (data : List Byte) :
    nodeData src tag data (x.put s) = x.put (nodeData src tag data s) := by
  have hd : (x.put s).agent.deferred = s.agent.deferred := rfl
  have hs (d : Deferred) : (x.put s).setDeferred d = x.put (s.setDeferred d) := rfl
  have hn : strayData (x.put s) = x.put (strayData s) := rfl
  simp only [nodeData, hd, hs, hn]
  (repeat' split) <;> rfl

theorem syncSample_put (v : Nat) : syncSample v (x.put s) = x.put (syncSample v s) := by
  simp only [syncSample, ignoreSync, clockStep, put_fields, put_set, addTotal_put, raiseNotice_put]
  (repeat' split) <;> rfl

/-! ### A change of the outputs (R29) -/

theorem resignal_put : resignal (x.put s) = x.put (resignal s) := by
  simp [resignal]

end

end Sys2Proof.Proofs

/-! A tapped frame (O21): the slot it reaches, the sample that a Chassis Time hands the Clock, and the way on
that a change of the outputs leaves as it is. -/

namespace Sys2Proof.Proofs

open Sys2Proof Sys2Proof.Machine Sys2Proof.Laws

theorem Apart.rests {f : State → State} (hf : Apart f) (s : State) :
    agentRests (f s) ↔ agentRests s := by
  have h := hf.asides s
  have hq : (f s).agent.queue = s.agent.queue := congrArg (fun x : Aside => x.queue []) h
  have hh : (f s).agent.hold = s.agent.hold := congrArg (fun x : Aside => x.hold .none) h
  unfold agentRests
  rw [hq, hh]

/-! ### A matched frame's way on, beside the toggle outputs -/

section

variable (s : State) (v : Toggles)

@[simp] theorem setToggles_port (p : Port) : (s.setToggles v).port p = s.port p := by cases p <;> rfl

@[simp] theorem setToggles_setPort (p : Port) (x : PortState) :
    (s.setToggles v).setPort p x = (s.setPort p x).setToggles v := by cases p <;> rfl

theorem chooseTx_setToggles (p : Port) :
    chooseTx p (s.setToggles v) = (chooseTx p s).setToggles v := by
  have hw : (s.setToggles v).firstWaits p = s.firstWaits p := by cases p <;> rfl
  simp only [chooseTx, hw, setToggles_port, setToggles_setPort]
  (repeat' split) <;> rfl

theorem pushForward_setToggles (p : Port) (f : Frame) (o : Option (Fin 64)) :
    pushForward p f o (s.setToggles v) = (pushForward p f o s).setToggles v := by
  simp only [pushForward, setToggles_port, setToggles_setPort, chooseTx_setToggles]

theorem dropOn_setToggles (i : Fin 64) :
    dropOn i (s.setToggles v) = (dropOn i s).setToggles v := rfl

theorem forwardRouted_setToggles (i : Fin 64) (p : Port) (f : Frame) :
    forwardRouted i p f (s.setToggles v) = (forwardRouted i p f s).setToggles v := by
  have hc : (s.setToggles v).canForward p = s.canForward p := canForward_congr (setToggles_port s v p)
  have hp : ((s.setToggles v).port p).off = (s.port p).off := by rw [setToggles_port]
  by_cases h0 : s.cfg.routeInterval i = 0
  · rw [forwardRouted_unlimited h0, forwardRouted_unlimited (s := s.setToggles v) h0, hc]
    split
    · exact pushForward_setToggles _ _ _ _ _
    · exact dropOn_setToggles _ _ _
  · cases hoff : (s.port p).off with
    | true =>
      rw [forwardRouted_off h0 hoff, forwardRouted_off (s := s.setToggles v) h0 (hp.trans hoff)]
      exact dropOn_setToggles _ _ _
    | false =>
      cases ht : (s.route i).timing.isRunning with
      | true =>
        rw [forwardRouted_timing h0 hoff ht,
          forwardRouted_timing (s := s.setToggles v) h0 (hp.trans hoff) ht]
        rfl
      | false =>
        rw [forwardRouted_open h0 hoff ht,
          forwardRouted_open (s := s.setToggles v) h0 (hp.trans hoff) ht, hc]
        split
        · exact pushForward_setToggles (s.setRoute i { s.route i with
            timing := .running (s.now + s.cfg.routeInterval i) }) v p (s.cfg.translated i f) (some i)
        · exact dropOn_setToggles _ _ _

end

/-- The toggle outputs that a state's functions call for (R161). -/
def toggled (s : State) : Toggles := (settleToggles s).toggles

theorem settleToggles_eq (s : State) : settleToggles s = s.setToggles (toggled s) := rfl

theorem keeps_toggled : Keeps toggled [.chassis, .body, .routes] := by
  intro f hf
  simp only [List.mem_cons, List.not_mem_nil, or_false] at hf
  rcases hf with rfl | rfl | rfl <;> exact fun _ _ => rfl

theorem settleToggles_forwardRouted (i : Fin 64) (p : Port) (f : Frame) (s : State) :
    settleToggles (forwardRouted i p f s) = forwardRouted i p f (settleToggles s) := by
  rw [settleToggles_eq, settleToggles_eq, forwardRouted_setToggles,
    forwardRouted_keeps toggled keeps_toggled.mono]

/-! ### The entry of a tap (R10, R11) -/

/-- A tapped frame goes no further with Tap, and is offered with the other two Actions (R10). -/
def tappedOn (a : RouteAction) (i : Fin 64) (p : Port) (f : Frame) (s : State) : State :=
  if a = .tap then s else forwardRouted i p f s

theorem applyRoute_tapped {i : Fin 64} {p : Port} {f : Frame} {k : SlotId} {s : State}
    (ht : (s.cfg.routeAction i).taps = true) (hk : s.cfg.routeTap i = some k) :
    applyRoute i p f s = tappedOn (s.cfg.routeAction i) i p.other f (tap k f.data
      (s.setRoute i { s.route i with matched := bump (s.route i).matched })) := by
  cases ha : s.cfg.routeAction i <;> simp [ha, RouteAction.taps] at ht <;>
    simp [applyRoute, tappedOn, ha, hk, RouteAction.taps, RouteAction.offers]

theorem tappedOn_agent (a : RouteAction) (i : Fin 64) (p : Port) (f : Frame) (s : State) :
    (tappedOn a i p f s).agent = s.agent := by
  unfold tappedOn
  split
  · rfl
  · exact forwardRouted_keeps State.agent keeps_agent.mono _ _ _ _

theorem settleToggles_tappedOn (a : RouteAction) (i : Fin 64) (p : Port) (f : Frame) (s : State) :
    settleToggles (tappedOn a i p f s) = tappedOn a i p f (settleToggles s) := by
  unfold tappedOn
  split
  · rfl
  · exact settleToggles_forwardRouted _ _ _ _

/-- A tapped frame, in a part at rest: what its tap makes of the part, and its way on. -/
theorem exec_tapped {p : Port} {f : Frame} {i : Fin 64} {k : SlotId} {s t : State} (hl : live s)
    (hf : f.wf = true) (hoff : (s.port p).off = false) (hn : notDelivered s p f)
    (hm : s.mode.configuring = false) (hr : s.cfg.findRoute p f = some i)
    (ht : (s.cfg.routeAction i).taps = true) (hk : s.cfg.routeTap i = some k)
    (htap : tap k f.data ((s.setPort p (s.port p).heard).setRoute i
      { s.route i with matched := bump (s.route i).matched }) = t) (ha : agentRests t) :
    exec (.frameReceived p f) s =
      .next (tappedOn (s.cfg.routeAction i) i p.other f (settleToggles t)) := by
  have hroute : routeFrame p f (s.setPort p (s.port p).heard) =
      tappedOn (s.cfg.routeAction i) i p.other f t := by
    rw [routeFrame_matched (by simpa using hm) (by simpa using hr),
      applyRoute_tapped (by simpa using ht) (by simpa using hk), ← htap]
    simp
  rw [exec_undelivered hl hf hoff hn, hroute,
    serveAgent_rests ((agentRests_congr (tappedOn_agent _ _ _ _ _)).mpr ha), settleToggles_tappedOn]

/-! ### The Clock's sample (R180, R181) -/

/-- The Control Queue's store, its port and the Agent are all that a notice reaches. -/
theorem offerControl_sets (f : Frame) (b : Bool) (s : State) :
    ∃ x c, offerControl f b s = (s.setBody x).setControl c := by
  unfold offerControl
  split
  · exact ⟨{ s.body with controlOverflow := bump s.body.controlOverflow }, s.control, rfl⟩
  · obtain ⟨tx, h⟩ := chooseTx_sets .body (s.setControl (s.control ++ [⟨f, b⟩]))
    exact ⟨_, _, h⟩

theorem raiseNotice_sets (k : Notice) (s : State) :
    ∃ x c g, raiseNotice k s = ((s.setBody x).setControl c).setAgent g := by
  rw [raiseNotice_eq]
  split
  · exact ⟨s.body, s.control, s.agent, rfl⟩
  · split
    · exact ⟨s.body, s.control, _, rfl⟩
    · obtain ⟨x, c, h⟩ := offerControl_sets ((markNotice k s).bodyFrame .notice
        (BitVec.ofNat 8 ((markNotice k s).cfg.managerNode .terminal)) 0
        (leBytes 2 (markNotice k s).agent.notices.toNat)) false (markNotice k s)
      unfold sendNotice
      dsimp only
      rw [h]
      exact ⟨x, c, _, rfl⟩

/-- A number that is stored reads as its own bytes. -/
theorem num_putNum {m : Mem} (a n v : Nat) (h : m.wf = true) :
    (m.putNum a n v).num a n = v % 256 ^ n := by
  have hr := readBytes_writeBytes a (leBytes n v) h
  rw [leBytes_length] at hr
  rw [Mem.num, Mem.putNum, hr, ofLe_leBytes]

theorem addTotal_total (t : Total) (n : Nat) {s : State} (h : s.store.wf = true) :
    (addTotal t n s).total t = min (s.total t + n) 0xFFFFFFFF := by
  have he : (addTotal t n s).total t = satAdd 0xFFFFFFFF (s.total t) n % 256 ^ 4 :=
    num_putNum _ _ _ h
  rw [he, satAdd]
  omega

theorem addTotal_read {t : Total} {n a : Nat} {s : State} (h : s.store.wf = true)
    (ha : a < totalAddr t ∨ totalAddr t + 4 ≤ a) :
    (addTotal t n s).store.read a = s.store.read a :=
  read_writeBytes_other _ (by rwa [leBytes_length]) h

theorem syncSample_ignored {v : Nat} {s : State}
    (h : v = 0 ∨ (s.clock.valid = true ∧ apart v s.clock.seconds ≤ s.cfg.syncTolerance)) :
    syncSample v s = s.setClock { s.clock with
      syncSamples := bump s.clock.syncSamples, syncIgnored := bump s.clock.syncIgnored } := by
  rcases h with rfl | ⟨hv, ht⟩
  · rfl
  · unfold syncSample
    simp only [setClock_clock, setClock_cfg, hv, ht, if_true, Bool.not_true, Bool.false_eq_true,
      if_false]
    split <;> rfl

theorem syncSample_set {v : Nat} {s : State} (h0 : v ≠ 0) (hv : s.clock.valid = false) :
    syncSample v s = s.setClock { s.clock with
      syncSamples := bump s.clock.syncSamples
      seconds := v, valid := true, syncsSet := bump s.clock.syncsSet } := by
  unfold syncSample
  simp only [setClock_clock, hv, h0, if_false, Bool.not_false, if_true]
  rfl

theorem syncSample_step {v : Nat} {s : State} (h0 : v ≠ 0) (hv : s.clock.valid = true)
    (ht : s.cfg.syncTolerance < apart v s.clock.seconds) :
    syncSample v s = raiseNotice .clockStepped (addTotal .clockSteps 1 (s.setClock { s.clock with
      syncSamples := bump s.clock.syncSamples
      seconds := v, stepCount := bump s.clock.stepCount, stepped := true })) := by
  unfold syncSample clockStep
  simp only [setClock_clock, setClock_cfg, hv, h0, Nat.not_le.mpr ht, if_false, Bool.not_true,
    Bool.false_eq_true]
  rfl

/-- What a sample does to the part: the Clock as the three cases of R180 and R181 say, the step counted in
its total, and the notice of a step. -/
theorem syncSample_cases (v : Nat) {s : State} (hw : s.store.wf = true) :
    let y := syncSample v s
    y.total .clockSteps = (if v ≠ 0 ∧ s.clock.valid = true ∧
        s.cfg.syncTolerance < apart v s.clock.seconds then min (s.total .clockSteps + 1) 0xFFFFFFFF
      else s.total .clockSteps) ∧
    (∀ a, a < 0x6302C ∨ 0x63030 ≤ a → y.store.read a = s.store.read a) ∧
    y = { s with
      clock := y.clock, store := y.store, agent := y.agent, body := y.body, control := y.control } := by
  intro y
  by_cases h : v ≠ 0 ∧ s.clock.valid = true ∧ s.cfg.syncTolerance < apart v s.clock.seconds
  · obtain ⟨h0, hv, ht⟩ := h
    obtain ⟨x, c, g, hs⟩ := raiseNotice_sets .clockStepped (addTotal .clockSteps 1
      (s.setClock { s.clock with
        syncSamples := bump s.clock.syncSamples
        seconds := v, stepCount := bump s.clock.stepCount, stepped := true }))
    have hy : y = _ := (syncSample_step h0 hv ht).trans hs
    rw [hy, if_pos ⟨h0, hv, ht⟩]
    exact ⟨addTotal_total _ _ hw, fun a ha => addTotal_read hw ha, rfl⟩
  · have hy : ∃ c, y = s.setClock c := by
      by_cases h0 : v = 0
      · exact ⟨_, syncSample_ignored (.inl h0)⟩
      · cases hv : s.clock.valid with
        | false => exact ⟨_, syncSample_set h0 hv⟩
        | true =>
          exact ⟨_, syncSample_ignored (.inr ⟨hv, Nat.not_lt.mp fun ht => h ⟨h0, hv, ht⟩⟩)⟩
    obtain ⟨c, hy⟩ := hy
    rw [hy, if_neg h]
    exact ⟨rfl, fun _ _ => rfl, rfl⟩

/-! ### The tap (R20 to R23) -/

theorem tap_valid {k : SlotId} {data : List Byte} {s : State} {raw v : Nat}
    (hr : s.cfg.rawField k data = some raw) (hv : s.cfg.slotValue k raw = some v) :
    tap k data s = validTap k v s := by
  simp only [tap, hr, hv]

/-- Settles O21. -/
theorem tapTaken : Obligations.TapTaken := by
  intro p f i k s hl ha hf hoff hn hm hr ht hk u goesOn refreshed
  have hcfg : u.cfg = s.cfg := by simp [u]
  have hslot : u.slot k = s.slot k := by simp [u, State.slot, State.setRoute]
  have hnow : u.now = s.sys.now := by simp [u, State.now]
  have hagent : u.agent = s.agent := by simp [u, State.setRoute]
  have hclock : u.clock = s.clock := by cases p <;> rfl
  have hstore : u.store = s.store := by cases p <;> rfl
  have hset : settled u := (settled_setRoute _ _ _).mpr ((settled_setPort _ _ _).mpr hl.2)
  have hrests : agentRests u := (agentRests_congr hagent).mpr ha
  have taps {t : State} (htap : tap k f.data u = t) (hat : agentRests t) :
      exec (.frameReceived p f) s = .next (goesOn (settleToggles t)) :=
    exec_tapped hl hf hoff hn hm hr ht hk htap hat
  have rejected (x : Slot) (htap : tap k f.data u = u.setSlot k x) :
      exec (.frameReceived p f) s = .next (goesOn (u.setSlot k x)) := by
    rw [taps htap hrests, settleToggles_same (s := u.setSlot k x) hset.1 hset.2]
  have valid {y : State} {raw v : Nat} (hraw : s.cfg.rawField k f.data = some raw)
      (hval : s.cfg.slotValue k raw = some v) (hy : validTap k v u = resignal y) (hys : settled y)
      (hyr : agentRests y) : exec (.frameReceived p f) s = .next (goesOn (settleToggles (resignal y))) ∧
        handsOn y (settleToggles (resignal y)) := by
    refine ⟨taps ?_ ((Apart.rests resignal_put y).mpr hyr), resignal_handsOn hys⟩
    rw [tap_valid (by rwa [hcfg]) (by rwa [hcfg]), hy]
  have refreshes (v : Nat) : validTap k v u =
      resignal (if k = .chassisTime then syncSample v (refreshed v) else refreshed v) := by
    simp only [validTap, hcfg, hslot, hnow]
    rfl
  refine ⟨fun hraw => rejected _ ?_, fun raw hraw hval => rejected _ ?_,
    fun raw v hraw hval => ⟨fun hkind => ?_, fun hkind hw => ?_⟩⟩
  · simp only [tap, hcfg, hraw, rejectTap, hslot]
  · simp only [tap, hcfg, hraw, hval, rejectTap, hslot]
  · exact ⟨_, valid hraw hval ((refreshes v).trans (by rw [if_neg hkind])) hset hrests⟩
  · intro apart sampled becomes
    have hstores : (refreshed v).store.wf = true := hstore ▸ hw.1
    obtain ⟨htotal, hread, hframe⟩ := syncSample_cases v hstores
    have hys : settled (syncSample v (refreshed v)) :=
      (syncSample_keeps settled keeps_settled.mono v _).mpr hset
    have hyr : agentRests (syncSample v (refreshed v)) :=
      (Apart.rests (f := syncSample v) (fun x s => syncSample_put x s v) _).mpr hrests
    obtain ⟨hexec, hhands⟩ := valid hraw hval ((refreshes v).trans (by rw [if_pos hkind])) hys hyr
    have hrc : (refreshed v).clock = s.clock := hclock
    have hrcfg : (refreshed v).cfg = s.cfg := hcfg
    have hrt : (refreshed v).total .clockSteps = s.total .clockSteps := by
      unfold State.total
      exact congrArg (fun m : Mem => m.num _ _) hstore
    have hrs : (refreshed v).store = s.store := hstore
    rw [hrc, hrcfg, hrt] at htotal
    rw [hrs] at hread
    have hbecomes {stepped : Bool} {c : Clock} (hc : (syncSample v (refreshed v)).clock = c)
        (hb : stepped = true ↔ v ≠ 0 ∧ s.clock.valid = true ∧
          s.cfg.syncTolerance < Machine.apart v s.clock.seconds) : becomes stepped c := by
      refine ⟨_, _, hexec, hhands, hc, ?_, hread, hframe⟩
      rw [htotal]
      simp only [hb]
    refine ⟨fun h => hbecomes ?_ ?_, fun h0 hv => hbecomes ?_ ?_, fun h0 hv hlt => hbecomes ?_ ?_⟩
    · rw [syncSample_ignored (by rw [hrc, hrcfg]; exact h), hrc]
      rfl
    · refine ⟨fun h => absurd h (by decide), fun ⟨h0, hv, hlt⟩ => ?_⟩
      rcases h with h | ⟨-, hle⟩
      · exact absurd h h0
      · exact absurd hlt (Nat.not_lt.mpr hle)
    · rw [syncSample_set h0 (by rw [hrc]; exact hv), hrc]
      rfl
    · exact ⟨fun h => absurd h (by decide), fun ⟨_, hv', _⟩ => by simp [hv] at hv'⟩
    · rw [syncSample_step h0 (by rw [hrc]; exact hv) (by rw [hrc, hrcfg]; exact hlt),
        raiseNotice_keeps State.clock keeps_clock.mono, hrc]
      rfl
    · exact ⟨fun _ => ⟨h0, hv, hlt⟩, fun _ => rfl⟩

end Sys2Proof.Proofs

/-! A received frame (O17): the Default Action of one that no block takes, and the delivery of one that its
owner has. The owner's handling comes before the routing in the model and after it in the statement; the two
commute, since the owners act apart from the ports and routes. -/

namespace Sys2Proof.Proofs

open Sys2Proof Sys2Proof.Machine Sys2Proof.Laws

/-! ### The Default Action (R12) -/

theorem canForward_heard (p : Port) (s : State) :
    (s.setPort p (s.port p).heard).canForward p.other = s.canForward p.other :=
  canForward_congr (port_other_setPort _ _ _)

theorem defaultAction_drop {p : Port} {f : Frame} {s : State}
    (h : s.cfg.defaultForward p = false ∨ s.canForward p.other = false) :
    defaultAction p f s = s.setPort p { s.port p with unrouted := bump (s.port p).unrouted } :=
  if_neg (by rcases h with h | h <;> simp [h])

theorem defaultAction_forward {p : Port} {f : Frame} {s : State}
    (hd : s.cfg.defaultForward p = true) (hc : s.canForward p.other = true) :
    defaultAction p f s = pushForward p.other f none s := if_pos (by simp [hd, hc])

/-! ### What an owner leaves to the routing -/

/-- Other values of the items that a routing changes, beside the Agent's. -/
def routedAside (c : PortState) (n : Nat) (r : Vector RouteState 64) : Aside := ⟨c, n, r, id, id⟩

/-- A handling that acts the same whatever a routing has made of the Chassis Port, the routes and the
Unrouted Drops, and that leaves alone what the routing of a Body Port frame reads besides. -/
structure Unrouting (g : State → State) : Prop where
  put : ∀ c n r s, g ((routedAside c n r).put s) = (routedAside c n r).put (g s)
  sys : ∀ s, (g s).sys = s.sys
  mode : ∀ s, (g s).mode = s.mode
  cfg : ∀ s, (g s).cfg = s.cfg
  statusBuffer : ∀ s, (g s).statusBuffer = s.statusBuffer

namespace Unrouting

variable {g : State → State} (h : Unrouting g) (s : State)

include h

/-- The items as they stand are left alone. -/
theorem same : g s = (routedAside s.chassis s.body.unrouted s.routes).put (g s) :=
  h.put s.chassis s.body.unrouted s.routes s

theorem routes : (g s).routes = s.routes := (congrArg State.routes (h.same s)).trans rfl

theorem chassis : (g s).chassis = s.chassis := (congrArg State.chassis (h.same s)).trans rfl

theorem unrouted : (g s).body.unrouted = s.body.unrouted :=
  (congrArg (fun t : State => t.body.unrouted) (h.same s)).trans rfl

theorem setRoutes (v : Vector RouteState 64) : g (s.setRoutes v) = (g s).setRoutes v := by
  have hp : g (s.setRoutes v) = (routedAside s.chassis s.body.unrouted v).put (g s) :=
    h.put s.chassis s.body.unrouted v s
  rw [hp, ← h.chassis, ← h.unrouted]
  rfl

theorem setChassis (v : PortState) : g (s.setChassis v) = (g s).setChassis v := by
  have hp : g (s.setChassis v) = (routedAside v s.body.unrouted s.routes).put (g s) :=
    h.put v s.body.unrouted s.routes s
  rw [hp, ← h.unrouted, ← h.routes]
  rfl

theorem setUnrouted (n : Nat) : g (s.setBody { s.body with unrouted := n }) =
    (g s).setBody { (g s).body with unrouted := n } := by
  have hp : g (s.setBody { s.body with unrouted := n }) =
      (routedAside s.chassis n s.routes).put (g s) := h.put s.chassis n s.routes s
  rw [hp, ← h.chassis, ← h.routes]
  rfl

theorem setRoute (i : Fin 64) (r : RouteState) : g (s.setRoute i r) = (g s).setRoute i r := by
  rw [State.setRoute, h.setRoutes, ← h.routes s]
  rfl

theorem route (i : Fin 64) : (g s).route i = s.route i := by
  rw [State.route, h.routes]
  rfl

theorem dropOn (i : Fin 64) : Machine.dropOn i (g s) = g (Machine.dropOn i s) := by
  rw [Machine.dropOn, Machine.dropOn, h.setRoute, h.route]

theorem countUnrouted : Machine.countUnrouted .body (g s) = g (Machine.countUnrouted .body s) := by
  have hu := h.setUnrouted s (bump s.body.unrouted)
  exact (hu.trans (by rw [← h.unrouted]; rfl)).symm

theorem canForward : (g s).canForward .chassis = s.canForward .chassis :=
  canForward_congr (h.chassis s)

theorem chooseTx : Machine.chooseTx .chassis (g s) = g (Machine.chooseTx .chassis s) := by
  have hp : (g s).port .chassis = s.port .chassis := h.chassis s
  have hw : (g s).firstWaits .chassis = s.firstWaits .chassis := by
    simp only [State.firstWaits, h.statusBuffer]
  have hset (v : PortState) : (g s).setPort .chassis v = g (s.setPort .chassis v) :=
    (h.setChassis s v).symm
  simp only [Machine.chooseTx, hp, hw, hset]
  (repeat' split) <;> rfl

theorem pushForward (f : Frame) (o : Option (Fin 64)) :
    Machine.pushForward .chassis f o (g s) = g (Machine.pushForward .chassis f o s) := by
  have hp : (g s).port .chassis = s.port .chassis := h.chassis s
  have hset (v : PortState) : (g s).setPort .chassis v = g (s.setPort .chassis v) :=
    (h.setChassis s v).symm
  rw [Machine.pushForward, Machine.pushForward, hp, hset, h.chooseTx]

theorem defaultAction (f : Frame) :
    Machine.defaultAction .body f (g s) = g (Machine.defaultAction .body f s) := by
  simp only [Machine.defaultAction, Port.other, h.cfg, h.canForward, h.pushForward, h.countUnrouted]
  exact (apply_ite g _ _ _).symm

theorem forwardRouted (i : Fin 64) (f : Frame) :
    Machine.forwardRouted i .chassis f (g s) = g (Machine.forwardRouted i .chassis f s) := by
  have hoff : ((g s).port .chassis).off = (s.port .chassis).off := congrArg PortState.off (h.chassis s)
  have hcfg := h.cfg s
  have hnow : (g s).now = s.now := congrArg Sys.now (h.sys s)
  have hroute := h.route s i
  by_cases h0 : s.cfg.routeInterval i = 0
  · rw [forwardRouted_unlimited h0, forwardRouted_unlimited (by rwa [hcfg]), h.canForward, hcfg]
    split
    · exact h.pushForward _ _ _
    · exact h.dropOn _ _
  · have h0' : (g s).cfg.routeInterval i ≠ 0 := by rwa [hcfg]
    cases ho : (s.port .chassis).off with
    | true =>
      rw [forwardRouted_off h0 ho, forwardRouted_off h0' (hoff.trans ho)]
      exact h.dropOn _ _
    | false =>
      cases ht : (s.route i).timing.isRunning with
      | true =>
        rw [forwardRouted_timing h0 ho ht,
          forwardRouted_timing h0' (hoff.trans ho) (by rwa [hroute]), hroute, hcfg, h.setRoute]
      | false =>
        rw [forwardRouted_open h0 ho ht,
          forwardRouted_open h0' (hoff.trans ho) (by rwa [hroute]), hroute, hcfg, hnow,
          h.canForward, ← h.setRoute]
        split
        · exact h.pushForward _ _ _
        · exact h.dropOn _ _

end Unrouting

/-! ### A frame that no entry taps -/

/-- Whether the Frame Router may tap a frame (R8, R11). -/
def Untapped (p : Port) (f : Frame) (s : State) : Prop :=
  s.mode.configuring = true ∨
    ∀ i, s.cfg.findRoute p f = some i → (s.cfg.routeAction i).taps = false

theorem untapped_setPort {p q : Port} {f : Frame} {s : State} (x : PortState) :
    Untapped p f (s.setPort q x) ↔ Untapped p f s := by
  simp only [Untapped, setPort_mode, setPort_cfg]

/-- The three ways of an untapped frame. -/
theorem routeFrame_untapped {p : Port} {f : Frame} {s : State} (h : Untapped p f s) :
    ((s.mode.configuring = true ∨ s.cfg.findRoute p f = none) ∧
      routeFrame p f s = defaultAction p f s) ∨
    ∃ i, (s.mode.configuring = false ∧ s.cfg.findRoute p f = some i ∧
        (s.cfg.routeAction i).taps = false) ∧
      routeFrame p f s = applyRoute i p f s := by
  cases hm : s.mode.configuring with
  | true => exact .inl ⟨.inl rfl, routeFrame_default (.inl hm)⟩
  | false =>
    cases hr : s.cfg.findRoute p f with
    | none => exact .inl ⟨.inr rfl, routeFrame_default (.inr hr)⟩
    | some i =>
      have ht := h.resolve_left (by simp [hm]) i hr
      exact .inr ⟨i, ⟨rfl, rfl, ht⟩, routeFrame_matched hm hr⟩

theorem applyRoute_unrouting {g : State → State} (h : Unrouting g) {i : Fin 64} {f : Frame}
    {s : State} (ht : (s.cfg.routeAction i).taps = false) :
    applyRoute i .body f (g s) = g (applyRoute i .body f s) := by
  have hcfg := h.cfg s
  by_cases hd : s.cfg.routeAction i = .drop
  · rw [applyRoute_drop hd, applyRoute_drop (by rwa [hcfg]), h.route, ← h.setRoute, h.dropOn]
  · rw [applyRoute_untapped ht hd, applyRoute_untapped (by rwa [hcfg]) (by rwa [hcfg]), h.route,
      ← h.setRoute]
    exact h.forwardRouted _ _ _

/-- The routing of an untapped Body Port frame and the handling of its owner commute. -/
theorem routeFrame_unrouting {g : State → State} (h : Unrouting g) {f : Frame} {s : State}
    (ht : Untapped .body f s) : routeFrame .body f (g s) = g (routeFrame .body f s) := by
  have hmode := h.mode s
  have hcfg := h.cfg s
  rcases routeFrame_untapped ht with ⟨hr, he⟩ | ⟨i, ⟨hm, hr, ht⟩, he⟩
  · rw [he, routeFrame_default (by rwa [hmode, hcfg]), h.defaultAction]
  · rw [he, routeFrame_matched (by rwa [hmode]) (by rwa [hcfg]), applyRoute_unrouting h ht]

/-- The routing of an untapped frame reaches the ports and the routes alone. -/
theorem routeFrame_untapped_keeps {α : Type} (π : State → α)
    (hk : Keeps π [.chassis, .body, .routes]) {p : Port} {f : Frame} {s : State}
    (ht : Untapped p f s) : π (routeFrame p f s) = π s := by
  have hset (i : Fin 64) (r : RouteState) : π (s.setRoute i r) = π s := hk.routes rfl s _
  rcases routeFrame_untapped ht with ⟨-, he⟩ | ⟨i, ⟨-, -, ht⟩, he⟩
  · rw [he, defaultAction_keeps π hk.mono]
  · rw [he]
    by_cases hd : s.cfg.routeAction i = .drop
    · rw [applyRoute_drop hd, dropOn_keeps π hk.mono, hset]
    · rw [applyRoute_untapped ht hd, forwardRouted_keeps π hk.mono, hset]

/-! ### The owners (R9) -/

theorem countMalformed_put (x : Aside) (s : State) :
    countMalformed (x.put s) = x.put (countMalformed s) := rfl

theorem respond_put (r : Request) (a : Answer) (b : Bool) (x : Aside) (s : State) :
    respond r a b (x.put s) = x.put (respond r a b s) := by
  have hc : countStatus a.status (x.put s) = x.put (countStatus a.status s) := rfl
  simp only [respond, hc, offerControl_put, put_parts]

/-- Every owner but the Agent, which has requests join its queue, acts apart from the queue. -/
theorem deliver_apart {c : BodyClass} (h : c ≠ .managementRequest) (f : Frame) :
    Apart (deliver c f) := by
  intro x s
  cases c with
  | managementRequest => exact absurd rfl h
  | weighSample => exact weighSample_put _ _ _ _ _ _
  | attitude => exact attitude_put _ _ _ _ _
  | tagRead => exact tagRead_put _ _ _ _ _
  | operatorCommand => exact operatorCommand_put _ _ _ _ _
  | nodeData => exact nodeData_put _ _ _ _ _
  | operatorReply | managementResponse | notice | nodeQuery => rfl

/-- An operation that acts apart and replaces no field that the routing reads. -/
theorem Apart.unrouting {g : State → State} (hg : Apart g)
    (hkeeps : ∀ {α : Type} (π : State → α), Keeps π [.arb, .store, .body, .control, .lifts,
      .foreignCommands, .markers, .tags, .weigh, .zeros, .table, .billing, .queue, .arbiter, .packer,
      .payload, .tailgate, .clock, .agent] → ∀ s, π (g s) = π s) : Unrouting g where
  put c n r s := hg (routedAside c n r) s
  sys := hkeeps _ keeps_sys.mono
  mode := hkeeps _ keeps_mode.mono
  cfg := hkeeps _ keeps_cfg.mono
  statusBuffer := hkeeps _ keeps_statusBuffer.mono

/-- A request joins the queue, or is answered Busy, whatever the routing has done (R185). -/
theorem takeRequest_put (q : Request) (c : PortState) (n : Nat) (r : Vector RouteState 64)
    (s : State) : takeRequest q ((routedAside c n r).put s) =
      (routedAside c n r).put (takeRequest q s) := by
  have hq : ((routedAside c n r).put s).agent = s.agent := rfl
  simp only [takeRequest, hq, respond_put]
  split <;> rfl

theorem receiveRequest_put (src : Byte) (tag : BitVec 4) (data : List Byte) (c : PortState) (n : Nat)
    (r : Vector RouteState 64) (s : State) :
    receiveRequest src tag data ((routedAside c n r).put s) =
      (routedAside c n r).put (receiveRequest src tag data s) := by
  simp only [receiveRequest, put_fields, takeRequest_put]
  split <;> rfl

theorem deliver_unrouting (c : BodyClass) (f : Frame) : Unrouting (deliver c f) := by
  by_cases h : c = .managementRequest
  · subst h
    exact ⟨receiveRequest_put _ _ _, deliver_keeps State.sys keeps_sys.mono _ f,
      deliver_keeps State.mode keeps_mode.mono _ f, deliver_keeps State.cfg keeps_cfg.mono _ f,
      deliver_keeps State.statusBuffer keeps_statusBuffer.mono _ f⟩
  · exact (deliver_apart h f).unrouting fun π hk => deliver_keeps π hk.mono c f

theorem countMalformed_unrouting : Unrouting countMalformed :=
  Apart.unrouting countMalformed_put fun π hk => countMalformed_keeps π hk.mono

/-! ### The delivery of a frame (R9) -/

theorem dispatch_eq {f : Frame} {c : BodyClass} {n : Nat} {s : State} (ha : s.addressed f = true)
    (hc : frameClass f = some c) (hn : c.minLength = some n) :
    dispatch f s = if f.data.length < n then countMalformed s else deliver c f s := by
  simp [dispatch, hc, hn, ha]

theorem exec_delivered {f : Frame} {s u : State} {g : State → State} (hl : live s)
    (hf : f.wf = true) (hoff : (s.port .body).off = false) (ht : Untapped .body f s)
    (hu : routeFrame .body f (s.setPort .body (s.port .body).heard) = u)
    (hg : dispatch f (s.setPort .body (s.port .body).heard) =
      g (s.setPort .body (s.port .body).heard)) (hgu : Unrouting g) :
    exec (.frameReceived .body f) s = .next (settleToggles (serveAgent (g u))) := by
  have hfr : frameReceived .body f s = serveAgent (g u) := by
    unfold frameReceived
    rw [if_neg (by simp [hoff]), countReceived_eq]
    dsimp only
    rw [if_pos rfl, hg, routeFrame_unrouting hgu ((untapped_setPort _).mpr ht), hu]
  rw [exec_frameReceived_eq, handled_powered hl.1, carriedFrame_wf hf, hfr]

/-! ### The fields of the data bytes (13) -/

/-- A little-endian number, its lowest byte apart. -/
theorem ofNat_byte (w v : Nat) (b : Byte) :
    BitVec.ofNat (w + 8) (b.toNat + 256 * v) = BitVec.ofNat w v ++ b := by
  have hb : b.toNat < 256 := b.isLt
  apply BitVec.eq_of_toNat_eq
  rw [BitVec.toNat_append, ← Nat.shiftLeft_add_eq_or_of_lt b.isLt, Nat.shiftLeft_eq,
    BitVec.toNat_ofNat, BitVec.toNat_ofNat, Nat.pow_add, Nat.mul_comm (2 ^ w), Nat.mod_mul,
    show (b.toNat + 256 * v) % 2 ^ 8 = b.toNat by omega,
    show (b.toNat + 256 * v) / 2 ^ 8 = v by omega, Nat.add_comm, Nat.mul_comm]

theorem ofNat_bytes2 (a b : Byte) : BitVec.ofNat 16 (ofLe [a, b]) = b ++ a := by
  have h : BitVec.ofNat 8 (ofLe [b]) = b := by simp [ofLe]
  exact (ofNat_byte 8 (ofLe [b]) a).trans (by rw [h])

theorem ofNat_bytes3 (a b c : Byte) : BitVec.ofNat 24 (ofLe [a, b, c]) = c ++ b ++ a :=
  (ofNat_byte 16 (ofLe [b, c]) a).trans (by rw [ofNat_bytes2])

theorem ofNat_bytes5 (a b c d e : Byte) :
    BitVec.ofNat 40 (ofLe [a, b, c, d, e]) = e ++ d ++ c ++ b ++ a :=
  (ofNat_byte 32 (ofLe [b, c, d, e]) a).trans
    (by rw [show BitVec.ofNat 32 (ofLe [b, c, d, e]) = e ++ d ++ c ++ b from
      (ofNat_byte 24 (ofLe [c, d, e]) b).trans (by rw [ofNat_bytes3])])

/-! ### A delivered frame as its owner's row -/

/-- A frame that its owner has, in a part at rest whose next state the routing alone would be `u`. -/
structure Delivered (c : BodyClass) (f : Frame) (s u : State) : Prop where
  live : live s
  rests : agentRests s
  wf : f.wf = true
  active : (s.port .body).off = false
  untapped : Untapped .body f s
  addressed : s.addressed f = true
  isClass : frameClass f = some c
  routed : routeFrame .body f (s.setPort .body (s.port .body).heard) = u

namespace Delivered

variable {c : BodyClass} {f : Frame} {s u : State} (h : Delivered c f s u)

include h

theorem keeps {α : Type} (π : State → α) (hk : Keeps π [.chassis, .body, .routes]) : π u = π s := by
  rw [← h.routed, routeFrame_untapped_keeps π hk ((untapped_setPort _).mpr h.untapped),
    setPort_keeps π hk.mono]

theorem powered : u.sys.powered = true :=
  (congrArg Sys.powered (h.keeps State.sys keeps_sys.mono)).trans h.live.1

theorem settled_routed : settled u := (h.keeps settled keeps_settled.mono).mpr h.live.2

theorem rests_routed : agentRests u :=
  (agentRests_congr (h.keeps State.agent keeps_agent.mono)).mpr h.rests

theorem exec_short {n : Nat} (hn : c.minLength = some n) (hlen : f.data.length < n) :
    exec (.frameReceived .body f) s = .next (countMalformed u) := by
  have hd : dispatch f (s.setPort .body (s.port .body).heard) =
      countMalformed (s.setPort .body (s.port .body).heard) := by
    rw [dispatch_eq (by simpa [State.addressed] using h.addressed) h.isClass hn, if_pos hlen]
  rw [exec_delivered h.live h.wf h.active h.untapped h.routed hd countMalformed_unrouting,
    serveAgent_rests (s := countMalformed u) h.rests_routed,
    settleToggles_same (s := countMalformed u) h.settled_routed.1 h.settled_routed.2]

theorem exec_whole {n : Nat} (hn : c.minLength = some n) (hlen : n ≤ f.data.length) :
    exec (.frameReceived .body f) s = .next (handled (fun t => serveAgent (deliver c f t)) u) := by
  have hd : dispatch f (s.setPort .body (s.port .body).heard) =
      deliver c f (s.setPort .body (s.port .body).heard) := by
    rw [dispatch_eq (by simpa [State.addressed] using h.addressed) h.isClass hn,
      if_neg (Nat.not_lt.mpr hlen)]
  rw [exec_delivered h.live h.wf h.active h.untapped h.routed hd (deliver_unrouting c f),
    handled_powered h.powered]

/-- An owner but the Agent handles its frame as its own row does. -/
theorem exec_owner {n : Nat} (hn : c.minLength = some n) (hlen : n ≤ f.data.length)
    (hc : c ≠ .managementRequest) :
    exec (.frameReceived .body f) s = .next (handled (deliver c f) u) := by
  rw [h.exec_whole hn hlen, handled_powered h.powered, handled_powered h.powered,
    serveAgent_rests (((deliver_apart hc f).rests u).mpr h.rests_routed)]

end Delivered

theorem handData_whole {c : BodyClass} {data : List Byte} {s : State} {n : Nat}
    (owner : List Byte → State → State) (hn : c.minLength = some n) (hlen : n ≤ data.length)
    (hmost : data.length ≤ 8) : handData c data owner s = owner data s := by
  rw [handData, hn, Option.getD_some, if_neg (Nat.not_lt.mpr hlen), frameData, List.take_of_length_le hmost]

theorem deliver_weighSample {f : Frame} {a0 a1 a2 b0 b1 q : Byte} {l : List Byte}
    (h : f.data = a0 :: a1 :: a2 :: b0 :: b1 :: q :: l) : deliver .weighSample f =
      weighSample (idSource f.id) (a2 ++ a1 ++ a0) (b1 ++ b0) q := by
  funext s
  rw [deliver, h, ← ofNat_bytes3, ← ofNat_bytes2]
  rfl

theorem deliver_attitude {f : Frame} {a0 a1 b0 b1 : Byte} {l : List Byte}
    (h : f.data = a0 :: a1 :: b0 :: b1 :: l) : deliver .attitude f =
      attitude (idSource f.id) (a1 ++ a0) (b1 ++ b0) := by
  funext s
  rw [deliver, h, ← ofNat_bytes2, ← ofNat_bytes2]
  rfl

theorem deliver_tagRead {f : Frame} {t0 t1 t2 t3 t4 g : Byte} {l : List Byte}
    (h : f.data = t0 :: t1 :: t2 :: t3 :: t4 :: g :: l) : deliver .tagRead f =
      tagRead (idSource f.id) (t4 ++ t3 ++ t2 ++ t1 ++ t0) g := by
  funext s
  rw [deliver, h, ← ofNat_bytes5]
  rfl

theorem deliver_operatorCommand {f : Frame} {k x : Byte} {l : List Byte} {s : State}
    (h : f.data = k :: x :: l) : deliver .operatorCommand f s =
      if s.cfg.cabNode = (idSource f.id).toNat then takeCommand k (idTag f.id) x s
      else s.setForeignCommands (bump s.foreignCommands) := by
  rw [deliver, operatorCommand, h]
  rfl

theorem exec_unknownCommand_eq (code : Byte) (tag : BitVec 4) (station : Byte) (s : State) :
    exec (.unknownCommand code tag station) s = .next (handled (takeCommand code tag station) s) := rfl

theorem handled_congr {f g : State → State} {s : State} (h : f s = g s) :
    handled f s = handled g s := by
  rw [handled, handled, h]

theorem wf_length {f : Frame} (h : f.wf = true) : f.data.length ≤ 8 := by
  simp only [Frame.wf, Bool.and_eq_true, decide_eq_true_eq] at h
  exact h.1

/-- Settles O17. -/
theorem receivedFrames : Obligations.ReceivedFrames := by
  intro p f s hl ha hf hoff
  refine ⟨fun hn hroute => ?_, ?_⟩
  · have hset : settled (s.setPort p (s.port p).heard) := (settled_setPort _ _ _).mpr hl.2
    have hdef : routeFrame p f (s.setPort p (s.port p).heard) =
        defaultAction p f (s.setPort p (s.port p).heard) := routeFrame_default (by simpa using hroute)
    refine ⟨fun h => ?_, fun hd hc => ?_⟩
    · refine exec_undelivered_next hl ha hf hoff hn ?_ (setPort_agent _ _ _)
        ((settled_setPort _ _ _).mpr hl.2)
      rw [hdef, defaultAction_drop (by rwa [setPort_cfg, canForward_heard])]
      simp [PortState.heard]
    · obtain ⟨tx, hp⟩ := pushForward_sets p.other f none (s.setPort p (s.port p).heard)
      have ht := hdef.trans ((defaultAction_forward (by rwa [setPort_cfg])
        (by rwa [canForward_heard])).trans hp)
      exact ⟨_, exec_undelivered_next hl ha hf hoff hn ht (by simp)
        ((settled_setPort _ _ _).mpr hset), by simp, by simp, by simp, by simp⟩
  · rintro c n rfl haddr hc hn ht u src tag runs
    have h : Delivered c f s u := ⟨hl, ha, hf, hoff, ht, haddr, hc, rfl⟩
    have hcab : u.cfg.cabNode = s.cfg.cabNode := congrArg Mem.cabNode (h.keeps State.cfg keeps_cfg.mono)
    have owner (hlen : n ≤ f.data.length) (hc : c ≠ .managementRequest) {d : Instr}
        (hd : exec d u = .next (handled (deliver c f) u)) : runs d :=
      (h.exec_owner hn hlen hc).trans hd.symm
    have long {k : Nat} (hk : c.minLength = some k) (hlen : k ≤ f.data.length) : n ≤ f.data.length := by
      rw [hn] at hk
      exact Option.some.inj hk ▸ hlen
    refine ⟨h.exec_short hn, ?_, ?_, ?_, ?_, fun hlen => ⟨?_, ?_⟩⟩
    · rintro a0 a1 a2 b0 b1 q l rfl hd
      refine owner (long rfl (by simp [hd])) (by decide) ?_
      rw [deliver_weighSample hd]
      rfl
    · rintro a0 a1 b0 b1 l rfl hd
      refine owner (long rfl (by simp [hd])) (by decide) ?_
      rw [deliver_attitude hd]
      rfl
    · rintro t0 t1 t2 t3 t4 g l rfl hd
      refine owner (long rfl (by simp [hd])) (by decide) ?_
      rw [deliver_tagRead hd]
      rfl
    · rintro k x l rfl hd
      have hop := h.exec_owner hn (long rfl (by simp [hd])) (by decide)
      have hdel := deliver_operatorCommand (s := u) hd
      refine ⟨fun hne => ?_, fun heq => ?_⟩
      · have hforeign : deliver .operatorCommand f u =
            u.setForeignCommands (bump u.foreignCommands) := by
          rw [hdel, if_neg (by rwa [hcab])]
        rw [hop, handled_settled h.powered (hforeign ▸ h.settled_routed), hforeign]
      · have hcode : runs (.unknownCommand k tag x) := by
          refine hop.trans ?_
          rw [exec_unknownCommand_eq]
          exact congrArg Host.Outcome.next
            (handled_congr (hdel.trans (if_pos (hcab.trans heq))))
        refine ⟨?_, ?_, ?_, ?_, ?_, ?_, ?_, ?_, fun _ => hcode⟩ <;> (rintro rfl; exact hcode)
    · rintro rfl
      refine (h.exec_whole hn hlen).trans (congrArg Host.Outcome.next (handled_congr ?_))
      exact (handData_whole (managementRequest src tag) hn hlen (wf_length hf)).symm
    · rintro rfl
      refine owner hlen (by decide) (congrArg Host.Outcome.next (handled_congr ?_))
      exact handData_whole _ hn hlen (wf_length hf)

end Sys2Proof.Proofs

/-! Where two strokes end in one group read (O33). -/

namespace Sys2Proof.Proofs

open Sys2Proof Sys2Proof.Machine Sys2Proof.Laws

theorem exec_groupRead_eq (lines : Byte) (s : State) :
    exec (.groupRead lines) s = .next (handled (driveLines lines) s) := rfl

/-- The packer extends with Dwell Time 0 and a pack pending, and every Permit is given. Inputs 0 to 2 are
Blade Clear, Packer Home and Pressure Max, all inactive, and inputs 3 and 4 are the tailgate's. -/
def stallsTwice : State :=
  Tests.compacting .extending true .closed false 0 [(0x62953, 0)]

/-- The read that makes inputs 0 to 2 active ends the stroke in a Stall at home; the pending pack begins at
once and its stroke ends in a second Stall. -/
theorem stallsTwice_cycles :
    (handled (driveLines 7) stallsTwice).packer.cycles = 2 := by decide +kernel

/-- Refutes O33: the first clause leaves open that Dwell Time is 0 and the packer is home, and then the
read that ends one stroke can begin and end another, so that Cycles rises by two. -/
theorem not_compactionPhaseEnds : ¬ Obligations.CompactionPhaseEnds := by
  intro h
  obtain ⟨hextending, -⟩ := h 7 2000 stallsTwice (handled (driveLines 7) stallsTwice)
    (by decide +kernel) rfl rfl (fun _ => rfl) (by decide +kernel) (exec_groupRead_eq 7 stallsTwice)
    (by decide +kernel) (by decide +kernel)
  obtain ⟨-, hcycles, -⟩ := hextending (by decide +kernel) (by decide +kernel) (by decide +kernel)
  rw [stallsTwice_cycles] at hcycles
  exact absurd hcycles (by decide +kernel)

end Sys2Proof.Proofs

/-! The commands that end in the handling that takes them (O58): a request that the Agent serves at rest
leaves its answer and its counts behind, and its own effect besides. -/

namespace Sys2Proof.Proofs

open Sys2Proof Sys2Proof.Machine Sys2Proof.Laws

/-! ### One request, served at rest (R185, R186) -/

/-- A state whose Agent has one request in its queue. -/
def queueing (r : Request) (s : State) : State := s.setAgent { s.agent with queue := [r] }

/-- An Agent that has counted an answer. -/
def Agent.counting (a : Agent) (st : Status) : Agent :=
  { a with
    served := bump a.served
    statusCounts := a.statusCounts.set st.code (bump a.statusCounts[st.code]) }

theorem chooseTx_body_setAgent (s : State) (a : Agent) :
    chooseTx .body (s.setAgent a) = (chooseTx .body s).setAgent a := by
  have hp : (s.setAgent a).port .body = s.port .body := rfl
  have hw : (s.setAgent a).firstWaits .body = s.firstWaits .body := rfl
  simp only [chooseTx, hp, hw]
  (repeat' split) <;> rfl

theorem offerControl_open {f : Frame} {b : Bool} {s : State} (hc : controlOpen s) :
    offerControl f b s = chooseTx .body (s.setControl (s.control ++ [⟨f, b⟩])) := by
  obtain ⟨hoff, hlen⟩ := hc
  exact if_neg (by simp [hoff, Nat.not_le.mpr hlen])

theorem answered_eq (m : Manager) (tag : BitVec 4) (body : ReqBody) (a : Answer) (u : State) :
    u.answered m tag body a = (u.offered (u.answerTo m tag body a)).setAgent
      (Agent.counting u.agent a.status) := by
  unfold State.answered State.offered
  generalize u.answerTo m tag body a = f
  exact chooseTx_body_setAgent (u.setControl (u.control ++ [⟨f, false⟩]))
    (Agent.counting u.agent a.status)

/-- The answer to the one request of a queue, with room in the Control Queue. -/
theorem answerHead_queueing {m : Manager} {tag : BitVec 4} {body : ReqBody} {a : Answer} {u : State}
    (hf : agentFree u) (hc : controlOpen u) :
    answerHead ⟨m, BitVec.ofNat 8 (u.cfg.managerNode m), tag, body⟩ a
      (queueing ⟨m, BitVec.ofNat 8 (u.cfg.managerNode m), tag, body⟩ u) = u.answered m tag body a := by
  generalize hr : (⟨m, BitVec.ofNat 8 (u.cfg.managerNode m), tag, body⟩ : Request) = r
  have hrespond : respond r a false (queueing r u) = (u.offered (u.answerTo m tag body a)).setAgent
      (countStatus a.status (queueing r u)).agent := by
    have hf : respond r a false (queueing r u) =
        offerControl (u.answerTo m tag body a) false (countStatus a.status (queueing r u)) := by
      subst hr
      rfl
    rw [hf, offerControl_open (by exact hc)]
    exact chooseTx_body_setAgent (u.setControl (u.control ++ [⟨u.answerTo m tag body a, false⟩]))
      (countStatus a.status (queueing r u)).agent
  obtain ⟨hq, hh⟩ := hf
  rw [answered_eq, answerHead, hrespond]
  generalize u.offered (u.answerTo m tag body a) = v
  simp only [countRequest, countStatus, queueing, setAgent_agent, Agent.counting, ← hq, ← hh]
  rfl

theorem settled_answered (m : Manager) (tag : BitVec 4) (body : ReqBody) (a : Answer) (u : State) :
    settled (u.answered m tag body a) ↔ settled u := by
  rw [answered_eq, keeps_settled.agent]
  exact iff_of_eq (chooseTx_body_keeps settled keeps_settled.mono _)

/-- A request that is served at rest: its effect `u` and its answer. -/
theorem exec_served {m : Manager} {tag : BitVec 4} {body : ReqBody} {a : Answer} {s u : State}
    (hs : serving s) (hu : serving u) (hcfg : u.cfg = s.cfg)
    (hserve : ∀ r, serveBody m body (queueing r s) = (.answer a, queueing r u)) :
    handled (submit m tag body) s = u.answered m tag body a := by
  obtain ⟨hlive, ⟨hq, hh⟩, -⟩ := hs
  obtain ⟨⟨-, hsettled⟩, hfree, hopen⟩ := hu
  have hsubmit : submit m tag body s = u.answered m tag body a := by
    rw [submit_answer hq hh (hserve _), ← hcfg, answerHead_queueing hfree hopen]
  rw [handled_settled hlive.1 (hsubmit ▸ (settled_answered m tag body a u).mpr hsettled), hsubmit]

theorem answered_agent (m : Manager) (tag : BitVec 4) (body : ReqBody) (a : Answer) (u : State) :
    (u.answered m tag body a).agent = Agent.counting u.agent a.status := by
  rw [answered_eq, setAgent_agent]

theorem answered_keeps {α : Type} (π : State → α) (hk : Keeps π [.body, .control, .agent])
    (m : Manager) (tag : BitVec 4) (body : ReqBody) (a : Answer) (u : State) :
    π (u.answered m tag body a) = π u := by
  rw [answered_eq, hk.agent]
  exact (chooseTx_body_keeps π hk.mono _).trans (hk.control rfl _ _)

/-! ### The plain commands -/

theorem exec_setClock_eq (m : Manager) (tag : BitVec 4) (x : BitVec 32) (s : State) :
    exec (.setClock m tag x) s = .next (handled (submit m tag (.command 15 x)) s) := rfl

/-- Release names its number in the low half of the argument. -/
theorem release_number (n : BitVec 16) : ((n.setWidth 32).setWidth 16).toNat = n.toNat := by
  simp

/-- The station argument is the low byte. -/
theorem station_argument (b : Byte) : (b.setWidth 32).setWidth 8 = b := by
  simp

/-- A byte of a span that is written with one value. -/
theorem read_writeBytes_replicate {m : Mem} {a x : Nat} (n : Nat) (v : Byte) (h : m.wf = true)
    (hx : a ≤ x ∧ x < a + n) : (m.writeBytes a (List.replicate n v)).read x = v := by
  induction n generalizing m a with
  | zero => omega
  | succ n ih =>
    rw [List.replicate_succ, Mem.writeBytes]
    by_cases hxa : x = a
    · rw [hxa, read_writeBytes_other _ (.inl (Nat.lt_succ_self a)) (write_wf a v h),
        read_write_same a v h]
    · exact ih (write_wf a v h) (by omega)

/-- The totals all 0 (R182), and no other byte of the store changed. -/
theorem read_clearedTotals {m : Mem} (h : m.wf = true) (a : Nat) :
    (0x63000 ≤ a → a < 0x63030 → (m.writeBytes 0x63000 (List.replicate 48 0)).read a = 0) ∧
    (a < 0x63000 ∨ 0x63030 ≤ a →
      (m.writeBytes 0x63000 (List.replicate 48 0)).read a = m.read a) :=
  ⟨fun h1 h2 => read_writeBytes_replicate 48 0 h ⟨h1, h2⟩,
    fun ha => read_writeBytes_other _ (by rwa [List.length_replicate]) h⟩

/-- Tag Overrun is the one flag that Clear Flags clears (R77). -/
theorem clearFlags_eq (x : BitVec 32) (s : State) : clearFlags x s =
    s.setTags { s.tags with overrun := s.tags.overrun && !x.getLsbD 0 } := by
  unfold clearFlags hasBit
  cases x.getLsbD 0 with
  | true => simp
  | false =>
    simp only [Bool.not_false, Bool.and_true, Bool.false_eq_true, if_false]
    rfl

/-- Acknowledge Notices clears the Latched kinds that it names (R197). -/
theorem acknowledgeNotices_bit (x : BitVec 32) (s : State) {i : Nat} (hi : i < 16) :
    (acknowledgeNotices x s).agent.notices.getLsbD i =
      (s.agent.notices.getLsbD i && !(x.getLsbD i && !s.cfg.noticeModes.getLsbD i)) := by
  simp [acknowledgeNotices, hi]

/-- The step of a Set Clock (R179, R181). -/
theorem setClockTo_steps {v : Nat} {s : State} (hv : s.clock.valid = true)
    (h : s.cfg.syncTolerance < apart v s.clock.seconds) : setClockTo v s =
      raiseNotice .clockStepped (addTotal .clockSteps 1 (s.setClock { s.clock with
        seconds := v, stepCount := bump s.clock.stepCount, stepped := true })) := by
  simp only [setClockTo, hv, setClock_clock, setClock_cfg, h, if_true, Bool.not_true,
    Bool.false_eq_true, if_false, clockStep]
  rfl

theorem setClockTo_near {v : Nat} {s : State} (hv : s.clock.valid = true)
    (h : ¬ s.cfg.syncTolerance < apart v s.clock.seconds) :
    setClockTo v s = s.setClock { s.clock with seconds := v } := by
  simp [setClockTo, hv, h]

theorem setClockTo_first {v : Nat} {s : State} (hv : s.clock.valid = false) :
    setClockTo v s = s.setClock { s.clock with
      seconds := v, valid := true, syncsSet := bump s.clock.syncsSet } := by
  simp only [setClockTo, hv, Bool.not_false, if_true]
  rfl

/-- The parts of a state that a stepped Clock, its notice and its answer reach, taken from another. -/
def stepped (t x : State) : State :=
  { x with clock := t.clock, store := t.store, agent := t.agent, body := t.body, control := t.control }

theorem keeps_stepped (t : State) : Keeps (stepped t) [.clock, .store, .agent, .body, .control] := by
  intro f hf
  cases f <;> first | exact fun _ _ => rfl | exact absurd hf (by decide)

/-- Set Clock with a step: the Clock Steps total rises, and the notice and the answer may meet a full
Control Queue. -/
theorem exec_setClock_steps {m : Manager} {tag : BitVec 4} {x : BitVec 32} {s : State}
    (hs : serving s) (hw : s.store.wf = true) (hx : x ≠ 0) (hv : s.clock.valid = true)
    (h : s.cfg.syncTolerance < apart x.toNat s.clock.seconds) :
    ∃ t, exec (.setClock m tag x) s = .next t ∧
      t.total .clockSteps = min (s.total .clockSteps + 1) 0xFFFFFFFF ∧
      (∀ a, a < 0x6302C ∨ 0x63030 ≤ a → t.store.read a = s.store.read a) ∧
      t = { s with
        clock := { s.clock with
          seconds := x.toNat, stepCount := bump s.clock.stepCount, stepped := true }
        store := t.store, agent := t.agent, body := t.body, control := t.control } := by
  obtain ⟨hlive, ⟨hq, hh⟩, -⟩ := hs
  generalize hr : (⟨m, BitVec.ofNat 8 (s.cfg.managerNode m), tag, .command 15 x⟩ : Request) = r
  generalize hc : { s.clock with
    seconds := x.toNat, stepCount := bump s.clock.stepCount, stepped := true } = c
  have hsubmit : submit m tag (.command 15 x) s = answerHead r (plain .done)
      (raiseNotice .clockStepped (addTotal .clockSteps 1 ((queueing r s).setClock c))) := by
    have hstep : setClockTo x.toNat (queueing r s) = raiseNotice .clockStepped
        (addTotal .clockSteps 1 ((queueing r s).setClock c)) := by
      subst hc
      exact setClockTo_steps (s := queueing r s) hv h
    have hserve : serveBody m (.command 15 x) (queueing r s) =
        now (doneWith (setClockTo x.toNat (queueing r s))) :=
      congrArg now (if_neg hx)
    rw [hstep] at hserve
    subst hr
    exact submit_answer hq hh hserve
  have keeps {α : Type} (π : State → α) (hk : Keeps π [.body, .control, .agent, .clock, .store]) :
      π (submit m tag (.command 15 x) s) = π s := by
    rw [hsubmit, answerHead_keeps π hk.mono, raiseNotice_keeps π hk.mono, addTotal_keeps π hk.mono,
      hk.clock, queueing, hk.agent]
  have hhandled : handled (submit m tag (.command 15 x)) s = submit m tag (.command 15 x) s :=
    handled_settled hlive.1 ((keeps settled keeps_settled.mono).mpr hlive.2)
  have hstore : (submit m tag (.command 15 x) s).store = (addTotal .clockSteps 1 s).store := by
    rw [hsubmit, answerHead_keeps State.store keeps_store.mono,
      raiseNotice_keeps State.store keeps_store.mono]
    rfl
  have hclock : (submit m tag (.command 15 x) s).clock = c := by
    rw [hsubmit, answerHead_keeps State.clock keeps_clock.mono,
      raiseNotice_keeps State.clock keeps_clock.mono, addTotal_keeps State.clock keeps_clock.mono]
    rfl
  generalize submit m tag (.command 15 x) s = t at *
  refine ⟨t, (exec_setClock_eq m tag x s).trans (congrArg _ hhandled), ?_, fun a ha => ?_, ?_⟩
  · rw [State.total, hstore]
    exact addTotal_total .clockSteps 1 hw
  · rw [hstore]
    exact addTotal_read hw ha
  · rw [← hclock]
    exact keeps (stepped t) (keeps_stepped t).mono

/-! ### The commands of a station (R105, R149) -/

theorem zeroCapture_refused {b : Byte} {st : Station} {s : State}
    (hst : Station.ofNum b.toNat = some st) (h : s.configured = false ∨ (s.lift st).state ≠ .idle) :
    zeroCapture b s = (plain .notPermitted, s) := by
  unfold zeroCapture
  rw [hst]
  cases hc : s.configured with
  | false => rfl
  | true => simp [h.resolve_left (by rw [hc]; decide), refuse]

/-- An Idle station of a configured part captures, unless a capture runs already (R105). -/
theorem zeroCapture_idle {b : Byte} {st : Station} {s : State}
    (hst : Station.ofNum b.toNat = some st) (hc : s.configured = true)
    (hi : (s.lift st).state = .idle) : zeroCapture b s =
      if (s.scale st).capture.isRunning then (plain .busy, s) else (plain .done, beginCapture st s) := by
  unfold zeroCapture
  rw [hst]
  simp [hc, hi, refuse, doneWith]

theorem station_above {b : Byte} (h : 2 < b.toNat) : Station.ofNum b.toNat = none := by
  unfold Station.ofNum
  split <;> first | omega | rfl

/-- A command that is served at rest. -/
theorem answers_command {c : Instr} {m : Manager} {tag : BitVec 4} {code : Byte} {arg : BitVec 32}
    {a : Answer} {s u : State}
    (hc : exec c s = .next (handled (submit m tag (.command code arg)) s)) (hs : serving s)
    (hu : serving u) (hcfg : u.cfg = s.cfg)
    (hserve : ∀ r, serveBody m (.command code arg) (queueing r s) = (.answer a, queueing r u)) :
    exec c s = .next (u.answered m tag (.command code arg) a) :=
  hc.trans (congrArg _ (exec_served hs hu hcfg hserve))

theorem serveBody_release (m : Manager) (n : BitVec 16) (s : State) :
    serveBody m (.command 7 (n.setWidth 32)) s = now (release n.toNat s) :=
  congrArg (fun k => now (release k s)) (release_number n)

theorem serveBody_zeroCapture (m : Manager) (b : Byte) (s : State) :
    serveBody m (.command 13 (b.setWidth 32)) s = now (zeroCapture b s) :=
  congrArg (fun b => now (zeroCapture b s)) (station_argument b)

theorem serveBody_setLowest (m : Manager) (b : Byte) (s : State) :
    serveBody m (.command 14 (b.setWidth 32)) s = now (setLowest b s) :=
  congrArg (fun b => now (setLowest b s)) (station_argument b)

theorem serveBody_undefined (m : Manager) {code : Byte} (h : code = 0 ∨ 20 < code.toNat)
    (arg : BitVec 32) (s : State) :
    serveBody m (.command code arg) s = now (refuse .unknownRequest s) := by
  have h0 : code.toNat = 0 ∨ 20 < code.toNat := h.imp_left fun e => by rw [e]; rfl
  unfold serveBody serveCommand
  dsimp only
  split <;> first | omega | rfl

theorem codedRequest_undefined {kind code : Byte} (h : kind = 0 ∨ 6 < kind.toNat) :
    codedRequest kind code = .unknown kind := by
  have h0 : kind.toNat = 0 ∨ 6 < kind.toNat := h.imp_left fun e => by rw [e]; rfl
  have hb : byteAt [kind, code, 0, 0, 0, 0] 0 = kind := rfl
  unfold codedRequest parseRequest
  dsimp only
  rw [hb]
  split <;> first | omega | rfl

/-- An arbitration does not look at the Request Queue. -/
theorem arbitrate_queueing (r : Request) (s : State) :
    arbitrate (queueing r s) = queueing r (arbitrate s) := by
  have hput (y : State) (hchassis : y.chassis = s.chassis) (hbody : y.body = s.body)
      (hroutes : y.routes = s.routes) :
      Aside.put ⟨s.chassis, s.body.unrouted, s.routes, fun _ => [r], id⟩ y = queueing r y := by
    simp only [Aside.put, ← hchassis, ← hbody, ← hroutes]
    rfl
  rw [← hput s rfl rfl rfl, arbitrate_put]
  exact hput _ (arbitrate_keeps _ keeps_chassis.mono s) (arbitrate_keeps _ keeps_body.mono s)
    (arbitrate_keeps _ keeps_routes.mono s)

theorem commandLowest_serving {st : Station} {s : State} (hs : serving s) :
    serving (commandLowest st s) := by
  obtain ⟨⟨hp, hset⟩, hfree, hopen⟩ := hs
  have hset' : settled (commandLowest st s) :=
    arbitrate_settled (s := s.setArbiter { s.arbiter with group := moveLowest st s.arbiter.group }) hset
  unfold serving live agentFree controlOpen
  rw [commandLowest_keeps State.sys keeps_sys.mono, commandLowest_keeps State.agent keeps_agent.mono,
    commandLowest_keeps State.body keeps_body.mono,
    commandLowest_keeps State.control keeps_control.mono]
  exact ⟨⟨hp, hset'⟩, hfree, hopen⟩

/-- Set Lowest moves the station to the bottom by one arbitration (R149). -/
theorem exec_setLowest {m : Manager} {tag : BitVec 4} {b : Byte} {st : Station} {s : State}
    (hs : serving s) (hst : Station.ofNum b.toNat = some st) :
    exec (.setLowest m tag b) s =
      .next ((commandLowest st s).answered m tag (.command 14 (b.setWidth 32)) ⟨.done, []⟩) := by
  refine answers_command rfl hs (commandLowest_serving hs)
    (commandLowest_keeps State.cfg keeps_cfg.mono _ _) fun r => ?_
  rw [serveBody_setLowest, setLowest, hst]
  have hlowest : commandLowest st (queueing r s) = queueing r (commandLowest st s) :=
    arbitrate_queueing r (s.setArbiter { s.arbiter with group := moveLowest st s.arbiter.group })
  rw [← hlowest]
  rfl

/-- The three steps of an arbitration count none. -/
theorem run_arbitrations (cap : Nat) (masked : Requester → Bool) (prio : List Requester)
    (a : Arbiter) : (a.run cap masked prio).arbitrations = bump a.arbitrations := by
  have trimMasked (l : List Requester) (a : Arbiter) :
      (l.foldl (fun a r => if masked r then a.revoke r else a) a).arbitrations = a.arbitrations := by
    induction l generalizing a with
    | nil => rfl
    | cons r l ih =>
      rw [List.foldl_cons, ih]
      split <;> rfl
  have trimWhole (l : List Requester) (a : Arbiter) :
      (a.trimWhole cap l).arbitrations = a.arbitrations := by
    induction l generalizing a with
    | nil => rfl
    | cons r l ih =>
      rw [Arbiter.trimWhole]
      split
      · rfl
      · exact ih _
  have walk (l : List Requester) (a : Arbiter) :
      (a.walk cap masked l).arbitrations = a.arbitrations := by
    induction l generalizing a with
    | nil => rfl
    | cons r l ih =>
      rw [Arbiter.walk]
      (repeat' split) <;> first | exact ih _ | rfl
  have restore (a : Arbiter) : (a.restore cap masked).arbitrations = a.arbitrations := by
    unfold Arbiter.restore
    (repeat' split) <;> rfl
  rw [Arbiter.run, restore, walk, Arbiter.trim, trimWhole]
  exact trimMasked requesters _

theorem commandLowest_reflow (st : Station) (s : State) :
    commandLowest st s = s.reflow (commandLowest st s) :=
  arbitrate_reflow (s.setArbiter { s.arbiter with group := moveLowest st s.arbiter.group })

theorem commandLowest_paced (st : Station) (s : State) : pacedBut [] s (commandLowest st s) :=
  arbitrate_paced (s.setArbiter { s.arbiter with group := moveLowest st s.arbiter.group })

/-- The arbiter after a Set Lowest. -/
theorem commandLowest_arbiter (st : Station) (s : State) :
    (commandLowest st s).arbiter.group = s.arbiter.group.filter (fun y => y != st) ++ [st] ∧
    (commandLowest st s).arbiter.req = s.arbiter.req ∧
    (commandLowest st s).arbiter.arbitrations = bump s.arbiter.arbitrations := by
  rw [commandLowest, arbitrate_arbiter, run_group, run_req, run_arbitrations]
  exact ⟨rfl, rfl, rfl⟩

/-- What an arbitration can change of a state, whatever the Agent and its answers do. -/
theorem keeps_reflow (s : State) : Keeps (State.reflow s) [.body, .control, .agent] := by
  intro f hf
  simp only [List.mem_cons, List.not_mem_nil, or_false] at hf
  rcases hf with rfl | rfl | rfl <;> exact fun _ _ => rfl

theorem keeps_paced (l : List Requester) (s : State) : Keeps (pacedBut l s) [.body, .control, .agent] := by
  intro f hf
  simp only [List.mem_cons, List.not_mem_nil, or_false] at hf
  rcases hf with rfl | rfl | rfl <;> exact fun _ _ => rfl

/-- The number of records that a Release removes, and the queue that it leaves (R142). -/
def Queue.without (q : Queue) (n : Nat) : Queue :=
  { q with
    head := (q.head + n) % 256, count := q.count - n, released := min (q.released + n) 0xFFFF }

theorem release_eq (n : Nat) (s : State) : release n s =
    (⟨.done, leBytes 2 (min n s.queue.count)⟩,
      s.setQueue (Queue.without s.queue (min n s.queue.count))) := rfl

theorem exec_release {m : Manager} {tag : BitVec 4} {n : BitVec 16} {s : State} (hs : serving s) :
    exec (.release m tag n) s =
      .next ((s.setQueue (Queue.without s.queue (min n.toNat s.queue.count))).answered m tag
        (.command 7 (n.setWidth 32)) ⟨.done, leBytes 2 (min n.toNat s.queue.count)⟩) :=
  answers_command rfl hs hs rfl fun r => by
    rw [serveBody_release, release_eq]
    rfl

/-- Clear Totals replaces the store. -/
theorem exec_clearTotals {m : Manager} {tag : BitVec 4} {s : State} {x : Mem} (hs : serving s)
    (hx : s.store.writeBytes 0x63000 (List.replicate 48 0) = x) :
    exec (.clearTotals m tag) s =
      .next ((s.setStore x).answered m tag (.command 9 0) ⟨.done, []⟩) :=
  answers_command rfl hs hs rfl fun r =>
    congrArg (fun x => now (doneWith ((queueing r s).setStore x))) hx

theorem exec_clearFlags {m : Manager} {tag : BitVec 4} {x : BitVec 32} {s : State} (hs : serving s) :
    exec (.clearFlags m tag x) s = .next ((s.setTags { s.tags with
      overrun := s.tags.overrun && !x.getLsbD 0 }).answered m tag (.command 10 x) ⟨.done, []⟩) :=
  answers_command rfl hs hs rfl fun r =>
    congrArg (fun s => now (doneWith s)) (clearFlags_eq x (queueing r s))

theorem exec_acknowledgeNotices {m : Manager} {tag : BitVec 4} {x : BitVec 32} {s : State}
    (hs : serving s) : exec (.acknowledgeNotices m tag x) s =
      .next ((acknowledgeNotices x s).answered m tag (.command 11 x) ⟨.done, []⟩) :=
  answers_command rfl hs hs rfl fun _ => rfl

theorem exec_acknowledgeChanges {m : Manager} {tag : BitVec 4} {x : BitVec 32} {s : State}
    (hs : serving s) : exec (.acknowledgeChanges m tag x) s =
      .next ((acknowledgeChanges x s).answered m tag (.command 12 x) ⟨.done, []⟩) :=
  answers_command rfl hs hs rfl fun _ => rfl

/-- Settles O58. -/
theorem plainAndStationCommands : Obligations.PlainAndStationCommands := by
  refine ⟨fun m tag n x s hs hw => ?_, fun m tag b s hs => ?_⟩
  · obtain ⟨hstore, -⟩ := hw
    refine ⟨exec_release hs, ?_, exec_clearFlags hs, ?_, exec_acknowledgeChanges hs, fun hx => ?_,
      fun hx hv => ?_, fun hx hv hn => ?_, fun hx hv hn => exec_setClock_steps hs hstore hx hv hn,
      fun kind code hk => ?_, fun code hk => ?_⟩
    · have hread := read_clearedTotals hstore
      generalize hx : s.store.writeBytes 0x63000 (List.replicate 48 0) = x at hread
      refine ⟨_, exec_clearTotals hs hx, ?_⟩
      rw [answered_keeps State.store keeps_store.mono, setStore_store]
      exact ⟨fun a => (hread a).1, fun a => (hread a).2, rfl⟩
    · refine ⟨_, exec_acknowledgeNotices hs, fun i hi => ?_, ?_⟩ <;> rw [answered_agent]
      · exact acknowledgeNotices_bit x s hi
      · rfl
    · exact answers_command rfl hs hs rfl fun r => congrArg now (if_pos hx)
    · refine answers_command rfl hs hs rfl fun r => ?_
      exact (congrArg now (if_neg hx)).trans (by rw [setClockTo_first (by exact hv)]; rfl)
    · refine answers_command rfl hs hs rfl fun r => ?_
      exact (congrArg now (if_neg hx)).trans
        (by rw [setClockTo_near (by exact hv) (by exact Nat.not_lt.mpr hn)]; rfl)
    · rw [exec_unknownRequest_eq, codedRequest_undefined hk]
      exact congrArg _ (exec_served hs hs rfl fun _ => rfl)
    · exact answers_command rfl hs hs rfl fun r => serveBody_undefined m hk 0 _
  · refine ⟨fun hb => ⟨?_, ?_⟩, fun st hst => ⟨fun h => ?_, fun hc hi hr => ?_, fun hc hi hr => ?_, ?_⟩⟩
    · refine answers_command rfl hs hs rfl fun r => ?_
      rw [serveBody_zeroCapture, zeroCapture, station_above hb]
      rfl
    · refine answers_command rfl hs hs rfl fun r => ?_
      rw [serveBody_setLowest, setLowest, station_above hb]
      rfl
    · refine answers_command rfl hs hs rfl fun r => ?_
      rw [serveBody_zeroCapture, zeroCapture_refused hst (by exact h)]
      rfl
    · refine answers_command rfl hs hs rfl fun r => ?_
      rw [serveBody_zeroCapture, zeroCapture_idle hst (by exact hc) (by exact hi), if_pos (by exact hr)]
      rfl
    · refine answers_command rfl hs hs rfl fun r => ?_
      rw [serveBody_zeroCapture, zeroCapture_idle hst (by exact hc) (by exact hi),
        if_neg (by exact Bool.eq_false_iff.mp hr)]
      rfl
    · refine ⟨_, exec_setLowest hs hst, ?_⟩
      rw [answered_keeps State.arbiter keeps_arbiter.mono,
        answered_keeps (pacedBut [] s) (keeps_paced [] s),
        answered_keeps s.reflow (keeps_reflow s), ← commandLowest_reflow]
      obtain ⟨hgroup, hreq, hcount⟩ := commandLowest_arbiter st s
      exact ⟨hgroup, hreq, hcount, commandLowest_paced st s, rfl⟩

end Sys2Proof.Proofs

/-! What the handling of a group read can touch. `Touches` names the replacements that the functions make,
each with the part of the machine that it belongs to; `Does` chains them, and keeps beside them what makes
the Blade waits, the Billing Engine and pack-pending leave the other functions alone (R36). -/

namespace Sys2Proof.Proofs

open Sys2Proof Sys2Proof.Machine Sys2Proof.Laws

/-! ### The parts that a handling can touch -/

/-- A part of the machine that a handling is allowed to touch: a function, the dumps counted for it, the
order of the group, the counts of refused Cycle Starts, or the test of pack-pending. -/
inductive Touch where
  | function (r : Requester)
  | dumps
  | group
  | start
  | serve
  deriving DecidableEq

/-- One replacement that a function makes, within the parts `P`. -/
inductive Touches (P : Touch → Prop) : State → State → Prop
  | notice (s : State) (k : Notice) : k ≠ .inputChange → k ≠ .sensorError →
      (k = .packerFault → P (.function .packer)) → Touches P s (raiseNotice k s)
  | lift (s : State) (x : Station) (l : Lift) : P (.function (.station x)) →
      (l.startRefusals = (s.lift x).startRefusals ∨ P .start) →
      (P .group ∨ l.state = (s.lift x).state ∨ (l.state ≠ .release ∧ l.state ≠ .lower)) →
      Touches P s (s.setLift x l)
  | marker (s : State) (x : Station) (m : Marker) : P (.function (.station x)) →
      Touches P s (s.setMarker x m)
  | scale (s : State) (x : Station) (w : WeighStation) : P (.function (.station x)) →
      Touches P s (s.setScale x w)
  | zero (s : State) (x : Station) (z : Zero) : P (.function (.station x)) →
      Touches P s (s.setZeros (s.zeros.set x z))
  | tags (s : State) (x : Station) (T : Tags) : P (.function (.station x)) →
      (∀ y, y ≠ x → (T.queue.filter fun e => e.station == y) = s.candidates y ∧
        T.assigned.get y = s.tags.assigned.get y ∧ T.counts.get y = s.tags.counts.get y) →
      Touches P s (s.setTags T)
  | flow (s : State) (r : Requester) (a : Arbiter) : P (.function r) →
      (∀ q, q ≠ r → a.req.get q = s.request q) → a.group = s.arbiter.group →
      Touches P s (arbitrate (s.setArbiter a))
  | group (s : State) (g : List Station) : P .group →
      Touches P s (arbitrate (s.setArbiter { s.arbiter with group := g }))
  | packer (s : State) (p : Packer) : P (.function .packer) → Touches P s (s.setPacker p)
  | dump (s : State) : P .dumps → Touches P s (countDump s)
  | tailgate (s : State) (g : Tailgate) : P (.function .tailgate) → Touches P s (s.setTailgate g)
  | held (s : State) (q : Queue) :
      (∀ x, P (.function (.station x)) ∨ q.heldSt.get x = s.queue.heldSt.get x) →
      Touches P s (s.setQueue q)
  | store (s : State) (m : Mem) : Touches P s (s.setStore m)
  | clock (s : State) (c : Clock) : Touches P s (s.setClock c)
  | payload (s : State) (p : Payload) : Touches P s (s.setPayload p)
  | billing (s : State) (b : Billing) : Touches P s (s.setBilling b)
  | table (s : State) (T : Table) : T.state = s.table.state → T.journal = s.table.journal →
      T.recordCount = s.table.recordCount → (∃ l, T.waiting = s.table.waiting ++ l) →
      Touches P s (s.setTable T)

/-- No automatic pack request is granted, for want of a start condition or by a pair error (R165). -/
def noAuto (s : State) : Prop := (!s.canStart || s.pairErrorOf .packer) = true

/-- A station's Blade wait stands (R57). -/
def bladeWaits (s : State) (x : Station) : Prop :=
  (s.lift x).state = .hold ∧ (s.lift x).wait = .blade

/-- A Billing Engine that is Free has an empty Request List (R127). -/
abbrev billingRests (b : Billing) : Prop := b.waiting = none → b.list = []

/-- Every function but the packer may act, the order of the group may change, and pack-pending may be
tested. -/
abbrev allServed (P : Touch → Prop) : Prop :=
  (∀ r, r ≠ .packer → P (.function r)) ∧ P .group ∧ P .serve

/-- The blade test fails, and nothing within `P` lets it pass: Blade Clear is inactive, or the packer stays
as it is (R57). -/
def bladeBarred (P : Touch → Prop) (s : State) : Prop :=
  s.bladeOk = false ∧ (s.role .bladeClear = false ∨ ¬ P (.function .packer))

/-- No pack begins, and nothing within `P` lets one begin: none is pending and none is granted, the packer is
out of Parked, or a station outside `P` stands in Dump (R165, R166). -/
def unpackable (P : Touch → Prop) (s : State) : Prop :=
  (s.packer.packPending = false ∧ (P .dumps → noAuto s)) ∨ s.packer.state ≠ .parked ∨
    ∃ x, ¬ P (.function (.station x)) ∧ (s.lift x).state = .dump

/-- What keeps a handling within `P`: no Blade wait of another station that can end, no request of another
holder, no pack that a packer outside `P` would begin, and no phase of a station of `P` whose end moves the
group. -/
structure Ready (P : Touch → Prop) (s : State) : Prop where
  blade : P .dumps → ∀ x, P (.function (.station x)) ∨ ¬ bladeWaits s x ∨ bladeBarred P s
  bills : billingRests s.billing ∨ allServed P
  packs : P .serve → (P (.function .packer) ∧ P .dumps) ∨
    (¬ P (.function .packer) ∧ unpackable P s)
  group : P .group ∨ ∀ x, P (.function (.station x)) →
    (s.lift x).state ≠ .release ∧ (s.lift x).state ≠ .lower

/-- A handling that stays within `P` from a state that is ready for it. -/
def Does (P : Touch → Prop) (s t : State) : Prop :=
  Ready P s → Relation.ReflTransGen (Touches P) s t ∧ Ready P t

variable {P : Touch → Prop} {s t u : State} {x : Station}

/-! ### What no replacement changes -/

/-- A reading that none of the replacements sees. -/
theorem Touches.keeps {α : Type} {π : State → α} (h : Touches P s t)
    (hk : Keeps π [.arb, .agent, .body, .control, .lifts, .markers, .weigh, .zeros, .tags, .arbiter,
      .packer, .tailgate, .queue, .store, .clock, .payload, .billing, .table]) : π t = π s := by
  cases h with
  | notice k => exact raiseNotice_keeps _ hk.mono _ _
  | dump => exact countDump_keeps _ hk.mono _
  | _ =>
    simp only [State.setLift, State.setMarker, State.setScale, hk.lifts, hk.markers, hk.weigh, hk.zeros,
      hk.tags, hk.arb, hk.arbiter, hk.packer, hk.tailgate, hk.queue, hk.store, hk.clock, hk.payload,
      hk.billing, hk.table]

theorem Touches.cfg (h : Touches P s t) : t.cfg = s.cfg := h.keeps keeps_cfg.mono
theorem Touches.sys (h : Touches P s t) : t.sys = s.sys := h.keeps keeps_sys.mono
theorem Touches.mode (h : Touches P s t) : t.mode = s.mode := h.keeps keeps_mode.mono
theorem Touches.scanner (h : Touches P s t) : t.scanner = s.scanner := h.keeps keeps_scanner.mono
theorem Touches.signals (h : Touches P s t) : t.signals = s.signals := h.keeps keeps_signals.mono

/-- A state that reads the inputs, the parameters and the modes alike grants the same automatic packs. -/
theorem noAuto_congr (hs : t.scanner = s.scanner) (hc : t.cfg = s.cfg) (hm : t.mode = s.mode)
    (hy : t.sys = s.sys) (h : noAuto s) : noAuto t := by
  unfold noAuto State.canStart State.configured State.scanOk State.eStop State.role State.input
    State.pairErrorOf at *
  rw [hs, hc, hm, hy]
  exact h

/-! ### A replacement leaves a state ready -/

theorem lift_setLift (s : State) (x y : Station) (l : Lift) :
    (s.setLift x l).lift y = if y = x then l else s.lift y := tri_get_set _ _ _ _

theorem lift_setLift_self (s : State) (x : Station) (l : Lift) : (s.setLift x l).lift x = l := by
  rw [lift_setLift, if_pos rfl]

theorem lift_setLift_other {x y : Station} (h : y ≠ x) (s : State) (l : Lift) :
    (s.setLift x l).lift y = s.lift y := by rw [lift_setLift, if_neg h]

/-- What a replacement does to the state and the wait kind of a station outside `P`: nothing. -/
theorem Touches.stays (h : Touches P s t) (y : Station) (hy : ¬ P (.function (.station y))) :
    (t.lift y).state = (s.lift y).state ∧ (t.lift y).wait = (s.lift y).wait := by
  have blind : ∀ {v : State}, v.lifts = s.lifts → (v.lift y).state = (s.lift y).state ∧
      (v.lift y).wait = (s.lift y).wait := fun e => by simp only [State.lift, e, and_self]
  have paced : ∀ v : State, v.lifts = s.lifts → ((arbitrate v).lift y).state = (s.lift y).state ∧
      ((arbitrate v).lift y).wait = (s.lift y).wait := fun v e =>
    ⟨(arbitrate_lift_state v y).trans (blind e).1,
      (arbitrate_lift (·.wait) (fun _ _ _ _ l => (paced_core _ _ _ _ l).2.1) v y).trans (blind e).2⟩
  cases h with
  | notice k => exact blind (raiseNotice_keeps _ keeps_lifts.mono _ _)
  | dump => exact blind (countDump_keeps _ keeps_lifts.mono _)
  | lift x l hx =>
    have hne : y ≠ x := fun e => hy (e.symm ▸ hx)
    rw [lift_setLift_other hne]
    exact ⟨rfl, rfl⟩
  | flow r a => exact paced _ rfl
  | group g => exact paced _ rfl
  | _ => exact ⟨rfl, rfl⟩

/-- A station that may act leaves Release and Lower for good, unless the group may change. -/
theorem Touches.leaves (h : Touches P s t) (hg : ¬ P .group) (y : Station)
    (hr : (s.lift y).state ≠ .release) (hl : (s.lift y).state ≠ .lower) :
    (t.lift y).state ≠ .release ∧ (t.lift y).state ≠ .lower := by
  cases h with
  | lift x l hx hs hp =>
    rw [lift_setLift]
    split
    · rename_i e
      subst e
      rcases hp with hp | hp | hp
      · exact absurd hp hg
      · exact hp ▸ ⟨hr, hl⟩
      · exact hp
    · exact ⟨hr, hl⟩
  | notice k =>
    rw [show (raiseNotice k s).lift y = s.lift y from
      congrArg (·.get y) (raiseNotice_keeps _ keeps_lifts.mono _ _)]
    exact ⟨hr, hl⟩
  | dump =>
    rw [show (countDump s).lift y = s.lift y from
      congrArg (·.get y) (countDump_keeps _ keeps_lifts.mono _)]
    exact ⟨hr, hl⟩
  | flow r a => rw [arbitrate_lift_state]; exact ⟨hr, hl⟩
  | group g => rw [arbitrate_lift_state]; exact ⟨hr, hl⟩
  | _ => exact ⟨hr, hl⟩

/-- An automatic request that is refused leaves pack-pending alone (R165). -/
theorem countDump_noAuto (h : noAuto s) :
    (countDump s).packer.packPending = s.packer.packPending := by
  unfold countDump
  dsimp only
  split
  · unfold autoRequest
    have hr : (!(s.setPacker { s.packer with dumps := satAdd 255 s.packer.dumps 1 }).canStart ||
        (s.setPacker { s.packer with dumps := satAdd 255 s.packer.dumps 1 }).pairErrorOf .packer) =
          true := noAuto_congr (s := s) rfl rfl rfl rfl h
    simp only [hr, Bool.true_or, if_true, setPacker_packer]
  · rfl

theorem countDump_packerState (s : State) : (countDump s).packer.state = s.packer.state := by
  unfold countDump autoRequest
  dsimp only
  (repeat' split) <;> rfl

/-- A reading of the packer that neither its pacing nor a counted dump changes. -/
theorem Touches.packerKept {α : Type} (ρ : Packer → α)
    (h1 : ∀ now limit stall q g p, ρ (Packer.paced now limit stall q g p) = ρ p)
    (h2 : ∀ v, P .dumps → ρ (countDump v).packer = ρ v.packer) (h : Touches P s t)
    (hp : ¬ P (.function .packer)) : ρ t.packer = ρ s.packer := by
  cases h with
  | notice k => exact congrArg ρ (raiseNotice_keeps _ keeps_packer.mono _ _)
  | packer p h1 => exact absurd h1 hp
  | dump hd => exact h2 _ hd
  | flow r a => exact arbitrate_packer ρ h1 _
  | group g => exact arbitrate_packer ρ h1 _
  | _ => rfl

theorem Touches.packerState (h : Touches P s t) (hp : ¬ P (.function .packer)) :
    t.packer.state = s.packer.state :=
  h.packerKept Packer.state (fun _ _ _ _ _ _ => (packer_paced_core _ _ _ _ _ _).1)
    (fun _ _ => countDump_packerState _) hp

theorem role_congr (hs : t.scanner = s.scanner) (hc : t.cfg = s.cfg) (r : Role) :
    t.role r = s.role r := by
  unfold State.role State.input
  rw [hs, hc]

theorem bladeOk_eq (s : State) : s.bladeOk =
    (s.role .bladeClear && (s.packer.state != .extending && s.packer.state != .dwelling)) := by
  unfold State.bladeOk
  rw [Bool.and_assoc]

theorem Touches.bladeBarred (h : Touches P s t) (hb : bladeBarred P s) : bladeBarred P t := by
  have hr : t.role .bladeClear = s.role .bladeClear := role_congr h.scanner h.cfg _
  unfold Proofs.bladeBarred
  rw [hr]
  refine ⟨?_, hb.2⟩
  rcases hb.2 with k | k
  · rw [bladeOk_eq, hr, k, Bool.false_and]
  · rw [bladeOk_eq, hr, h.packerState k, ← bladeOk_eq]
    exact hb.1

theorem Touches.packPending (h : Touches P s t) (hp : ¬ P (.function .packer))
    (hd : P .dumps → noAuto s) : t.packer.packPending = s.packer.packPending := by
  have paced : ∀ v : State, (arbitrate v).packer.packPending = v.packer.packPending := fun v =>
    arbitrate_packer (·.packPending) (fun _ _ _ _ _ p => (packer_paced_core _ _ _ _ _ p).2.1) v
  cases h with
  | notice k => exact congrArg Packer.packPending (raiseNotice_keeps _ keeps_packer.mono _ _)
  | packer p h1 => exact absurd h1 hp
  | dump hk => exact countDump_noAuto (hd hk)
  | flow r a => exact paced _
  | group g => exact paced _
  | _ => rfl

theorem Touches.unpackable (h : Touches P s t) (hp : ¬ P (.function .packer)) (hs : unpackable P s) :
    unpackable P t := by
  rcases hs with ⟨h1, h2⟩ | h1 | ⟨x, hx, h1⟩
  · exact .inl ⟨(h.packPending hp h2).trans h1, fun hd =>
      noAuto_congr h.scanner h.cfg h.mode h.sys (h2 hd)⟩
  · exact .inr (.inl (by rw [h.packerState hp]; exact h1))
  · exact .inr (.inr ⟨x, hx, (h.stays x hx).1.trans h1⟩)

/-- A replacement leaves a state ready, when it leaves the Billing Engine so. -/
theorem Touches.ready (h : Touches P s t) (hs : Ready P s)
    (hb : billingRests s.billing → billingRests t.billing ∨ allServed P) : Ready P t where
  blade hd y := by
    by_cases hy : P (.function (.station y))
    · exact .inl hy
    · obtain ⟨h1, h2⟩ := h.stays y hy
      refine .inr (((hs.blade hd y).resolve_left hy).imp (fun hn hw => hn ⟨?_, ?_⟩) h.bladeBarred)
      · exact h1 ▸ hw.1
      · exact h2 ▸ hw.2
  bills := hs.bills.elim hb .inr
  packs he := (hs.packs he).imp_right fun ⟨hp, h1⟩ => ⟨hp, h.unpackable hp h1⟩
  group := by
    by_cases hg : P .group
    · exact .inl hg
    · refine .inr fun y hy => ?_
      obtain ⟨h1, h2⟩ := hs.group.resolve_left hg y hy
      exact h.leaves hg y h1 h2

/-! ### Handlings one after another -/

theorem Does.refl (s : State) : Does P s s := fun h => ⟨.refl, h⟩

theorem Does.bind (d : Does P s t) (e : Ready P t → Does P t u) : Does P s u := fun h =>
  have ⟨h1, h2⟩ := d h
  have ⟨h3, h4⟩ := e h2 h2
  ⟨h1.trans h3, h4⟩

theorem Does.trans (d : Does P s t) (e : Does P t u) : Does P s u := d.bind fun _ => e

theorem Does.touch (d : Does P s t) (h : Touches P t u)
    (hb : billingRests t.billing → billingRests u.billing ∨ allServed P) : Does P s u :=
  d.bind fun _ hr => ⟨.single h, h.ready hr hb⟩

/-- A reading that every replacement keeps is kept by a whole handling. -/
theorem Does.of_touches {I : State → Prop} (d : Does P s t) (hs : Ready P s) (h0 : I s)
    (h : ∀ u v, Touches P u v → I u → I v) : I t := by
  obtain ⟨c, -⟩ := d hs
  clear d
  induction c with
  | refl => exact h0
  | tail _ hv ih => exact h _ _ hv ih

theorem Does.keeps {α : Type} {π : State → α} (d : Does P s t) (hs : Ready P s)
    (hk : Keeps π [.arb, .agent, .body, .control, .lifts, .markers, .weigh, .zeros, .tags, .arbiter,
      .packer, .tailgate, .queue, .store, .clock, .payload, .billing, .table]) : π t = π s :=
  d.of_touches hs (I := fun v => π v = π s) rfl fun _ _ h e => (h.keeps hk).trans e

theorem Does.ite {c : Prop} [Decidable c] (h : c → Does P s t) (k : ¬ c → Does P s u) :
    Does P s (if c then t else u) := by
  split
  · exact h ‹_›
  · exact k ‹_›

end Sys2Proof.Proofs

/-! What each operation of a handling touches: the requests and arbitrations, the weighing, the tags, the
Dump entry, the packer and the tailgate (R36). -/

namespace Sys2Proof.Proofs

open Sys2Proof Sys2Proof.Machine Sys2Proof.Laws

section

variable {P : Touch → Prop} {s t : State} {x : Station}

/-! ### The single replacements -/

theorem raiseNotice_does (d : Does P s t) (k : Notice) (h1 : k ≠ .inputChange := by decide)
    (h2 : k ≠ .sensorError := by decide)
    (h3 : k = .packerFault → P (.function .packer) := by simp) : Does P s (raiseNotice k t) :=
  d.touch (.notice t k h1 h2 h3) fun h => by
    rw [show (raiseNotice k t).billing = t.billing from raiseNotice_keeps _ keeps_billing.mono _ _]
    exact .inl h

theorem setLift_does (d : Does P s t) (hx : P (.function (.station x))) {l : Lift}
    (h : P .group ∨ l.state = (t.lift x).state ∨ (l.state ≠ .release ∧ l.state ≠ .lower) :=
      by first | exact .inr (.inl rfl) | exact .inr (.inr ⟨nofun, nofun⟩))
    (hs : l.startRefusals = (t.lift x).startRefusals ∨ P .start := by exact .inl rfl) :
    Does P s (t.setLift x l) := d.touch (.lift t x l hx hs h) .inl

theorem setMarker_does (d : Does P s t) (hx : P (.function (.station x))) (m : Marker) :
    Does P s (t.setMarker x m) := d.touch (.marker t x m hx) .inl

theorem setScale_does (d : Does P s t) (hx : P (.function (.station x))) {w : WeighStation} :
    Does P s (t.setScale x w) := d.touch (.scale t x w hx) .inl

theorem setStore_does (d : Does P s t) {m : Mem} : Does P s (t.setStore m) :=
  d.touch (.store t m) .inl

theorem setClock_does (d : Does P s t) {c : Clock} : Does P s (t.setClock c) :=
  d.touch (.clock t c) .inl

theorem setPayload_does (d : Does P s t) {p : Payload} : Does P s (t.setPayload p) :=
  d.touch (.payload t p) .inl

theorem setPacker_does (d : Does P s t) (hp : P (.function .packer)) {p : Packer} :
    Does P s (t.setPacker p) := d.touch (.packer t p hp) .inl

theorem setTailgate_does (d : Does P s t) (hg : P (.function .tailgate)) {g : Tailgate} :
    Does P s (t.setTailgate g) := d.touch (.tailgate t g hg) .inl

theorem setTable_does (d : Does P s t) {T : Table} (h1 : T.state = t.table.state)
    (h2 : T.journal = t.table.journal) (h3 : T.recordCount = t.table.recordCount)
    (h4 : ∃ l, T.waiting = t.table.waiting ++ l) : Does P s (t.setTable T) :=
  d.touch (.table t T h1 h2 h3 h4) .inl

theorem setBilling_does (d : Does P s t) {b : Billing}
    (h : billingRests t.billing → billingRests b ∨ allServed P) : Does P s (t.setBilling b) :=
  d.touch (.billing t b) h

/-! ### Requests and arbitrations (R146, R148) -/

theorem arbitrate_billing (s : State) : (arbitrate s).billing = s.billing :=
  arbitrate_keeps State.billing keeps_billing.mono s

theorem flow_does (d : Does P s t) {r : Requester} (hr : P (.function r)) {a : Arbiter}
    (h1 : ∀ q, q ≠ r → a.req.get q = t.request q) (h2 : a.group = t.arbiter.group) :
    Does P s (arbitrate (t.setArbiter a)) :=
  d.touch (.flow t r a hr h1 h2) fun h => by rw [arbitrate_billing]; exact .inl h

theorem settle_frame (cap : Nat) (r : Requester) (q : FlowReq) (a : Arbiter) :
    (a.settle cap r q).req = a.req.set r (some q) ∧ (a.settle cap r q).group = a.group := by
  unfold Arbiter.settle
  dsimp only
  split
  · exact ⟨rfl, rfl⟩
  · split <;> exact ⟨rfl, rfl⟩

theorem five_get_set_ne {α : Type} {f : Five α} {r q : Requester} {a : α} (h : q ≠ r) :
    (f.set r a).get q = f.get q := (five_get_set _ _ _ _).trans (if_neg h)

theorem newRequest_does (d : Does P s t) {r : Requester} (hr : P (.function r)) (ph : FlowPhase) :
    Does P s (newRequest r ph t) :=
  flow_does d hr (fun _ hq => five_get_set_ne hq) rfl

theorem changeDemand_does (d : Does P s t) {r : Requester} (hr : P (.function r)) (ph : FlowPhase) :
    Does P s (changeDemand r ph t) := by
  obtain ⟨h1, h2⟩ := settle_frame t.signals.capacity r (t.flowReq r ph) t.arbiter
  exact flow_does d hr (fun q hq => by rw [h1, five_get_set_ne hq]; rfl) h2

theorem releaseRequest_does (d : Does P s t) {r : Requester} (hr : P (.function r)) :
    Does P s (releaseRequest r t) :=
  .ite (fun _ => flow_does d hr (fun _ hq => five_get_set_ne hq) rfl) fun _ => d

theorem setGroupLowest_does (d : Does P s t) (hg : P .group) : Does P s (setGroupLowest x t) :=
  .ite (fun _ => d) fun _ => d.touch (.group t _ hg) fun h => by rw [arbitrate_billing]; exact .inl h

theorem foldl_does {β : Type} {f : State → β → State} (h : ∀ t b, Does P s t → Does P s (f t b))
    (l : List β) (d : Does P s t) : Does P s (l.foldl f t) := by
  induction l generalizing t with
  | nil => exact d
  | cons b l ih => exact ih (h t b d)

/-! ### The Lift Record, the marker and the weighing of a station -/

theorem onRecord_does (d : Does P s t) (hx : P (.function (.station x))) (f : LiftRecord → LiftRecord) :
    Does P s (t.onRecord x f) := setLift_does d hx

theorem setFlag_does (d : Does P s t) (hx : P (.function (.station x))) (f : LiftFlag) :
    Does P s (setFlag x f t) := onRecord_does d hx _

theorem writeMarker_does (d : Does P s t) (hx : P (.function (.station x))) (f : Furthest) :
    Does P s (writeMarker x f t) := by
  unfold writeMarker
  split
  · exact setMarker_does d hx _
  · exact d

theorem enterWeighing_does (d : Does P s t) (hx : P (.function (.station x))) :
    Does P s (enterWeighing x t) := setScale_does d hx

theorem leaveWeighing_does (d : Does P s t) (hx : P (.function (.station x))) :
    Does P s (leaveWeighing x t) := setScale_does d hx

theorem faultWeighing_does (d : Does P s t) (hx : P (.function (.station x))) (old : StationState) :
    Does P s (faultWeighing old x t) := .ite (fun _ => setScale_does d hx) fun _ => setScale_does d hx

theorem fixGross_does (d : Does P s t) (hx : P (.function (.station x))) :
    Does P s (fixGross x t) := by
  unfold fixGross
  refine leaveWeighing_does ?_ hx
  dsimp only
  split
  · exact onRecord_does d hx _
  · split
    · exact onRecord_does (setScale_does d hx) hx _
    · exact onRecord_does (setScale_does d hx) hx _

theorem fixTare_does (d : Does P s t) (hx : P (.function (.station x))) :
    Does P s (fixTare x t) := by
  unfold fixTare
  refine leaveWeighing_does ?_ hx
  dsimp only
  split
  · exact onRecord_does d hx _
  · exact onRecord_does (setScale_does d hx) hx _

theorem applyPendingZero_does (d : Does P s t) (hx : P (.function (.station x))) :
    Does P s (applyPendingZero x t) := by
  unfold applyPendingZero
  split
  · exact d
  · exact setScale_does (d.touch (.zero t x _ hx) .inl) hx

theorem cancelCapture_does (d : Does P s t) (hx : P (.function (.station x))) :
    Does P s (cancelCapture x t) :=
  .ite (fun _ => raiseNotice_does (setScale_does d hx) _) fun _ => d

/-! ### The tags of a station (05) -/

theorem setTags_does (d : Does P s t) (hx : P (.function (.station x))) {T : Tags}
    (h : ∀ y, y ≠ x → (T.queue.filter fun e => e.station == y) = t.candidates y ∧
      T.assigned.get y = t.tags.assigned.get y ∧ T.counts.get y = t.tags.counts.get y) :
    Does P s (t.setTags T) := d.touch (.tags t x T hx h) .inl

theorem tri_get_set_ne {α : Type} {t : Tri α} {x y : Station} {a : α} (h : y ≠ x) :
    (t.set x a).get y = t.get y := (tri_get_set _ _ _ _).trans (if_neg h)

theorem countTags_does (d : Does P s t) (hx : P (.function (.station x))) (f : TagCounts → TagCounts) :
    Does P s (t.countTags x f) :=
  setTags_does d hx fun _ h => ⟨rfl, rfl, tri_get_set_ne h⟩

theorem setAssigned_does (d : Does P s t) (hx : P (.function (.station x))) (a : Option AssignedTag) :
    Does P s (t.setAssigned x a) :=
  setTags_does d hx fun _ h => ⟨rfl, tri_get_set_ne h, rfl⟩

/-- Entries of one station taken out leave another's candidates as they are. -/
theorem filter_station (q : List TagEntry) {p : TagEntry → Bool} {y : Station}
    (h : ∀ e : TagEntry, e.station = y → p e = true) :
    (q.filter p).filter (fun e => e.station == y) = q.filter fun e => e.station == y := by
  rw [List.filter_filter]
  refine List.filter_congr fun e _ => ?_
  by_cases he : e.station = y
  · simp [he, h e he]
  · simp [he]

theorem setTagQueue_does (d : Does P s t) (hx : P (.function (.station x))) {p : TagEntry → Bool}
    (h : ∀ e : TagEntry, e.station ≠ x → p e = true) :
    Does P s (t.setTagQueue (t.tags.queue.filter p)) :=
  setTags_does d hx fun _ hy => ⟨filter_station _ fun e he => h e (he ▸ hy), rfl, rfl⟩

theorem assignEntry_does (d : Does P s t) (hx : P (.function (.station x))) (e : TagEntry) :
    Does P s (assignEntry x e t) := by
  refine countTags_does (x := x) (f := fun c => { c with engage := bump c.engage })
    (setAssigned_does (setTagQueue_does (p := fun y => !y.isFor x e.tag) d hx fun y hy => ?_) hx
      (some ⟨e.tag, e.last⟩)) hx
  simp [TagEntry.isFor, hy]

theorem lockOut_does (d : Does P s t) (hx : P (.function (.station x))) :
    Does P s (lockOut x t) :=
  countTags_does (setTagQueue_does d hx fun y hy => by simp [hy]) hx _

theorem assignTag_does (d : Does P s t) (hx : P (.function (.station x))) :
    Does P s (assignTag x t).2 := by
  unfold assignTag
  split
  · exact countTags_does d hx fun c => { c with noTag := bump c.noTag }
  · exact assignEntry_does d hx _
  · split
    · exact assignEntry_does d hx _
    · exact lockOut_does d hx

theorem settleAssigned_does (d : Does P s t) (hx : P (.function (.station x))) :
    Does P s (settleAssigned t x) := by
  unfold settleAssigned
  split
  · exact d
  · exact .ite (fun _ => setAssigned_does d hx _) fun _ => d

/-! ### Payload and Dump entry (R57, R61, R165, R172) -/

theorem testBodyFull_does (d : Does P s t) : Does P s (testBodyFull t) :=
  .ite (fun _ => raiseNotice_does (setPayload_does d) _) fun _ => setPayload_does d

theorem addFill_does (d : Does P s t) (f : Nat) : Does P s (addFill f t) :=
  testBodyFull_does (setPayload_does d)

theorem countDump_does (d : Does P s t) (hd : P .dumps) : Does P s (countDump t) :=
  d.touch (.dump t hd) fun h => by
    rw [show (countDump t).billing = t.billing from countDump_keeps _ keeps_billing.mono _]
    exact .inl h

theorem enterDump_does (d : Does P s t) (hx : P (.function (.station x))) (hd : P .dumps) :
    Does P s (enterDump x t) := by
  unfold enterDump
  exact newRequest_does (countDump_does (setLift_does (writeMarker_does (onRecord_does d hx _) hx _) hx)
    hd) hx _

theorem bladeTest_does (d : Does P s t) (hx : P (.function (.station x))) (hd : P .dumps) :
    Does P s (bladeTest x t) :=
  .ite (fun _ => enterDump_does d hx hd) fun _ => setLift_does d hx

theorem setLift_self (h : t.lift x = l) : t.setLift x l = t := by
  subst h
  cases x <;> rfl

/-- A Blade wait whose test fails goes on as it was (R57). -/
theorem retestBlade_fails (h : t.bladeOk = false) (y : Station) : retestBlade t y = t := by
  unfold retestBlade bladeTest
  split
  · rename_i hw
    have hw : (t.lift y).wait = .blade := (by simpa using hw : _ ∧ _).2
    rw [h, if_neg Bool.false_ne_true]
    refine setLift_self ?_
    rw [← hw]
  · rfl

/-- A station that waits for the blade is one that may act, or its wait does not end. -/
theorem retestBlade_does (d : Does P s t) (hd : P .dumps) (y : Station) :
    Does P s (retestBlade t y) := by
  refine d.bind fun hr => .ite (fun h => ?_) fun _ => .refl _
  have hw : bladeWaits t y := by simpa [bladeWaits] using h
  rcases hr.blade hd y with hy | hn | hb
  · exact bladeTest_does (.refl t) hy hd
  · exact absurd hw hn
  · have h1 := retestBlade_fails hb.1 y
    unfold retestBlade at h1
    rw [if_pos h] at h1
    rw [h1]
    exact .refl t

theorem bladeTests_does (d : Does P s t) (hd : P .dumps) : Does P s (bladeTests t) :=
  foldl_does (fun _ y d => retestBlade_does d hd y) _ d

/-! ### The packer (R165 to R168) -/

section

variable {serve : State → State}

theorem enterParked_does (d : Does P s t) (hp : P (.function .packer) ∧ P .dumps)
    (hs : ∀ {t}, Does P s t → Does P s (serve t)) : Does P s (enterParked serve t) :=
  hs (bladeTests_does (releaseRequest_does (setPacker_does d hp.1) hp.1) hp.2)

theorem enterRetracting_does (d : Does P s t) (hp : P (.function .packer) ∧ P .dumps)
    (hs : ∀ {t}, Does P s t → Does P s (serve t)) : Does P s (enterRetracting serve t) := by
  have h1 := bladeTests_does (setPacker_does d hp.1 (p := { t.packer with
    state := .retracting, dwellTimer := .stopped, limitTimer := .stopped, stallTimer := .stopped })) hp.2
  exact .ite (fun _ => enterParked_does h1 hp hs) fun _ =>
    newRequest_does (setPacker_does h1 hp.1) hp.1 _

theorem enterDwelling_does (d : Does P s t) (hp : P (.function .packer) ∧ P .dumps)
    (hs : ∀ {t}, Does P s t → Does P s (serve t)) : Does P s (enterDwelling serve t) :=
  .ite (fun _ => enterRetracting_does (setPacker_does d hp.1) hp hs) fun _ => setPacker_does d hp.1

theorem endExtending_does (d : Does P s t) (hp : P (.function .packer) ∧ P .dumps)
    (hs : ∀ {t}, Does P s t → Does P s (serve t)) (stall : Bool) :
    Does P s (endExtending serve stall t) := by
  unfold endExtending
  exact enterDwelling_does (setPacker_does (releaseRequest_does
    (addFill_does (setPacker_does d hp.1) _) hp.1) hp.1) hp hs

theorem beginExtending_does (d : Does P s t) (hp : P (.function .packer) ∧ P .dumps)
    (hs : ∀ {t}, Does P s t → Does P s (serve t)) : Does P s (beginExtending serve t) :=
  have h1 := newRequest_does (setPacker_does d hp.1) hp.1 _
  .ite (fun _ => endExtending_does h1 hp hs true) fun _ => h1

theorem servePending_does (hp : P (.function .packer) ∧ P .dumps) (n : Nat) (d : Does P s t) :
    Does P s (servePending n t) := by
  induction n generalizing t with
  | zero => exact d
  | succ n ih =>
    exact .ite (fun _ => beginExtending_does (setPacker_does d hp.1) hp ih) fun _ => d

end

theorem unpackable_test (h : unpackable P t) : (t.packer.packPending && t.packReady) = false := by
  unfold State.packReady
  rcases h with ⟨h, -⟩ | h | ⟨y, -, h⟩
  · rw [h, Bool.false_and]
  · rw [beq_eq_false_iff_ne.mpr h]
    simp
  · have hall : (stations.all fun st => (t.lift st).state != .dump) = false := by
      rw [List.all_eq_false]
      exact ⟨y, by cases y <;> decide, by simp [h]⟩
    rw [hall]
    simp

/-- A packer that may not act begins no pack. -/
theorem servePack_does (d : Does P s t) (he : P .serve) : Does P s (servePack t) := by
  refine d.bind fun hr => ?_
  rcases hr.packs he with hp | ⟨-, h⟩
  · exact servePending_does hp 2 (.refl t)
  · refine .ite (fun hc => ?_) fun _ => .refl t
    rw [unpackable_test h] at hc
    exact Bool.noConfusion hc

theorem clearPackPending_does (d : Does P s t)
    (hp : P (.function .packer) ∨ t.packer.packPending = false) : Does P s (clearPackPending t) := by
  rcases hp with hp | h
  · exact setPacker_does d hp
  · have : clearPackPending t = t := by
      unfold clearPackPending
      rw [← h]
      rfl
    rw [this]
    exact d

theorem haltPacker_does (d : Does P s t) (hp : P (.function .packer)) (c : PackerFault) :
    Does P s (haltPacker c t) := by
  unfold haltPacker
  exact raiseNotice_does (setPacker_does (releaseRequest_does (setPacker_does d hp) hp) hp) _
    (h3 := fun _ => hp)

theorem packerInputs_does (d : Does P s t) (hp : P (.function .packer) ∧ P .dumps) (he : P .serve) :
    Does P s (packerInputs t) := by
  unfold packerInputs
  split
  · exact .ite (fun _ => endExtending_does d hp (servePack_does · he) true) fun _ => d
  · exact .ite (fun _ => enterParked_does d hp (servePack_does · he)) fun _ => d
  · exact d

/-! ### The tailgate (R173, R174) -/

theorem enterClosed_does (d : Does P s t) (hg : P (.function .tailgate)) (he : P .serve) :
    Does P s (enterClosed t) := by
  unfold enterClosed
  exact servePack_does (setTailgate_does (releaseRequest_does (setTailgate_does d hg) hg) hg) he

theorem enterClosing_does (d : Does P s t) (hg : P (.function .tailgate)) (he : P .serve) :
    Does P s (enterClosing t) :=
  .ite (fun _ => enterClosed_does (setTailgate_does d hg) hg he) fun _ =>
    newRequest_does (setTailgate_does (setTailgate_does d hg) hg) hg _

theorem enterEjecting_does (d : Does P s t) (hg : P (.function .tailgate)) :
    Does P s (enterEjecting t) := by
  unfold enterEjecting setTailgateMarker
  exact changeDemand_does (setTailgate_does (setTailgate_does d hg) hg) hg _

theorem openingTest_does (d : Does P s t) (hg : P (.function .tailgate)) :
    Does P s (openingTest t) := .ite (fun _ => enterEjecting_does d hg) fun _ => d

theorem tailgateInputs_does (d : Does P s t) (hg : P (.function .tailgate)) (he : P .serve) :
    Does P s (tailgateInputs t) := by
  unfold tailgateInputs
  split
  · exact openingTest_does d hg
  · exact .ite (fun _ => enterClosed_does d hg he) fun _ => d
  · exact d

/-- The report of a commit to a tailgate that is not Unload Pending counts it and no more (R174). -/
theorem reportUnload_idle (h : s.tailgate.unloadPending = false) :
    reportUnload s = s.setTailgate { s.tailgate with unloads := bump s.tailgate.unloads } := by
  unfold reportUnload
  simp [h]

theorem reportUnload_does (d : Does P s t) (hg : P (.function .tailgate))
    (he : P .serve ∨ t.tailgate.unloadPending = false) : Does P s (reportUnload t) := by
  rcases he with he | he
  · exact .ite (fun _ => enterClosing_does (setTailgate_does d hg) hg he) fun _ => setTailgate_does d hg
  · rw [reportUnload_idle he]
    exact setTailgate_does d hg

end

end Sys2Proof.Proofs

/-! What the Billing Engine, the lifts, the halts and a station's share of an event touch (R36, R127). -/

namespace Sys2Proof.Proofs

open Sys2Proof Sys2Proof.Machine Sys2Proof.Laws

/-- The function that a holder of a reservation belongs to. -/
def holderFunction : Holder → Requester
  | .station x => .station x
  | .tailgate => .tailgate

/-- What a completed request leaves before its report: the counters, the record, the payload and the totals
(R129 steps 3 to 6). -/
def bookRequest (q : BillReq) (r : ChargeRecord) (p : Price) (below : Bool)
    (a : Option CounterAnswer) (s : State) : State :=
  let s := commitMarker q.holder (commitRecord q.holder r (writeBack q.kind r p a s))
  let s := if below && s.chargeLevel then raiseNotice .chargeLevel s else s
  countServed a p.capped (handTotals r (handPayload r s))

/-- What completes a request whose record and price are worked out, once it has left the Request List
(R129 steps 3 to 7). -/
def finishRequest (q : BillReq) (r : ChargeRecord) (p : Price) (below : Bool)
    (a : Option CounterAnswer) (s : State) : State := report q.holder (bookRequest q r p below a s)

theorem completeRequest_eq (q : BillReq) (g : Figures) (a : Option CounterAnswer) (s : State) :
    completeRequest q g a s = finishRequest q (s.recordOf q g a)
      (s.charge (s.recordOf q g a).outcome q.kind (s.recordOf q g a).billed a) (!s.chargeLevel) a
      (s.setBilling { s.billing with list := s.billing.list.tail, waiting := none }) := rfl

section

variable {P : Touch → Prop} {s t : State} {x : Station}

/-! ### Reservations, totals and Release (R63, R64, R139, R182) -/

theorem setHeld_does (d : Does P s t) {h : Holder} (hh : P (.function (holderFunction h))) (b : Bool)
    {q : Queue} (hq : q.heldSt = (t.queue.setHeld h b).heldSt) : Does P s (t.setQueue q) := by
  refine d.touch (.held t q fun y => ?_) .inl
  by_cases hy : P (.function (.station y))
  · exact .inl hy
  · refine .inr ?_
    rw [hq]
    cases h with
    | station x => exact tri_get_set_ne fun e => hy (e ▸ hh)
    | tailgate => rfl

theorem reserve_does (d : Does P s t) (hx : P (.function (.station x))) :
    Does P s (reserve (.station x) t) := setHeld_does d (h := .station x) hx true rfl

theorem addTotal_does (d : Does P s t) (k : Total) (n : Nat) : Does P s (addTotal k n t) :=
  setStore_does d

theorem endRelease_does (d : Does P s t) (hx : P (.function (.station x))) (hg : P .group) :
    Does P s (endRelease x t) := by
  unfold endRelease
  refine setLift_does ?_ hx
  have h := releaseRequest_does (setLift_does d hx (l := { t.lift x with phaseTimer := .stopped })) hx
  exact .ite (fun _ => setGroupLowest_does h hg) fun _ => h

theorem enterRelease_does (d : Does P s t) (hx : P (.function (.station x))) (hg : P .group) :
    Does P s (enterRelease x t) := by
  have h1 := setLift_does d hx (h := .inl hg) (l := { t.lift x with
    state := .release, chargePending := false
    phaseTimer := .running (t.now + t.cfg.releaseLimit x) })
  have h2 := Does.ite (P := P) (s := s) (c := x.isSide)
    (fun _ => newRequest_does h1 hx .release) fun _ => h1
  exact .ite (fun _ => endRelease_does h2 hx hg) fun _ => h2

/-- A station that is in Lower may act, so its commit may move the group. -/
theorem reportStation_does (d : Does P s t) (hx : P (.function (.station x))) :
    Does P s (reportStation x t) := by
  refine (settleAssigned_does (setLift_does d hx (l := { t.lift x with record := none })) hx).bind
    fun hr => .ite (fun hc => ?_) fun _ => .refl _
  refine enterRelease_does (.refl _) hx (hr.group.resolve_right fun hg => (hg x hx).2 ?_)
  exact (by simpa using hc : _ ∧ _).1

/-! ### The Billing Engine (R127, R129) -/

/-- The slot that the next record takes (R140). -/
def tailSlot (s : State) : Nat := slotBase ((s.queue.head + s.queue.count) % Config.queueSlots)

/-- The bytes of a record that is committed now (R137, R140). -/
def recordBytes (r : ChargeRecord) (s : State) : List Byte :=
  r.bytes s.queue.nextSeq (if s.clock.valid then s.clock.seconds else 0)
    (!s.clock.valid || s.clock.stepped)

/-- The store with a record written at the tail (R140). -/
def recordStore (r : ChargeRecord) (s : State) : Mem :=
  s.store.writeBytes (tailSlot s) (recordBytes r s)

theorem commitRecord_eq (h : Holder) (r : ChargeRecord) (s : State) :
    commitRecord h r s = ((s.setStore (recordStore r s)).setClock
      (if s.clock.valid then { s.clock with stepped := false } else s.clock)).setQueue
        { s.queue.setHeld h false with
          count := s.queue.count + 1, nextSeq := nextSeq s.queue.nextSeq
          commits := bump s.queue.commits } := by
  have h1 : ∀ m, (if (s.setStore m).clock.valid then (s.setStore m).setClock
      { (s.setStore m).clock with stepped := false } else s.setStore m) = (s.setStore m).setClock
        (if s.clock.valid then { s.clock with stepped := false } else s.clock) := by
    intro m
    by_cases hv : s.clock.valid = true
    · simp only [setStore_clock, hv, if_true]
    · simp only [setStore_clock, hv, if_false, Bool.false_eq_true]
      rfl
  exact congrArg (fun v : State => v.setQueue { s.queue.setHeld h false with
    count := s.queue.count + 1, nextSeq := nextSeq s.queue.nextSeq
    commits := bump s.queue.commits }) (h1 (recordStore r s))

theorem commitRecord_does (d : Does P s t) {h : Holder} (hh : P (.function (holderFunction h)))
    (r : ChargeRecord) : Does P s (commitRecord h r t) := by
  rw [commitRecord_eq]
  exact setHeld_does (setClock_does (setStore_does d)) hh false (by cases h <;> rfl)

theorem commitMarker_does (d : Does P s t) {h : Holder} (hh : P (.function (holderFunction h))) :
    Does P s (commitMarker h t) := by
  cases h with
  | station x => exact setMarker_does d hh _
  | tailgate => exact setTailgate_does d hh

theorem handPayload_does (d : Does P s t) (r : ChargeRecord) : Does P s (handPayload r t) :=
  .ite (fun _ => testBodyFull_does (setPayload_does d)) fun _ =>
    .ite (fun _ => testBodyFull_does (setPayload_does d)) fun _ => d

theorem handTotals_does (d : Does P s t) (r : ChargeRecord) : Does P s (handTotals r t) := by
  have h1 := addTotal_does d r.outcome.total 1
  have h2 := Does.ite (P := P) (s := s) (c := r.outcome.tipped)
    (fun _ => addTotal_does h1 .tippedMass r.billed) fun _ => h1
  exact .ite (fun _ => h2) fun _ => addTotal_does h2 _ _

theorem writeBack_does (d : Does P s t) (k : BillKind) (r : ChargeRecord) (p : Price)
    (a : Option CounterAnswer) : Does P s (writeBack k r p a t) := by
  unfold writeBack
  split
  · exact setStore_does d
  · exact d

theorem countServed_does (d : Does P s t) (a : Option CounterAnswer) (capped : Bool) :
    Does P s (countServed a capped t) := by
  unfold countServed
  exact setBilling_does d .inl

theorem report_does (d : Does P s t) {h : Holder} (hh : P (.function (holderFunction h)))
    (he : h = .tailgate → P .serve ∨ t.tailgate.unloadPending = false) : Does P s (report h t) := by
  cases h with
  | station x => exact reportStation_does d hh
  | tailgate => exact reportUnload_does d hh (he rfl)

theorem bookRequest_does (d : Does P s t) {q : BillReq}
    (hq : P (.function (holderFunction q.holder))) (r : ChargeRecord) (p : Price) (below : Bool)
    (a : Option CounterAnswer) : Does P s (bookRequest q r p below a t) := by
  have h1 := commitMarker_does (commitRecord_does (writeBack_does d q.kind r p a) hq r) hq
  have h2 : ∀ v, Does P s v →
      Does P s (if below && v.chargeLevel then raiseNotice .chargeLevel v else v) :=
    fun _ h => .ite (fun _ => raiseNotice_does h _) fun _ => h
  have h3 : ∀ v, Does P s v → Does P s (countServed a p.capped (handTotals r (handPayload r v))) :=
    fun _ h => countServed_does (handTotals_does (handPayload_does h r) r) a p.capped
  exact h3 _ (h2 _ h1)

theorem commitMarker_unloadPending (h : Holder) (s : State) :
    (commitMarker h s).tailgate.unloadPending = s.tailgate.unloadPending := by
  cases h <;> rfl

theorem bookRequest_unloadPending (q : BillReq) (r : ChargeRecord) (p : Price) (below : Bool)
    (a : Option CounterAnswer) (s : State) :
    (bookRequest q r p below a s).tailgate.unloadPending = s.tailgate.unloadPending := by
  have h1 : (commitMarker q.holder (commitRecord q.holder r
      (writeBack q.kind r p a s))).tailgate.unloadPending = s.tailgate.unloadPending := by
    rw [commitMarker_unloadPending, commitRecord_keeps _ keeps_tailgate.mono,
      writeBack_keeps _ keeps_tailgate.mono]
  unfold bookRequest
  dsimp only
  generalize commitMarker q.holder (commitRecord q.holder r (writeBack q.kind r p a s)) = v at h1 ⊢
  rw [countServed_keeps _ keeps_tailgate.mono, handTotals_keeps _ keeps_tailgate.mono,
    handPayload_keeps _ keeps_tailgate.mono]
  split
  · rw [raiseNotice_keeps _ keeps_tailgate.mono, h1]
  · exact h1

theorem completeRequest_does (d : Does P s t) {q : BillReq}
    (hq : P (.function (holderFunction q.holder)))
    (he : q.holder = .tailgate → P .serve ∨ t.tailgate.unloadPending = false)
    {b : Billing} (hb : b.list.tail = [] ∨ allServed P)
    (g : Figures) (a : Option CounterAnswer) :
    Does P s (completeRequest q g a (t.setBilling b)) := by
  rw [completeRequest_eq]
  exact report_does (bookRequest_does (t := t.setBilling { b with list := b.list.tail, waiting := none })
    (setBilling_does d fun _ => hb.imp_left fun h _ => h) hq _ _ _ _) hq fun h =>
      (he h).imp_right (bookRequest_unloadPending _ _ _ _ _ _).trans

theorem countTable_does (d : Does P s t) (f : TableCounts → TableCounts) :
    Does P s (t.countTable f) :=
  setTable_does d rfl rfl rfl ⟨[], (List.append_nil _).symm⟩

theorem countAccess_does (d : Does P s t) (a : CounterAnswer) : Does P s (countAccess a t) := by
  unfold countAccess
  exact countTable_does d _

theorem serveHead_does (d : Does P s t) {q : BillReq}
    (hq : P (.function (holderFunction q.holder)))
    (he : q.holder = .tailgate → P .serve ∨ t.tailgate.unloadPending = false)
    {b : Billing} (hb : b.list.tail = [] ∨ allServed P) :
    Does P s (serveHead q (t.setBilling b)) := by
  unfold serveHead
  dsimp only
  split
  · exact completeRequest_does d hq he hb _ _
  · split
    · exact setTable_does (t := t.setBilling { b with waiting := some (q.figures t.cfg) })
        (setBilling_does d fun _ => .inl nofun) rfl rfl rfl ⟨_, rfl⟩
    · exact completeRequest_does (t := countAccess _ t) (countAccess_does d _) hq he hb _ _

theorem serveRequests_does (ha : allServed P) (n : Nat) (d : Does P s t) :
    Does P s (serveRequests n t) := by
  induction n generalizing t with
  | zero => exact d
  | succ n ih =>
    unfold serveRequests
    split
    · rename_i q _ _ _
      have hq : P (.function (holderFunction q.holder)) := ha.1 _ (by cases q.holder <;> nofun)
      exact ih (serveHead_does (t := t) (b := t.billing) d hq (fun _ => .inl ha.2.2) (.inr ha))
    · exact d

/-- A request at an engine that is not Free waits (R127). -/
theorem makeRequest_waits {q : BillReq} (h : s.billing.waiting ≠ none) :
    makeRequest q s = s.setBilling { s.billing with list := s.billing.list ++ [q] } := by
  unfold makeRequest serveBilling
  generalize hn : List.length _ = n
  cases n with
  | zero => rfl
  | succ n =>
    unfold serveRequests
    split
    · rename_i h1 _
      exact absurd h1 h
    · rfl

/-- A request at an engine that is Free, with nothing in its list, is served at once (R127). -/
theorem makeRequest_serves {q : BillReq} (h1 : s.billing.waiting = none) (h2 : s.billing.list = []) :
    makeRequest q s = serveHead q (s.setBilling { s.billing with list := [q] }) := by
  unfold makeRequest serveBilling
  simp only [h2, List.nil_append, setBilling_billing, List.length_singleton]
  unfold serveRequests
  simp only [setBilling_billing, h1]
  rfl

theorem makeRequest_does (d : Does P s t) {q : BillReq}
    (hq : P (.function (holderFunction q.holder)))
    (he : q.holder = .tailgate → P .serve ∨ t.tailgate.unloadPending = false) :
    Does P s (makeRequest q t) := by
  refine d.bind fun hr => ?_
  rcases hr.bills with hb | ha
  · by_cases hw : t.billing.waiting = none
    · rw [makeRequest_serves hw (hb hw)]
      exact serveHead_does (.refl t) hq he (.inl rfl)
    · rw [makeRequest_waits hw]
      exact setBilling_does (.refl t) fun _ => .inl fun h => absurd h hw
  · exact serveRequests_does ha _ (setBilling_does (.refl t) fun _ => .inr ha)

/-! ### The functions that may act as they stop (R41, R42) -/

/-- Every function that `c` names and that is in motion may act. -/
structure MayHalt (P : Touch → Prop) (c : Requester → Bool) (s : State) : Prop where
  station : ∀ x, c (.station x) = true → s.stationMoving x = true → P (.function (.station x))
  packer : c .packer = true → s.packerMoving = true → P (.function .packer)
  tailgate : c .tailgate = true → s.tailgateMoving = true → P (.function .tailgate)

/-! ### The phases of a station (R54 to R56, R62) -/

theorem decideHold_does (d : Does P s t) (hx : P (.function (.station x))) (hd : P .dumps) :
    Does P s (decideHold x t) := by
  have enter : Does P s (bladeTest x (t.onRecord x fun r => { r with admission := .admitted })) :=
    bladeTest_does (onRecord_does d hx _) hx hd
  unfold decideHold
  dsimp only
  split
  · exact d
  · refine .ite (fun _ => setLift_does d hx) fun _ => ?_
    split
    · exact .ite (fun _ => setLift_does d hx) fun _ => enter
    · exact .ite (fun _ => enter) fun _ => setLift_does d hx

theorem enterHold_does (d : Does P s t) (hx : P (.function (.station x))) (hd : P .dumps) :
    Does P s (enterHold x t) := decideHold_does (setLift_does d hx) hx hd

theorem deliverLookup_does (d : Does P s t) (hx : P (.function (.station x))) (hd : P .dumps)
    (tag : Nat) (res : Found) : Does P s (deliverLookup x tag res t) := by
  have h1 := onRecord_does d hx fun r => { r with lookupPending := false }
  have h2 : ∀ v, Does P s v →
      Does P s (if (v.lift x).state == .hold && (v.lift x).wait == .lookup then decideHold x v else v) :=
    fun v h => .ite (fun _ => decideHold_does h hx hd) fun _ => h
  unfold deliverLookup
  split
  · exact d
  · refine .ite (fun _ => h2 _ ?_) fun _ => d
    split
    · exact writeMarker_does (onRecord_does h1 hx _) hx _
    · exact h1

theorem waitLookup_does (d : Does P s t) (x : Station) (tag : Nat) : Does P s (waitLookup x tag t) :=
  countTable_does (setTable_does d (T := { t.table with
    waiting := t.table.waiting ++ [.lookup x tag] }) rfl rfl rfl ⟨_, rfl⟩) _

theorem askLookup_does (d : Does P s t) (hx : P (.function (.station x))) (hd : P .dumps) (tag : Nat) :
    Does P s (askLookup x tag t) := by
  have h1 := onRecord_does d hx fun r => { r with lookupPending := true }
  refine .ite (fun _ => ?_) fun _ => ?_
  · exact waitLookup_does h1 x tag
  · unfold answerLookup countLookup
    exact deliverLookup_does (countTable_does h1 _) hx hd _ _

theorem endRaise_does (d : Does P s t) (hx : P (.function (.station x))) (hd : P .dumps) :
    Does P s (endRaise x t) := by
  unfold endRaise
  exact enterHold_does (releaseRequest_does (setLift_does
    (writeMarker_does (fixGross_does d hx) hx _) hx) hx) hx hd

theorem enterRaise_does (d : Does P s t) (hx : P (.function (.station x))) (hd : P .dumps) :
    Does P s (enterRaise x t) := by
  have h1 := enterWeighing_does (setLift_does d hx (l := { t.lift x with
    state := .raise, phaseTimer := .running (t.now + t.cfg.raiseLimit x) })) hx
  have h2 : ∀ v, Does P s v → Does P s (if (v.request (.station x)).isSome then
      changeDemand (.station x) .raise v else newRequest (.station x) .raise v) :=
    fun v h => .ite (fun _ => changeDemand_does h hx _) fun _ => newRequest_does h hx _
  have h3 : ∀ v, Does P s v → Does P s (if v.stationRole .atTop x then endRaise x v else v) :=
    fun v h => .ite (fun _ => endRaise_does h hx hd) fun _ => h
  exact h3 _ (h2 _ h1)

theorem endEngage_does (d : Does P s t) (hx : P (.function (.station x))) (hd : P .dumps) :
    Does P s (endEngage x t) := by
  have h1 := assignTag_does d hx
  unfold endEngage
  generalize assignTag x t = a at h1 ⊢
  obtain ⟨a, v⟩ := a
  refine enterRaise_does (writeMarker_does ?_ hx _) hx hd
  split
  · exact askLookup_does (onRecord_does h1 hx _) hx hd _
  · exact setFlag_does h1 hx _
  · exact h1

theorem enterEngage_does (d : Does P s t) (hx : P (.function (.station x))) (hd : P .dumps) :
    Does P s (enterEngage x t) := by
  have h1 := cancelCapture_does (setLift_does d hx (l := { t.lift x with state := .engage })) hx
  have h2 : ∀ v, Does P s v → Does P s (if v.stationRole .gripped x then endEngage x v else v) :=
    fun v h => .ite (fun _ => endEngage_does h hx hd) fun _ => h
  have h3 : ∀ v, Does P s v → Does P s (if x.isSide then
      (fun v => if v.stationRole .gripped x then endEngage x v else v)
        (newRequest (.station x) .engage (v.setLift x { v.lift x with
          phaseTimer := .running (v.now + v.cfg.engageLimit x) }))
      else endEngage x v) := fun v h =>
    .ite (fun _ => h2 _ (newRequest_does (setLift_does h hx) hx _)) fun _ => endEngage_does h hx hd
  exact h3 _ h1

theorem acceptStart_does (d : Does P s t) (hx : P (.function (.station x))) (hd : P .dumps) :
    Does P s (acceptStart x t) := by
  unfold acceptStart
  exact enterEngage_does (applyPendingZero_does (writeMarker_does (setLift_does
    (addTotal_does (reserve_does d hx) _ _) hx) hx _) hx) hx hd

theorem cycleStart_does (d : Does P s t) (hx : P (.function (.station x))) (hd : P .dumps)
    (hs : P .start) : Does P s (cycleStart x t).2 := by
  unfold cycleStart
  split
  · exact d
  · split
    · exact setLift_does d hx (hs := .inr hs)
    · exact acceptStart_does d hx hd

theorem endLower_does (d : Does P s t) (hx : P (.function (.station x))) :
    Does P s (endLower x t) := by
  have h1 := releaseRequest_does (setLift_does (fixTare_does d hx) hx
    (l := { (fixTare x t).lift x with phaseTimer := .stopped })) hx
  have h2 : ∀ v, Does P s v → Does P s (match (v.lift x).record with
      | none => v
      | some r =>
        makeRequest ⟨.station x, .charge r⟩ (v.onRecord x fun r => { r with requested := true })) := by
    intro v h
    split
    · exact h
    · exact makeRequest_does (onRecord_does h hx _) hx nofun
  exact h2 _ (setLift_does h1 hx)

/-- The end of Release and of Homing moves no group unless the station is in Release. -/
theorem stationInputs_does (d : Does P s t) (hx : P (.function (.station x))) (hd : P .dumps) :
    Does P s (stationInputs x t) := by
  refine d.bind fun hr => ?_
  unfold stationInputs
  split
  · exact .ite (fun _ => endEngage_does (.refl t) hx hd) fun _ => .refl t
  · exact .ite (fun _ => endRaise_does (.refl t) hx hd) fun _ => .refl t
  · exact .ite (fun _ => endLower_does (.refl t) hx) fun _ => .refl t
  · rename_i hs
    exact .ite (fun _ => endRelease_does (.refl t) hx
      (hr.group.resolve_right fun hg => (hg x hx).1 hs)) fun _ => .refl t
  · refine .ite (fun _ => ?_) fun _ => .refl t
    exact setLift_does (releaseRequest_does (setLift_does (.refl t) hx) hx) hx
  · exact .refl t

/-! ### Faults (R41, R42, R65, R175) -/

theorem faultRequest_does (d : Does P s t) (hx : P (.function (.station x))) :
    Does P s (faultRequest x t) := by
  unfold faultRequest
  split
  · exact d
  · exact .ite (fun _ => d) fun _ => makeRequest_does (onRecord_does d hx _) hx nofun

theorem haltStation_does (d : Does P s t) (hx : P (.function (.station x))) (c : StationFault) :
    Does P s (haltStation x c t) := by
  unfold haltStation
  exact raiseNotice_does (setLift_does (faultRequest_does (faultWeighing_does (releaseRequest_does
    (setLift_does d hx) hx) hx _) hx) hx) _

/-- The tailgate as it faults, before the request that a Fault in Ejecting makes (R175). -/
def tailgateHalted (c : TailgateFault) (s : State) : State :=
  let s := releaseRequest .tailgate (s.setTailgate { s.tailgate with
    state := .fault, paused := false, unloadPending := false, openReached := false
    openTimer := .stopped, limitTimer := .stopped, ejectTimer := .stopped, pauseTimer := .stopped })
  raiseNotice .tailgateFault (s.setTailgate { s.tailgate with
    faults := bump s.tailgate.faults, lastFault := some c })

theorem tailgateFault_eq (c : TailgateFault) (s : State) : tailgateFault c s =
    if s.tailgate.state == .ejecting && !s.tailgate.unloadPending then
      makeRequest ⟨.tailgate, .unload⟩ (tailgateHalted c s)
    else tailgateHalted c s := rfl

/-- A reading of the tailgate that no pause changes. -/
theorem releaseRequest_tailgate {α : Type} (ρ : Tailgate → α)
    (h : ∀ now limit r g p, ρ (Tailgate.paced now limit r g p) = ρ p) (r : Requester)
    (s : State) : ρ (releaseRequest r s).tailgate = ρ s.tailgate := by
  unfold releaseRequest
  split
  · exact arbitrate_tailgate ρ h _
  · rfl

theorem tailgateHalted_unloadPending (c : TailgateFault) (s : State) :
    (tailgateHalted c s).tailgate.unloadPending = false := by
  unfold tailgateHalted
  dsimp only
  rw [raiseNotice_keeps _ keeps_tailgate.mono, setTailgate_tailgate,
    releaseRequest_tailgate Tailgate.unloadPending fun _ _ _ _ _ => (tailgate_paced_core _ _ _ _ _).2.2.1]
  rfl

theorem tailgateFault_does (d : Does P s t) (hg : P (.function .tailgate)) (c : TailgateFault) :
    Does P s (tailgateFault c t) := by
  have h1 : Does P s (tailgateHalted c t) := by
    have h2 : ∀ v, Does P s v → Does P s (raiseNotice .tailgateFault (v.setTailgate { v.tailgate with
        faults := bump v.tailgate.faults, lastFault := some c })) :=
      fun v h => raiseNotice_does (setTailgate_does h hg) _
    exact h2 _ (releaseRequest_does (setTailgate_does d hg) hg)
  rw [tailgateFault_eq]
  exact .ite (fun _ => makeRequest_does h1 hg fun _ => .inr (tailgateHalted_unloadPending c t))
    fun _ => h1

/-! ### The functions that a pair error or an E-Stop stops (R41, R42) -/

theorem foldl_does_from {β : Type} {f : State → β → State}
    (h : ∀ v b, Does P t v → Does P v (f v b)) (l : List β) : Does P t (l.foldl f t) := by
  have from_here : ∀ v, Does P t v → Does P t (l.foldl f v) := by
    induction l with
    | nil => exact fun _ d => d
    | cons b l ih => exact fun v d => ih _ (d.trans (h v b d))
  exact from_here t (.refl t)

theorem Does.stays (d : Does P s t) (hs : Ready P s) (hx : ¬ P (.function (.station x))) :
    (t.lift x).state = (s.lift x).state ∧ (t.lift x).wait = (s.lift x).wait :=
  d.of_touches hs (I := fun v => (v.lift x).state = (s.lift x).state ∧
    (v.lift x).wait = (s.lift x).wait) ⟨rfl, rfl⟩ fun _ _ h e =>
      ⟨(h.stays x hx).1.trans e.1, (h.stays x hx).2.trans e.2⟩

theorem Does.stationMoving (d : Does P s t) (hs : Ready P s) (hx : ¬ P (.function (.station x))) :
    t.stationMoving x = s.stationMoving x := by
  unfold State.stationMoving
  rw [(d.stays hs hx).1]

theorem Does.packerState (d : Does P s t) (hs : Ready P s)
    (hp : ¬ P (.function .packer)) : t.packer.state = s.packer.state :=
  d.of_touches hs (I := fun v => v.packer.state = s.packer.state) rfl fun _ _ h e =>
    (h.packerState hp).trans e

/-- A packer outside `P` has no pack pending while no automatic pack is granted. -/
theorem Does.packPending (d : Does P s t) (hs : Ready P s) (hp : ¬ P (.function .packer))
    (h : s.packer.packPending = false) (ha : P .dumps → noAuto s) : t.packer.packPending = false :=
  (d.of_touches hs (I := fun v => v.packer.packPending = false ∧ (P .dumps → noAuto v)) ⟨h, ha⟩
    fun _ _ k e => ⟨(k.packPending hp e.2).trans e.1, fun hd =>
      noAuto_congr k.scanner k.cfg k.mode k.sys (e.2 hd)⟩).1

theorem Does.packerMoving (d : Does P s t) (hs : Ready P s)
    (hp : ¬ P (.function .packer)) : t.packerMoving = s.packerMoving := by
  unfold State.packerMoving
  rw [d.packerState hs hp]

/-- A reading of the tailgate that its pacing does not change. -/
theorem Touches.tailgateKept {α : Type} (ρ : Tailgate → α)
    (h1 : ∀ now limit r g p, ρ (Tailgate.paced now limit r g p) = ρ p) (h : Touches P s t)
    (hg : ¬ P (.function .tailgate)) : ρ t.tailgate = ρ s.tailgate := by
  cases h with
  | notice k => exact congrArg ρ (raiseNotice_keeps _ keeps_tailgate.mono _ _)
  | tailgate g h => exact absurd h hg
  | dump hd => exact congrArg ρ (countDump_keeps _ keeps_tailgate.mono _)
  | flow r a => exact arbitrate_tailgate ρ h1 _
  | group g => exact arbitrate_tailgate ρ h1 _
  | _ => rfl

theorem Does.tailgateState (d : Does P s t) (hs : Ready P s) (hg : ¬ P (.function .tailgate)) :
    t.tailgate.state = s.tailgate.state :=
  d.of_touches hs (I := fun v => v.tailgate.state = s.tailgate.state) rfl fun _ _ h e =>
    (h.tailgateKept Tailgate.state (fun _ _ _ _ _ => (tailgate_paced_core _ _ _ _ _).1) hg).trans e

theorem Does.tailgateMoving (d : Does P s t) (hs : Ready P s) (hg : ¬ P (.function .tailgate)) :
    t.tailgateMoving = s.tailgateMoving := by
  unfold State.tailgateMoving
  rw [d.tailgateState hs hg]

theorem Does.mayHalt {c : Requester → Bool} (d : Does P s t) (hs : Ready P s) (h : MayHalt P c s) :
    MayHalt P c t where
  station x hc hm := by
    by_cases hx : P (.function (.station x))
    · exact hx
    · exact h.station x hc (d.stationMoving hs hx ▸ hm)
  packer hc hm := by
    by_cases hp : P (.function .packer)
    · exact hp
    · exact h.packer hc (d.packerMoving hs hp ▸ hm)
  tailgate hc hm := by
    by_cases hg : P (.function .tailgate)
    · exact hg
    · exact h.tailgate hc (d.tailgateMoving hs hg ▸ hm)

/-- A station's turn: it enters Fault when `c` names it and it is in motion. -/
def stationHalt (c : Requester → Bool) (f : StationFault) (s : State) (x : Station) : State :=
  if c (.station x) && s.stationMoving x then haltStation x f s else s

/-- The packer's turn. -/
def packerHalt (c : Requester → Bool) (f : PackerFault) (s : State) : State :=
  if c .packer && s.packerMoving then haltPacker f s else s

/-- The tailgate's turn. -/
def tailgateHalt (c : Requester → Bool) (f : TailgateFault) (s : State) : State :=
  if c .tailgate && s.tailgateMoving then tailgateFault f s else s

/-- The functions that `c` names and that are in motion enter Fault, in the order of R36. -/
def haltNamed (c : Requester → Bool) (f1 : StationFault) (f2 : PackerFault) (f3 : TailgateFault)
    (s : State) : State :=
  tailgateHalt c f3 (packerHalt c f2 (stations.foldl (stationHalt c f1) s))

theorem haltPairs_eq (begun : BitVec 8) (s : State) : haltPairs begun s =
    haltNamed (s.cfg.begunFor begun) .sensorError .sensorError .sensorError s := rfl

theorem haltAll_eq (s : State) : haltAll s = haltNamed (fun _ => true) .eStop .eStop .eStop s := rfl

theorem haltNamed_does (d : Does P s t) {c : Requester → Bool} (h : MayHalt P c t)
    (f1 : StationFault) (f2 : PackerFault) (f3 : TailgateFault) :
    Does P s (haltNamed c f1 f2 f3 t) := by
  refine d.bind fun hr => ?_
  have h1 : Does P t (stations.foldl (stationHalt c f1) t) := by
    refine foldl_does_from (fun v x dv => .ite (fun hc => ?_) fun _ => .refl v) _
    obtain ⟨hc, hm⟩ := Bool.and_eq_true_iff.mp hc
    exact haltStation_does (.refl v) ((dv.mayHalt hr h).station x hc hm) f1
  have h2 : ∀ v, Does P t v → Does P t (packerHalt c f2 v) := by
    refine fun v dv => .ite (fun hc => ?_) fun _ => dv
    obtain ⟨hc, hm⟩ := Bool.and_eq_true_iff.mp hc
    exact haltPacker_does dv ((dv.mayHalt hr h).packer hc hm) f2
  have h3 : ∀ v, Does P t v → Does P t (tailgateHalt c f3 v) := by
    refine fun v dv => .ite (fun hc => ?_) fun _ => dv
    obtain ⟨hc, hm⟩ := Bool.and_eq_true_iff.mp hc
    exact tailgateFault_does dv ((dv.mayHalt hr h).tailgate hc hm) f3
  exact h3 _ (h2 _ h1)

/-- The functions that a pair error or an E-Stop of an event stops. -/
def stopped (c : Mem) (begun : BitVec 8) (stop : Bool) (r : Requester) : Bool :=
  stop || c.begunFor begun r

theorem MayHalt.mono {c e : Requester → Bool} (h : MayHalt P c s) (he : ∀ r, e r = true → c r = true) :
    MayHalt P e s where
  station x hc hm := h.station x (he _ hc) hm
  packer hc hm := h.packer (he _ hc) hm
  tailgate hc hm := h.tailgate (he _ hc) hm

/-- The packs that a stop cancels before any function stops (R166). -/
def cancelled (begun : BitVec 8) (stop : Bool) (s : State) : State :=
  if stop || s.cfg.begunFor begun .packer then clearPackPending s else s

/-- The E-Stop's share of a stop (R42). -/
def stopAll (stop : Bool) (s : State) : State := if stop then haltAll s else s

/-- The tests that follow the Faults (R57, R166). -/
def haltTail (old s : State) : State :=
  let s := if s.packer.state != old.packer.state then bladeTests s else s
  if stations.any fun st => (old.lift st).state == .dump && (s.lift st).state != .dump then servePack s
  else s

theorem haltFunctions_eq (begun : BitVec 8) (stop : Bool) (s : State) : haltFunctions begun stop s =
    haltTail s (stopAll stop (haltPairs begun (cancelled begun stop s))) := rfl

theorem cancelled_does (d : Does P s t) (begun : BitVec 8) (stop : Bool)
    (hp : P (.function .packer) ∨ t.packer.packPending = false) :
    Does P s (cancelled begun stop t) :=
  .ite (fun _ => clearPackPending_does d hp) fun _ => d

theorem haltPairs_does (d : Does P s t) {begun : BitVec 8} (h : MayHalt P (t.cfg.begunFor begun) t) :
    Does P s (haltPairs begun t) := by
  rw [haltPairs_eq]
  exact haltNamed_does d h _ _ _

theorem stopAll_does (d : Does P s t) {stop : Bool} (h : MayHalt P (fun _ => stop) t) :
    Does P s (stopAll stop t) := by
  cases stop with
  | false => exact d
  | true => exact haltNamed_does d h _ _ _

theorem haltTail_does (d : Does P s t) (hd : P .dumps) (he : P .serve) (old : State) :
    Does P s (haltTail old t) := by
  have h1 : Does P s (if t.packer.state != old.packer.state then bladeTests t else t) :=
    .ite (fun _ => bladeTests_does d hd) fun _ => d
  have h2 : ∀ v, Does P s v → Does P s (if stations.any fun st =>
      (old.lift st).state == .dump && (v.lift st).state != .dump then servePack v else v) :=
    fun v dv => .ite (fun _ => servePack_does dv he) fun _ => dv
  exact h2 _ h1

theorem cancelled_keeps {α : Type} (π : State → α) (hk : Keeps π [.packer]) (begun : BitVec 8)
    (stop : Bool) (s : State) : π (cancelled begun stop s) = π s := by
  unfold cancelled
  split
  · exact clearPackPending_keeps π hk s
  · rfl

/-- The Faults of a stop, before the tests that follow them. -/
theorem halts_does (d : Does P s t) {begun : BitVec 8} {stop : Bool}
    (hp : P (.function .packer) ∨ t.packer.packPending = false)
    (h : MayHalt P (stopped t.cfg begun stop) t) :
    Does P s (stopAll stop (haltPairs begun (cancelled begun stop t))) := by
  refine d.bind fun hr => ?_
  have d1 := cancelled_does (P := P) (.refl t) begun stop hp
  have hcfg : (cancelled begun stop t).cfg = t.cfg := cancelled_keeps _ keeps_cfg.mono begun stop t
  have d2 := haltPairs_does (begun := begun) d1 ((d1.mayHalt hr h).mono fun r hc => by
    rw [hcfg] at hc
    simp [stopped, hc])
  exact stopAll_does d2 ((d2.mayHalt hr h).mono fun r hs => by simp [stopped, hs])

theorem haltFunctions_does (d : Does P s t) {begun : BitVec 8} {stop : Bool} (hd : P .dumps)
    (he : P .serve) (hp : P (.function .packer) ∨ t.packer.packPending = false)
    (h : MayHalt P (stopped t.cfg begun stop) t) : Does P s (haltFunctions begun stop t) := by
  rw [haltFunctions_eq]
  exact haltTail_does (halts_does d hp h) hd he _

theorem stationEvent_does (d : Does P s t) (hx : P (.function (.station x))) (hd : P .dumps)
    (hs : P .start) (changed : BitVec 32) (begun : BitVec 8) (stop : Bool) :
    Does P s (stationEvent changed begun stop t x) := by
  have h1 : Does P s (if t.startPressed changed x then (cycleStart x t).2 else t) :=
    .ite (fun _ => cycleStart_does d hx hd hs) fun _ => d
  have h2 : ∀ v, Does P s v → Does P s (if v.cfg.touches changed (.station x) &&
      !barred begun stop v.cfg (.station x) then stationInputs x v else v) :=
    fun v h => .ite (fun _ => stationInputs_does h hx hd) fun _ => h
  have h3 : ∀ v, Does P s v → Does P s (if v.cfg.roleChanged changed .bladeClear &&
      !barred begun stop v.cfg (.station x) then retestBlade v x else v) :=
    fun v h => .ite (fun _ => retestBlade_does h hd x) fun _ => h
  exact h3 _ (h2 _ h1)

end

end Sys2Proof.Proofs

/-! What a handling leaves of a function that may not act: its pauses may change, and nothing else (R52, R150). -/

namespace Sys2Proof.Proofs

open Sys2Proof Sys2Proof.Machine Sys2Proof.Laws

section

variable {P : Touch → Prop} {s t u : State} {x : Station}

/-! ### A station that may not act -/

/-- A station stands as it was but for its pauses, which end its weigh run (R52, R90). -/
structure Stands (x : Station) (s t : State) : Prop where
  unpaced : (t.lift x).unpaced = (s.lift x).unpaced
  stopped : (s.lift x).phaseTimer = .stopped → (t.lift x).phaseTimer = .stopped
  began : ∀ ph limit, s.began x ph limit → t.began x ph limit
  scale : t.scale x = s.scale x ∨ t.scale x = { s.scale x with run := Run.empty }
  marker : t.marker x = s.marker x
  zero : t.zero x = s.zero x
  candidates : t.candidates x = s.candidates x
  assigned : t.tags.assigned.get x = s.tags.assigned.get x
  counts : t.tags.counts.get x = s.tags.counts.get x
  held : t.queue.heldSt.get x = s.queue.heldSt.get x
  request : t.request (.station x) = s.request (.station x)

/-- A replacement of other items than a station's. -/
theorem Stands.of_eq (hl : t.lift x = s.lift x) (hw : t.scale x = s.scale x)
    (hm : t.marker x = s.marker x) (hz : t.zero x = s.zero x)
    (ht : t.candidates x = s.candidates x ∧ t.tags.assigned.get x = s.tags.assigned.get x ∧
      t.tags.counts.get x = s.tags.counts.get x)
    (hq : t.queue.heldSt.get x = s.queue.heldSt.get x) (ha : t.arbiter = s.arbiter)
    (hc : t.cfg = s.cfg) (hy : t.sys = s.sys) : Stands x s t where
  unpaced := by rw [hl]
  stopped h := by rw [hl]; exact h
  began ph limit h := by
    obtain ⟨h1, h2, h3⟩ := h
    unfold State.began State.request State.flowReq State.grant State.now at *
    rw [hl, ha, hc, hy]
    exact ⟨h1, h2, h3⟩
  scale := .inl hw
  marker := hm
  zero := hz
  candidates := ht.1
  assigned := ht.2.1
  counts := ht.2.2
  held := hq
  request := by unfold State.request; rw [ha]

theorem Stands.refl (x : Station) (s : State) : Stands x s s :=
  .of_eq rfl rfl rfl rfl ⟨rfl, rfl, rfl⟩ rfl rfl rfl rfl

theorem Stands.trans (h : Stands x s t) (k : Stands x t u) : Stands x s u where
  unpaced := k.unpaced.trans h.unpaced
  stopped e := k.stopped (h.stopped e)
  began ph limit e := k.began ph limit (h.began ph limit e)
  scale := by
    rcases h.scale with e | e <;> rcases k.scale with f | f <;> rw [f, e]
    · exact .inl rfl
    · exact .inr rfl
    · exact .inr rfl
    · exact .inr rfl
  marker := k.marker.trans h.marker
  zero := k.zero.trans h.zero
  candidates := k.candidates.trans h.candidates
  assigned := k.assigned.trans h.assigned
  counts := k.counts.trans h.counts
  held := k.held.trans h.held
  request := k.request.trans h.request

/-- A lift after an arbitration: paced by its request and its grant. -/
theorem arbitrate_lift_paced (s : State) (x : Station) : (arbitrate s).lift x =
    (s.lift x).paced s.now s.cfg.pauseLimit (s.request (.station x)).isSome
      ((arbitrate s).grant (.station x)) := by
  have hg : (arbitrate s).grant (.station x) =
      (s.arbiter.run s.signals.capacity s.masked s.priority).grant.get (.station x) := by
    simp only [State.grant, arbitrate_arbiter]
  rw [hg]
  unfold arbitrate
  generalize hw : s.arbiter.run s.signals.capacity s.masked s.priority = a at *
  have hl : ∀ y : State, (paceTailgate (pacePacker y)).lift x = y.lift x := fun _ => rfl
  have hq : (refreshValves (s.setArbiter a)).request (.station x) = s.request (.station x) :=
    congrArg (fun f : Five (Option FlowReq) => f.get (.station x))
      ((congrArg Arbiter.req hw).symm.trans (run_req _ _ _ _))
  rw [hl, paceLifts_lift, hq]
  rfl

/-- A pause holds a phase timer with its whole limit, and lets it run on with it. -/
theorem paced_phaseTimer {now limit lim grant g : Nat} {l : Lift}
    (h : l.phaseTimer = if g = 0 then .held lim else .running (now + lim)) :
    (l.paced now limit true grant).phaseTimer =
      if grant = 0 then .held lim else .running (now + lim) := by
  unfold Lift.paced
  by_cases h0 : grant = 0
  · subst h0
    by_cases hg : g = 0
    · simp [h, hg, Timer.hold]
    · simp [h, hg, Timer.hold]
  · have hpos : 0 < grant := Nat.pos_of_ne_zero h0
    by_cases hg : g = 0
    · simp [h, h0, hg, hpos, Timer.resume]
    · simp [h, h0, hg, hpos, Timer.resume]

theorem paced_stopped {now limit grant : Nat} {r : Bool} {l : Lift} (h : l.phaseTimer = .stopped) :
    (l.paced now limit r grant).phaseTimer = .stopped := by
  unfold Lift.paced
  (repeat' split) <;> simp [h, Timer.resume, Timer.hold]

/-- An arbitration whose requests of a station are as they were. -/
theorem arbitrate_stands {a : Arbiter} (h : a.req.get (.station x) = s.request (.station x)) :
    Stands x s (arbitrate (s.setArbiter a)) where
  unpaced := arbitrate_lift Lift.unpaced paced_unpaced _ x
  stopped e := by
    rw [arbitrate_lift_paced]
    exact paced_stopped e
  began ph limit e := by
    obtain ⟨h1, h2, h3⟩ := e
    have hr : (arbitrate (s.setArbiter a)).request (.station x) =
        some (s.flowReq (.station x) ph) := by rw [arbitrate_request, ← h1]; exact h
    have hc : (arbitrate (s.setArbiter a)).cfg = s.cfg := arbitrate_keeps _ keeps_cfg.mono _
    have hy : (arbitrate (s.setArbiter a)).sys = s.sys := arbitrate_keeps _ keeps_sys.mono _
    refine ⟨hr.trans (by simp only [State.flowReq, hc]), ?_, ?_⟩
    · have hp := (arbitrate_reports (s.setArbiter a)).1 x
      beta_reduce at hp
      rw [hr] at hp
      exact hp
    · have hn : (arbitrate (s.setArbiter a)).now = s.now := congrArg Sys.now hy
      have hi : ((s.setArbiter a).request (.station x)).isSome = true := by
        rw [show (s.setArbiter a).request (.station x) = _ from h, h1]
        rfl
      rw [arbitrate_lift_paced, hi, hn]
      exact paced_phaseTimer h3
  scale := arbitrate_scale _ x
  marker := congrArg (·.get x) (arbitrate_keeps _ keeps_markers.mono _)
  zero := congrArg (·.get x) (arbitrate_keeps _ keeps_zeros.mono _)
  candidates := congrArg (fun T : Tags => T.queue.filter fun e : TagEntry => e.station == x)
    (arbitrate_keeps _ keeps_tags.mono _)
  assigned := congrArg (fun T : Tags => T.assigned.get x) (arbitrate_keeps _ keeps_tags.mono _)
  counts := congrArg (fun T : Tags => T.counts.get x) (arbitrate_keeps _ keeps_tags.mono _)
  held := congrArg (fun q : Queue => q.heldSt.get x) (arbitrate_keeps _ keeps_queue.mono _)
  request := (arbitrate_request _ _).trans h

/-- What keeps the items of every station leaves each of them standing. -/
theorem Stands.of_fields (hl : t.lifts = s.lifts) (hw : t.weigh = s.weigh) (hm : t.markers = s.markers)
    (hz : t.zeros = s.zeros) (ht : t.tags = s.tags) (hq : t.queue = s.queue)
    (ha : t.arbiter = s.arbiter) (hc : t.cfg = s.cfg) (hy : t.sys = s.sys) : Stands x s t :=
  .of_eq (congrArg (·.get x) hl) (congrArg (fun w : Weigh => w.st.get x) hw) (congrArg (·.get x) hm)
    (congrArg (·.get x) hz) ⟨congrArg (fun T : Tags => T.queue.filter fun e : TagEntry => e.station == x) ht,
      congrArg (fun T : Tags => T.assigned.get x) ht, congrArg (fun T : Tags => T.counts.get x) ht⟩
    (congrArg (fun q : Queue => q.heldSt.get x) hq) ha hc hy

theorem Touches.stands (h : Touches P s t) (hx : ¬ P (.function (.station x))) : Stands x s t := by
  have other : ∀ {y : Station}, P (.function (.station y)) → x ≠ y := fun hy e => hx (e ▸ hy)
  have plain : ∀ {v : State}, v = s → Stands x s v := fun e => e ▸ .refl x s
  cases h with
  | notice k =>
    exact .of_fields (raiseNotice_keeps _ keeps_lifts.mono _ _) (raiseNotice_keeps _ keeps_weigh.mono _ _)
      (raiseNotice_keeps _ keeps_markers.mono _ _) (raiseNotice_keeps _ keeps_zeros.mono _ _)
      (raiseNotice_keeps _ keeps_tags.mono _ _) (raiseNotice_keeps _ keeps_queue.mono _ _)
      (raiseNotice_keeps _ keeps_arbiter.mono _ _) (raiseNotice_keeps _ keeps_cfg.mono _ _)
      (raiseNotice_keeps _ keeps_sys.mono _ _)
  | dump =>
    exact .of_fields (countDump_keeps _ keeps_lifts.mono _) (countDump_keeps _ keeps_weigh.mono _)
      (countDump_keeps _ keeps_markers.mono _) (countDump_keeps _ keeps_zeros.mono _)
      (countDump_keeps _ keeps_tags.mono _) (countDump_keeps _ keeps_queue.mono _)
      (countDump_keeps _ keeps_arbiter.mono _) (countDump_keeps _ keeps_cfg.mono _)
      (countDump_keeps _ keeps_sys.mono _)
  | lift y l hy =>
    exact .of_eq (lift_setLift_other (other hy) _ _) rfl rfl rfl ⟨rfl, rfl, rfl⟩ rfl rfl rfl rfl
  | marker y m hy =>
    exact .of_eq rfl rfl (tri_get_set_ne (other hy)) rfl ⟨rfl, rfl, rfl⟩ rfl rfl rfl rfl
  | scale y w hy =>
    exact .of_eq rfl (tri_get_set_ne (other hy)) rfl rfl ⟨rfl, rfl, rfl⟩ rfl rfl rfl rfl
  | zero y z hy =>
    exact .of_eq rfl rfl rfl (tri_get_set_ne (other hy)) ⟨rfl, rfl, rfl⟩ rfl rfl rfl rfl
  | tags y T hy hT => exact .of_eq rfl rfl rfl rfl (hT x (other hy)) rfl rfl rfl rfl
  | flow r a hr ha =>
    exact arbitrate_stands (ha _ fun e => hx (e ▸ hr))
  | group g => exact arbitrate_stands rfl
  | held q hq =>
    exact .of_eq rfl rfl rfl rfl ⟨rfl, rfl, rfl⟩ ((hq x).resolve_left hx) rfl rfl rfl
  | _ => exact .of_fields rfl rfl rfl rfl rfl rfl rfl rfl rfl

theorem Does.stands (d : Does P s t) (hs : Ready P s) (hx : ¬ P (.function (.station x))) :
    Stands x s t :=
  d.of_touches hs (I := Stands x s) (.refl x s) fun _ _ h e => e.trans (h.stands hx)

/-- The items of a lift that no pause changes. -/
theorem Stands.lift (h : Stands x s t) : (t.lift x).state = (s.lift x).state ∧
    (t.lift x).wait = (s.lift x).wait ∧ (t.lift x).chargePending = (s.lift x).chargePending ∧
    (t.lift x).record = (s.lift x).record ∧ (t.lift x).holdTimer = (s.lift x).holdTimer ∧
    (t.lift x).faults = (s.lift x).faults ∧ (t.lift x).lastFault = (s.lift x).lastFault := by
  have e := h.unpaced
  unfold Lift.unpaced at e
  simp only [Lift.mk.injEq] at e
  obtain ⟨e1, -, e2, -, e3, e4, -, -, e5, -, -, -, -, -, e6, e7⟩ := e
  exact ⟨e1, e2, e3, e4, e5, e6, e7⟩

theorem Stands.state (h : Stands x s t) : (t.lift x).state = (s.lift x).state := h.lift.1

theorem Stands.wait (h : Stands x s t) : (t.lift x).wait = (s.lift x).wait := h.lift.2.1

theorem Stands.pending (h : Stands x s t) :
    (t.lift x).chargePending = (s.lift x).chargePending := h.lift.2.2.1

theorem Stands.record (h : Stands x s t) : (t.lift x).record = (s.lift x).record := h.lift.2.2.2.1

theorem Stands.faults (h : Stands x s t) : (t.lift x).faults = (s.lift x).faults :=
  h.lift.2.2.2.2.2.1

/-! ### The requests and the order of the group -/

theorem Touches.request {r : Requester} (h : Touches P s t) (hr : ¬ P (.function r)) :
    t.request r = s.request r := by
  have arb : ∀ {v : State}, v.arbiter = s.arbiter → v.request r = s.request r :=
    fun e => by simp only [State.request, e]
  cases h with
  | notice k => exact arb (raiseNotice_keeps _ keeps_arbiter.mono _ _)
  | dump => exact arb (countDump_keeps _ keeps_arbiter.mono _)
  | flow q a hq ha => exact (arbitrate_request _ _).trans (ha _ fun e => hr (e ▸ hq))
  | group g => exact arbitrate_request _ _
  | _ => rfl

theorem Does.request {r : Requester} (d : Does P s t) (hs : Ready P s) (hr : ¬ P (.function r)) :
    t.request r = s.request r :=
  d.of_touches hs (I := fun v => v.request r = s.request r) rfl fun _ _ h e => (h.request hr).trans e

theorem Touches.groupKept (h : Touches P s t) (hg : ¬ P .group) : t.arbiter.group = s.arbiter.group := by
  cases h with
  | notice k => exact congrArg Arbiter.group (raiseNotice_keeps _ keeps_arbiter.mono _ _)
  | dump => exact congrArg Arbiter.group (countDump_keeps _ keeps_arbiter.mono _)
  | flow q a hq ha e => rw [arbitrate_arbiter, run_group]; exact e
  | group g h => exact absurd h hg
  | _ => rfl

theorem Does.groupKept (d : Does P s t) (hs : Ready P s) (hg : ¬ P .group) :
    t.arbiter.group = s.arbiter.group :=
  d.of_touches hs (I := fun v => v.arbiter.group = s.arbiter.group) rfl fun _ _ h e =>
    (h.groupKept hg).trans e

/-! ### The refused Cycle Starts -/

theorem Touches.startRefusals (h : Touches P s t) (hp : ¬ P .start) (x : Station) :
    (t.lift x).startRefusals = (s.lift x).startRefusals := by
  have paced : ∀ v : State, ((arbitrate v).lift x).startRefusals = (v.lift x).startRefusals := fun v => by
    rw [arbitrate_lift_paced]
    unfold Lift.paced
    (repeat' split) <;> rfl
  have lifts : ∀ {v : State}, v.lifts = s.lifts →
      (v.lift x).startRefusals = (s.lift x).startRefusals := fun e => by simp only [State.lift, e]
  cases h with
  | notice k => exact lifts (raiseNotice_keeps _ keeps_lifts.mono _ _)
  | dump => exact lifts (countDump_keeps _ keeps_lifts.mono _)
  | lift y l hy hl =>
    rw [lift_setLift]
    split
    · rename_i e
      exact e ▸ hl.resolve_right hp
    · rfl
  | flow q a => exact paced _
  | group g => exact paced _
  | _ => rfl

theorem Does.startRefusals (d : Does P s t) (hs : Ready P s) (hp : ¬ P .start) (x : Station) :
    (t.lift x).startRefusals = (s.lift x).startRefusals :=
  d.of_touches hs (I := fun v => (v.lift x).startRefusals = (s.lift x).startRefusals) rfl
    fun _ _ h e => (h.startRefusals hp x).trans e

/-! ### The packer and the tailgate -/

theorem Touches.packerUnpaced (h : Touches P s t) (hp : ¬ P (.function .packer)) (hd : ¬ P .dumps) :
    t.packer.unpaced = s.packer.unpaced :=
  h.packerKept Packer.unpaced packer_paced_unpaced (fun _ e => absurd e hd) hp

theorem Does.packerUnpaced (d : Does P s t) (hs : Ready P s) (hp : ¬ P (.function .packer))
    (hd : ¬ P .dumps) : t.packer.unpaced = s.packer.unpaced :=
  d.of_touches hs (I := fun v => v.packer.unpaced = s.packer.unpaced) rfl fun _ _ h e =>
    (h.packerUnpaced hp hd).trans e

theorem countDump_lastFault (s : State) : (countDump s).packer.lastFault = s.packer.lastFault := by
  unfold countDump autoRequest
  dsimp only
  (repeat' split) <;> rfl

theorem Does.packerLastFault (d : Does P s t) (hs : Ready P s)
    (hp : ¬ P (.function .packer)) : t.packer.lastFault = s.packer.lastFault :=
  d.of_touches hs (I := fun v => v.packer.lastFault = s.packer.lastFault) rfl fun _ _ h e =>
    (h.packerKept Packer.lastFault
      (fun _ _ _ _ _ _ => (packer_paced_core _ _ _ _ _ _).2.2.2.2.2.2.2.2.2)
      (fun _ _ => countDump_lastFault _) hp).trans e

theorem Does.tailgateUnpaced (d : Does P s t) (hs : Ready P s) (hg : ¬ P (.function .tailgate)) :
    t.tailgate.unpaced = s.tailgate.unpaced :=
  d.of_touches hs (I := fun v => v.tailgate.unpaced = s.tailgate.unpaced) rfl fun _ _ h e =>
    (h.tailgateKept Tailgate.unpaced tailgate_paced_unpaced hg).trans e

/-! ### The Household Table -/

/-- The table's records stand, and its Waiting List keeps what it holds (R109, R111). -/
structure TableStands (T U : Table) : Prop where
  state : U.state = T.state
  journal : U.journal = T.journal
  count : U.recordCount = T.recordCount
  waiting : ∃ l, U.waiting = T.waiting ++ l

theorem TableStands.refl (T : Table) : TableStands T T :=
  ⟨rfl, rfl, rfl, [], (List.append_nil _).symm⟩

theorem TableStands.trans {T U V : Table} (h : TableStands T U) (k : TableStands U V) :
    TableStands T V := by
  obtain ⟨l, hl⟩ := h.waiting
  obtain ⟨m, hm⟩ := k.waiting
  exact ⟨k.state.trans h.state, k.journal.trans h.journal, k.count.trans h.count, l ++ m, by
    rw [hm, hl, List.append_assoc]⟩

theorem Touches.tableStands (h : Touches P s t) : TableStands s.table t.table := by
  have same : ∀ {v : State}, v.table = s.table → TableStands s.table v.table :=
    fun e => e ▸ .refl _
  cases h with
  | notice k => exact same (raiseNotice_keeps _ keeps_table.mono _ _)
  | dump => exact same (countDump_keeps _ keeps_table.mono _)
  | flow r a => exact same ((arbitrate_keeps _ keeps_table.mono _).trans rfl)
  | group g => exact same ((arbitrate_keeps _ keeps_table.mono _).trans rfl)
  | table T h1 h2 h3 h4 => exact ⟨h1, h2, h3, h4⟩
  | _ => exact .refl _

theorem Does.tableStands (d : Does P s t) (hs : Ready P s) : TableStands s.table t.table :=
  d.of_touches hs (I := fun v => TableStands s.table v.table) (.refl _) fun _ _ h e =>
    e.trans h.tableStands

end

end Sys2Proof.Proofs

/-! The notices of a handling (R196): a kind that was raised stays noticed, and one that was not stays quiet. -/

namespace Sys2Proof.Proofs

open Sys2Proof Sys2Proof.Machine Sys2Proof.Laws

/-- The spacing timer holds back all but one Notice frame of a handling (R196). -/
structure Spaced (s t : State) : Prop where
  cfg : t.cfg = s.cfg
  running : s.agent.spacing.isRunning = true → t.agent.spacing.isRunning = true
  unsent : t.agent.spacing.isRunning = false → t.agent.noticesSent = s.agent.noticesSent

section

variable {P : Touch → Prop} {s t u : State} {k : Notice} {b : Nat}

theorem oneBit_getLsbD {w i j : Nat} :
    (oneBit w i).getLsbD j = (decide (j < w) && decide (i = j)) := by
  rw [oneBit, BitVec.getLsbD_ofNat, Nat.testBit_two_pow]

theorem putBit_getLsbD {w : Nat} (m : BitVec w) (i j : Nat) (v : Bool) :
    (putBit m i v).getLsbD j = if j = i then (decide (j < w) && v) else m.getLsbD j := by
  unfold putBit
  by_cases hj : j < w
  · by_cases h : j = i
    · subst h
      cases v <;> simp [oneBit_getLsbD, hj]
    · have h' : i ≠ j := fun e => h e.symm
      cases v <;> simp [-BitVec.getLsbD_eq_getElem, BitVec.getLsbD_not, oneBit_getLsbD, hj, h, h']
  · have hz : ∀ m : BitVec w, m.getLsbD j = false := fun m => BitVec.getLsbD_of_ge _ _ (by omega)
    simp [hz, hj]

theorem putBit_other {w : Nat} {m : BitVec w} {i j : Nat} {v : Bool} (h : j ≠ i) :
    (putBit m i v).getLsbD j = m.getLsbD j := (putBit_getLsbD m i j v).trans (if_neg h)

theorem Spaced.of_eq (hc : t.cfg = s.cfg) (ha : t.agent = s.agent) : Spaced s t :=
  ⟨hc, fun h => ha ▸ h, fun _ => ha ▸ rfl⟩

theorem Spaced.trans (h : Spaced s t) (k : Spaced t u) : Spaced s u where
  cfg := k.cfg.trans h.cfg
  running e := k.running (h.running e)
  unsent e := by
    refine (k.unsent e).trans (h.unsent (Bool.eq_false_iff.mpr fun hr => ?_))
    rw [k.running hr] at e
    exact absurd e (by decide)

theorem raiseNotice_spaced (k : Notice) (s : State) : Spaced s (raiseNotice k s) := by
  have hc : (raiseNotice k s).cfg = s.cfg := raiseNotice_keeps State.cfg keeps_cfg.mono k s
  rw [raiseNotice_eq] at hc ⊢
  split at hc
  · rw [if_pos ‹_›]
    exact .of_eq rfl rfl
  · rw [if_neg ‹_›]
    split at hc
    · rw [if_pos ‹_›]
      exact ⟨hc, id, fun _ => rfl⟩
    · rw [if_neg ‹_›]
      refine ⟨hc, fun _ => by rw [sendNotice_agent]; rfl, fun h => ?_⟩
      rw [sendNotice_agent] at h
      exact Bool.noConfusion h

theorem markNotice_mono (h : s.agent.notices.getLsbD b = true) :
    (markNotice k s).agent.notices.getLsbD b = true := by
  show (putBit _ _ true).getLsbD b = true
  rw [putBit, if_pos rfl, BitVec.getLsbD_or, h, Bool.true_or]

theorem sendNotice_latched (h : s.agent.notices.getLsbD b = true)
    (hm : s.cfg.noticeModes.getLsbD b = false) :
    (sendNotice s).agent.notices.getLsbD b = true := by
  have hb : b < 16 := BitVec.lt_of_getLsbD h
  rw [sendNotice_agent]
  simp only [BitVec.getLsbD_and, BitVec.getLsbD_not, h, hm, hb, decide_true, Bool.not_false, Bool.and_self]

/-- A kind that is noticed stays so when any kind is raised. -/
theorem noticed_raise (hs : Spaced s t) (h : s.noticed t b) (k : Notice) :
    s.noticed (raiseNotice k t) b := by
  have hc : (raiseNotice k t).cfg = t.cfg := raiseNotice_keeps State.cfg keeps_cfg.mono k t
  obtain ⟨h1, h2⟩ := h
  unfold State.noticed
  rw [hc, raiseNotice_eq]
  split
  · exact ⟨h1, h2⟩
  · split
    · exact ⟨fun e => markNotice_mono (h1 e), fun e => (h2 e).imp_left markNotice_mono⟩
    · rename_i hr
      have hsent := hs.unsent (by simpa using hr)
      refine ⟨fun e => ?_, fun _ => .inr ?_⟩
      · rcases e with e | e
        · exact sendNotice_latched (markNotice_mono (h1 (.inl e))) e
        · exact absurd (hs.running e) hr
      · rw [sendNotice_agent]
        exact congrArg bump hsent

/-- A kind that is raised is noticed, whatever was raised before it. -/
theorem raiseNotice_noticed_after (hs : Spaced s t) (k : Notice) :
    s.noticed (raiseNotice k t) k.bit := by
  have hc : (raiseNotice k t).cfg = t.cfg := raiseNotice_keeps State.cfg keeps_cfg.mono k t
  have hmark := markNotice_bit k t
  unfold State.noticed
  rw [hc, raiseNotice_eq]
  split
  · rename_i hb
    exact ⟨fun _ => hb, fun _ => .inl hb⟩
  · split
    · exact ⟨fun _ => hmark, fun _ => .inl hmark⟩
    · rename_i hr
      have hsent := hs.unsent (by simpa using hr)
      refine ⟨fun e => ?_, fun _ => .inr ?_⟩
      · exact sendNotice_latched hmark (e.resolve_right fun h => hr (hs.running h))
      · rw [sendNotice_agent]
        exact congrArg bump hsent

/-- A kind that is not raised stays quiet. -/
theorem raiseNotice_quiet (h : b ≠ k.bit) : s.quiet (raiseNotice k s) b := by
  have mark : (markNotice k s).agent.notices.getLsbD b = s.agent.notices.getLsbD b := putBit_other h
  unfold State.quiet
  rw [raiseNotice_eq]
  split
  · exact id
  · split
    · exact fun e => mark.symm.trans e
    · rw [sendNotice_agent, BitVec.getLsbD_and]
      exact fun e => mark.symm.trans (Bool.and_eq_true_iff.mp e).1

/-- Whether a handling within `P` may raise the kind of a bit. -/
def mayRaise (P : Touch → Prop) (b : Nat) : Prop :=
  ∃ n : Notice, n.bit = b ∧ n ≠ .inputChange ∧ n ≠ .sensorError ∧
    (n = .packerFault → P (.function .packer))

theorem Touches.spaced (h : Touches P s t) : Spaced s t := by
  have same : t.agent = s.agent → Spaced s t := fun ha => .of_eq h.cfg ha
  cases h with
  | notice n => exact raiseNotice_spaced n s
  | dump => exact same (countDump_keeps _ keeps_agent.mono _)
  | flow r a => exact same (arbitrate_keeps _ keeps_agent.mono _)
  | group g => exact same (arbitrate_keeps _ keeps_agent.mono _)
  | _ => exact same rfl

theorem Touches.noticed (h : Touches P t u) (hs : Spaced s t) (hn : s.noticed t b) :
    s.noticed u b := by
  have same : u.agent = t.agent → s.noticed u b := fun ha => by
    unfold State.noticed
    rw [h.cfg, ha]
    exact hn
  cases h with
  | notice n => exact noticed_raise hs hn n
  | dump => exact same (countDump_keeps _ keeps_agent.mono _)
  | flow r a => exact same (arbitrate_keeps _ keeps_agent.mono _)
  | group g => exact same (arbitrate_keeps _ keeps_agent.mono _)
  | _ => exact same rfl

theorem Touches.quiet (h : Touches P t u) (hb : ¬ mayRaise P b) : t.quiet u b := by
  have same : u.agent = t.agent → t.quiet u b := fun ha e => ha ▸ e
  cases h with
  | notice n h1 h2 h3 => exact raiseNotice_quiet fun e => hb ⟨n, e.symm, h1, h2, h3⟩
  | dump => exact same (countDump_keeps _ keeps_agent.mono _)
  | flow r a => exact same (arbitrate_keeps _ keeps_agent.mono _)
  | group g => exact same (arbitrate_keeps _ keeps_agent.mono _)
  | _ => exact same rfl

theorem Does.spaced (d : Does P s t) (hr : Ready P s) : Spaced s t :=
  d.of_touches hr (I := Spaced s) (.of_eq rfl rfl) fun _ _ h e => e.trans h.spaced

/-- A kind that was raised before a handling is noticed after it. -/
theorem Does.noticed (d : Does P t u) (hr : Ready P t) (hs : Spaced s t) (hn : s.noticed t b) :
    s.noticed u b :=
  (d.of_touches hr (I := fun v => Spaced s v ∧ s.noticed v b) ⟨hs, hn⟩ fun _ _ h e =>
    ⟨e.1.trans h.spaced, h.noticed e.1 e.2⟩).2

/-- A handling leaves a kind quiet that it may not raise. -/
theorem Does.quiet (d : Does P t u) (hr : Ready P t) (hb : ¬ mayRaise P b) : t.quiet u b :=
  d.of_touches hr (I := fun v => t.quiet v b) id fun _ _ h e k => e (h.quiet hb k)

end

end Sys2Proof.Proofs

/-! What the Billing Engine's requests leave of the Request List, the Charge Queue and the store (R127 to R129,
R140): the records that stand keep their bytes, and a household keeps all but its counters. -/

namespace Sys2Proof.Proofs

open Sys2Proof Sys2Proof.Machine Sys2Proof.Laws

/-! ### Bytes of a store -/

theorem read_writeBytes_at {m : Mem} {a i : Nat} {l : List Byte} (h : m.wf = true) (hi : i < l.length) :
    (m.writeBytes a l).read (a + i) = l[i] := by
  induction l generalizing m a i with
  | nil => exact absurd hi (Nat.not_lt_zero i)
  | cons b l ih =>
    rw [Mem.writeBytes]
    cases i with
    | zero =>
      exact (read_writeBytes_other l (.inl (Nat.lt_add_one a)) (write_wf a b h)).trans
        (read_write_same a b h)
    | succ i =>
      have := ih (a := a + 1) (i := i) (write_wf a b h) (by simpa using hi)
      rw [show a + (i + 1) = a + 1 + i from by omega, this]
      rfl

theorem readBytes_congr {m m' : Mem} {a n : Nat} (h : ∀ i, i < n → m'.read (a + i) = m.read (a + i)) :
    m'.readBytes a n = m.readBytes a n := by
  induction n generalizing a with
  | zero => rfl
  | succ n ih =>
    have hrest : m'.readBytes (a + 1) n = m.readBytes (a + 1) n := ih fun i hi => by
      rw [show a + 1 + i = a + (i + 1) by omega]
      exact h _ (by omega)
    exact congrArg₂ List.cons (h 0 (Nat.succ_pos n)) hrest

theorem readBytes_take {m : Mem} (a : Nat) {k n : Nat} (h : k ≤ n) :
    (m.readBytes a n).take k = m.readBytes a k := by
  induction n generalizing a k with
  | zero => obtain rfl : k = 0 := Nat.le_zero.mp h; rfl
  | succ n ih =>
    cases k with
    | zero => rfl
    | succ k => rw [Mem.readBytes, Mem.readBytes, List.take_succ_cons, ih _ (by omega)]

/-- A field of a record that lies in its first twelve bytes. -/
theorem field_take {b : List Byte} {start n : Nat} (h : start + n ≤ 12) :
    field (b.take 12) start n = field b start n := by
  unfold field
  rw [List.drop_take, List.take_take, Nat.min_eq_left (by omega)]

theorem counters_length (c : Counters) : c.bytes.length = 20 := by
  simp [Counters.bytes, leBytes_length]

theorem recordBytes_length (r : ChargeRecord) (s : State) : (recordBytes r s).length = 32 := by
  simp only [recordBytes, ChargeRecord.bytes, List.length_append, leBytes_length]

/-! ### The households (R108, R110) -/

/-- A store that agrees with another in all of the households but their counters. -/
def SameHouseholds (m m' : Mem) : Prop := ∀ a, a < 0x60000 → a % 32 < 12 → m'.read a = m.read a

section

variable {m m' : Mem} {s t u : State}

theorem SameHouseholds.record (h : SameHouseholds m m') {p : Nat} (hp : p < 12288) :
    (m'.record p).take 12 = (m.record p).take 12 := by
  unfold Mem.record
  rw [readBytes_take _ (by omega), readBytes_take _ (by omega)]
  exact readBytes_congr fun i hi => h _ (by omega) (by omega)

theorem SameHouseholds.recTag (h : SameHouseholds m m') {p : Nat} (hp : p < 12288) :
    recTag (m'.record p) = recTag (m.record p) := by
  unfold Machine.recTag
  rw [← field_take (b := m'.record p) (by omega), h.record hp, field_take (by omega)]

theorem SameHouseholds.recSnapshot (h : SameHouseholds m m') {p : Nat} (hp : p < 12288) :
    recSnapshot (m'.record p) = recSnapshot (m.record p) := by
  have f : ∀ start n, start + n ≤ 12 → field (m'.record p) start n = field (m.record p) start n :=
    fun start n hs => by rw [← field_take hs, h.record hp, field_take hs]
  unfold Machine.recSnapshot recAccount recTariff recStatus recBin
  rw [f 5 3 (by omega), f 8 1 (by omega), f 9 1 (by omega), f 10 1 (by omega)]

theorem SameHouseholds.search (h : SameHouseholds m m') (tag n lo : Nat) {hi : Nat}
    (hh : hi ≤ 12288) : m'.search tag n lo hi = m.search tag n lo hi := by
  induction n generalizing lo hi with
  | zero => rfl
  | succ n ih =>
    unfold Mem.search
    split
    · rfl
    · dsimp only
      rw [h.recTag (p := (lo + hi) / 2) (by omega), ih _ hh, ih _ (hi := (lo + hi) / 2) (by omega)]

theorem search_lt {tag n lo hi p : Nat} (h : m.search tag n lo hi = some p) : p < hi := by
  induction n generalizing lo hi with
  | zero => exact absurd h (by simp [Mem.search])
  | succ n ih =>
    unfold Mem.search at h
    split at h
    · exact absurd h (by simp)
    · dsimp only at h
      split at h
      · simp only [Option.some.injEq] at h
        omega
      · split at h
        · exact ih h
        · have := ih h
          omega

/-- A counter access that finds a record finds one of the table (R112). -/
theorem accessResult_found {tag account p : Nat} {w : Bool} {c : Counters}
    (h : s.accessResult tag account = .found p w c) : p < s.table.recordCount := by
  unfold State.accessResult at h
  split at h
  · split at h
    · rename_i q hq
      dsimp only at h
      split at h
      · simp only [CounterAnswer.found.injEq] at h
        exact h.1 ▸ search_lt hq
      · exact absurd h (by simp)
    · exact absurd h (by simp)
  · exact absurd h (by simp)

/-! ### The bytes that a commit writes (R129) -/

/-- The store keeps its form, and the table has no more records than the household region holds. -/
abbrev booksWell (s : State) : Prop := s.store.wf = true ∧ s.table.recordCount ≤ 12288

theorem addTotal_writes (h : s.store.wf = true) (k : Total) (n : Nat) :
    (addTotal k n s).store.wf = true ∧
      ∀ a, a < 0x63000 → (addTotal k n s).store.read a = s.store.read a := by
  refine ⟨putNum_wf _ _ _ h, fun a ha => read_writeBytes_other _ (.inl ?_) h⟩
  unfold totalAddr
  omega

theorem handTotals_writes (h : s.store.wf = true) (r : ChargeRecord) :
    (handTotals r s).store.wf = true ∧
      ∀ a, a < 0x63000 → (handTotals r s).store.read a = s.store.read a := by
  have step : ∀ {v : State}, (v.store.wf = true ∧ ∀ a, a < 0x63000 → v.store.read a = s.store.read a) →
      ∀ k n, (addTotal k n v).store.wf = true ∧
        ∀ a, a < 0x63000 → (addTotal k n v).store.read a = s.store.read a := fun hv k n =>
    ⟨(addTotal_writes hv.1 k n).1, fun a ha => ((addTotal_writes hv.1 k n).2 a ha).trans (hv.2 a ha)⟩
  have h1 := step (v := s) ⟨h, fun _ _ => rfl⟩ r.outcome.total 1
  unfold handTotals
  dsimp only
  (repeat' split)
  · exact step h1 _ _
  · exact h1
  · exact step (step h1 _ _) _ _
  · exact step h1 _ _

theorem writeBack_writes (h : booksWell s) (k : BillKind) (r : ChargeRecord) (p : Price)
    {a : Option CounterAnswer} (ha : ∀ pos w c, a = some (.found pos w c) → pos < s.table.recordCount) :
    (writeBack k r p a s).store.wf = true ∧
      ∀ x, 0x60000 ≤ x ∨ x % 32 < 12 → (writeBack k r p a s).store.read x = s.store.read x := by
  obtain ⟨hw, hc⟩ := h
  unfold writeBack
  split
  · rename_i pos w c
    have hp := ha pos w c rfl
    rw [setStore_store, Mem.putCounters]
    generalize hl : Counters.bytes _ = l
    have hlen : l.length = 20 := hl ▸ counters_length _
    refine ⟨writeBytes_wf _ _ hw, fun x hx => read_writeBytes_other _ ?_ hw⟩
    omega
  · exact ⟨hw, fun _ _ => rfl⟩

theorem recordStore_writes (h : s.store.wf = true) (r : ChargeRecord) :
    (recordStore r s).wf = true ∧
    (∀ x, x < tailSlot s ∨ tailSlot s + 32 ≤ x → (recordStore r s).read x = s.store.read x) ∧
    ∀ i (hi : i < (recordBytes r s).length),
      (recordStore r s).read (tailSlot s + i) = (recordBytes r s)[i] := by
  have hl : (recordBytes r s).length = 32 := recordBytes_length r s
  unfold recordStore
  generalize recordBytes r s = l at hl ⊢
  generalize tailSlot s = a
  rw [← hl]
  exact ⟨writeBytes_wf _ _ h, fun x hx => read_writeBytes_other _ hx h, fun i hi =>
    read_writeBytes_at h hi⟩

end

end Sys2Proof.Proofs

/-! What a request at the Billing Engine comes to in one handling: it waits in the list, or its record is
committed at the tail, where it stays (R127, R129, R140). -/

namespace Sys2Proof.Proofs

open Sys2Proof Sys2Proof.Machine Sys2Proof.Laws

section

variable {s t u : State} {n m : Nat}

/-! ### What stands in the books -/

/-- At most `n` records are committed on the way from `s` to `t`. What waits goes on waiting, the records
that stand keep their slots, and a household keeps all but its counters. -/
structure Ledger (n : Nat) (s t : State) : Prop where
  rests : billingRests s.billing → billingRests t.billing
  waits : s.billing.waiting ≠ none →
    t.billing.waiting ≠ none ∧ ∀ q ∈ s.billing.list, q ∈ t.billing.list
  free : s.billing.waiting = none → s.table.moving = false → t.billing.waiting = none
  table : TableStands s.table t.table
  head : t.queue.head = s.queue.head
  grows : s.queue.count ≤ t.queue.count
  bound : t.queue.count ≤ s.queue.count + n
  wf : booksWell s → t.store.wf = true
  slots : booksWell s → ∀ k, k < s.queue.count → t.queue.count ≤ k + 256 → ∀ i, i < 32 →
    t.store.read (slotBase ((s.queue.head + k) % 256) + i) =
      s.store.read (slotBase ((s.queue.head + k) % 256) + i)
  households : booksWell s → SameHouseholds s.store t.store

theorem TableStands.moving (h : TableStands s.table t.table) : t.table.moving = s.table.moving := by
  unfold Table.moving Table.busy
  rw [h.state, h.journal]

theorem TableStands.booksWell (h : TableStands s.table t.table) (hs : booksWell s)
    (hw : t.store.wf = true) : booksWell t := ⟨hw, h.count ▸ hs.2⟩

theorem Ledger.books (h : Ledger n s t) (hs : booksWell s) : booksWell t := h.table.booksWell hs (h.wf hs)

/-- A handling that commits nothing, and writes no byte below the totals. -/
theorem Ledger.of_writes (hb : t.billing = s.billing) (ht : TableStands s.table t.table)
    (hh : t.queue.head = s.queue.head) (hc : t.queue.count = s.queue.count)
    (hw : s.store.wf = true → t.store.wf = true ∧ ∀ a, a < 0x63000 → t.store.read a = s.store.read a) :
    Ledger 0 s t where
  rests h := by rw [hb]; exact h
  waits h := by rw [hb]; exact ⟨h, fun _ hq => hq⟩
  free h _ := by rw [hb]; exact h
  table := ht
  head := hh
  grows := hc.ge
  bound := hc.le
  wf h := (hw h.1).1
  slots h k _ _ i hi := (hw h.1).2 _ (by unfold slotBase; omega)
  households h a ha _ := (hw h.1).2 a (by omega)

theorem Ledger.of_same (hb : t.billing = s.billing) (ht : t.table = s.table) (hq : t.queue = s.queue)
    (hs : t.store = s.store) : Ledger 0 s t :=
  .of_writes hb (ht ▸ .refl _) (congrArg Queue.head hq) (congrArg Queue.count hq) fun h => by
    rw [hs]
    exact ⟨h, fun _ _ => rfl⟩

theorem Ledger.refl (s : State) : Ledger 0 s s := .of_same rfl rfl rfl rfl

theorem Ledger.trans (h : Ledger n s t) (k : Ledger m t u) : Ledger (n + m) s u where
  rests e := k.rests (h.rests e)
  waits e := by
    obtain ⟨h1, h2⟩ := h.waits e
    obtain ⟨h3, h4⟩ := k.waits h1
    exact ⟨h3, fun q hq => h4 q (h2 q hq)⟩
  free e hm := k.free (h.free e hm) (h.table.moving.trans hm)
  table := h.table.trans k.table
  head := k.head.trans h.head
  grows := h.grows.trans k.grows
  bound := by have := h.bound; have := k.bound; omega
  wf e := k.wf (h.books e)
  slots e j hj hu i hi := by
    have h1 := h.slots e j hj (k.grows.trans hu) i hi
    have h2 := k.slots (h.books e) j (hj.trans_le h.grows) hu i hi
    rw [h.head] at h2
    exact h2.trans h1
  households e a ha hl := (k.households (h.books e) a ha hl).trans (h.households e a ha hl)

theorem Ledger.mono (h : Ledger n s t) (hn : n ≤ m) : Ledger m s t :=
  { h with bound := h.bound.trans (by omega) }

/-- A Keeps that sees the books alone. -/
theorem Ledger.of_keeps {f : State → State}
    (h : ∀ {α : Type} (π : State → α), Keeps π [.arb, .agent, .body, .control, .lifts, .markers,
      .weigh, .zeros, .tags, .arbiter, .packer, .tailgate, .clock, .payload] → π (f s) = π s) :
    Ledger 0 s (f s) :=
  .of_same (h _ keeps_billing.mono) (h _ keeps_table.mono) (h _ keeps_queue.mono) (h _ keeps_store.mono)

/-! ### The books after a record -/

theorem bookRequest_eq (q : BillReq) (r : ChargeRecord) (p : Price) (below : Bool)
    (a : Option CounterAnswer) (s : State) : ∃ v : State,
    (∀ {α : Type} (π : State → α), Keeps π [.agent, .body, .control, .markers, .tailgate, .payload] →
      π v = π (commitRecord q.holder r (writeBack q.kind r p a s))) ∧
    bookRequest q r p below a s = countServed a p.capped (handTotals r v) := by
  refine ⟨_, fun π hk => ?_, rfl⟩
  rw [handPayload_keeps π hk.mono]
  split
  · rw [raiseNotice_keeps π hk.mono, commitMarker_keeps π hk.mono]
  · rw [commitMarker_keeps π hk.mono]

/-- An answer that found a record found one of the table. -/
abbrev answerFits (s : State) (a : Option CounterAnswer) : Prop :=
  ∀ pos w c, a = some (.found pos w c) → pos < s.table.recordCount

/-- The queue and the lists after a record. -/
theorem bookRequest_frame (q : BillReq) (r : ChargeRecord) (p : Price) (below : Bool)
    (a : Option CounterAnswer) (s : State) :
    (bookRequest q r p below a s).billing.waiting = s.billing.waiting ∧
    (bookRequest q r p below a s).billing.list = s.billing.list ∧
    (bookRequest q r p below a s).table = s.table ∧
    (bookRequest q r p below a s).queue.head = s.queue.head ∧
    (bookRequest q r p below a s).queue.count = s.queue.count + 1 ∧
    (bookRequest q r p below a s).queue.heldSt = (s.queue.setHeld q.holder false).heldSt := by
  obtain ⟨v, hv, e⟩ := bookRequest_eq q r p below a s
  have hb : v.billing = s.billing := by
    rw [hv _ keeps_billing.mono, commitRecord_keeps _ keeps_billing.mono,
      writeBack_keeps _ keeps_billing.mono]
  have ht : v.table = s.table := by
    rw [hv _ keeps_table.mono, commitRecord_keeps _ keeps_table.mono, writeBack_keeps _ keeps_table.mono]
  have hw : (writeBack q.kind r p a s).queue = s.queue := writeBack_keeps _ keeps_queue.mono _ _ _ _ _
  have hq := hv _ keeps_queue.mono
  rw [commitRecord_eq, setQueue_queue, hw] at hq
  have hq' : (bookRequest q r p below a s).queue = v.queue := by
    rw [e, countServed_keeps _ keeps_queue.mono, handTotals_keeps _ keeps_queue.mono]
  have hb' : (handTotals r v).billing = s.billing := by rw [handTotals_keeps _ keeps_billing.mono, hb]
  refine ⟨?_, ?_, ?_, ?_, ?_, ?_⟩
  · rw [e, ← hb']; rfl
  · rw [e, ← hb']; rfl
  · rw [e, countServed_keeps _ keeps_table.mono, handTotals_keeps _ keeps_table.mono, ht]
  · rw [hq', hq]; cases q.holder <;> rfl
  · rw [hq', hq]
  · rw [hq', hq]

/-- The bytes of the store after a record. -/
theorem bookRequest_store (q : BillReq) (r : ChargeRecord) (p : Price) (below : Bool)
    {a : Option CounterAnswer} (ha : answerFits s a) (hs : booksWell s) :
    (bookRequest q r p below a s).store.wf = true ∧
    SameHouseholds s.store (bookRequest q r p below a s).store ∧
    (∀ x, 0x60000 ≤ x → x < 0x63000 → x < tailSlot s ∨ tailSlot s + 32 ≤ x →
      (bookRequest q r p below a s).store.read x = s.store.read x) ∧
    ∃ v : State, ∀ i (hi : i < (recordBytes r v).length),
      (bookRequest q r p below a s).store.read (tailSlot s + i) = (recordBytes r v)[i] := by
  obtain ⟨v, hv, e⟩ := bookRequest_eq q r p below a s
  have hw : (writeBack q.kind r p a s).queue = s.queue := writeBack_keeps _ keeps_queue.mono _ _ _ _ _
  have hslot : tailSlot (writeBack q.kind r p a s) = tailSlot s := by unfold tailSlot; rw [hw]
  have hlow : 0x60000 ≤ tailSlot s ∧ tailSlot s + 32 ≤ 0x63000 := by
    have : (s.queue.head + s.queue.count) % 256 < 256 := Nat.mod_lt _ (by decide)
    unfold tailSlot slotBase Config.queueSlots
    omega
  obtain ⟨b1, b2⟩ := writeBack_writes hs q.kind r p ha
  obtain ⟨c1, c2, c3⟩ := recordStore_writes b1 r
  rw [hslot] at c2 c3
  have hstore : v.store = recordStore r (writeBack q.kind r p a s) := by
    rw [hv _ keeps_store.mono, commitRecord_eq, setQueue_store, setClock_store, setStore_store]
  rw [← hstore] at c1 c2 c3
  obtain ⟨d1, d2⟩ := handTotals_writes c1 r
  rw [e, countServed_keeps State.store keeps_store.mono]
  refine ⟨d1, fun x hx hm => ?_, fun x h1 h2 h3 => ?_, writeBack q.kind r p a s, fun i hi => ?_⟩
  · rw [d2 x (by omega), c2 x (by omega), b2 x (.inr hm)]
  · rw [d2 x h2, c2 x h3, b2 x (.inl h1)]
  · rw [← c3 i hi]
    have hlen := recordBytes_length r (writeBack q.kind r p a s)
    exact d2 _ (by omega)

/-- Two slots of the ring are the same slot or lie apart. -/
theorem slotBase_apart {head c k i : Nat} (hk : k < c) (hc : c < k + 256) (hi : i < 32) :
    slotBase ((head + k) % 256) + i < slotBase ((head + c) % 256) ∨
      slotBase ((head + c) % 256) + 32 ≤ slotBase ((head + k) % 256) + i := by
  have h : (head + k) % 256 ≠ (head + c) % 256 := by omega
  unfold slotBase
  omega

theorem bookRequest_ledger (q : BillReq) (r : ChargeRecord) (p : Price) (below : Bool)
    {a : Option CounterAnswer} (ha : answerFits s a) : Ledger 1 s (bookRequest q r p below a s) := by
  obtain ⟨h1, h2, h3, h4, h5, -⟩ := bookRequest_frame q r p below a s
  refine ⟨?_, ?_, ?_, h3 ▸ .refl _, h4, by omega, by omega, fun e => ?_, fun e k hk hu i hi => ?_,
    fun e => ?_⟩
  · unfold billingRests
    rw [h1, h2]
    exact id
  · rw [h1, h2]
    exact fun h => ⟨h, fun _ hq => hq⟩
  · rw [h1]
    exact fun h _ => h
  · exact (bookRequest_store q r p below ha e).1
  · obtain ⟨-, -, hx, -⟩ := bookRequest_store q r p below ha e
    have hm : (s.queue.head + k) % 256 < 256 := Nat.mod_lt _ (by decide)
    refine hx _ ?_ ?_ (slotBase_apart hk (by omega) hi) <;> unfold slotBase <;> omega
  · exact (bookRequest_store q r p below ha e).2.1

/-! ### A request that is made (R127) -/

theorem report_ledger (h : Holder) (s : State) : Ledger 0 s (report h s) :=
  .of_keeps fun π hk => report_keeps π hk.mono h s

/-- A request made at a resting engine waits for the table, or its record is committed. -/
inductive Made (q : BillReq) (s : State) : State → Prop
  | waits (v : State) : v.billing.waiting ≠ none → q ∈ v.billing.list →
      (∀ {α : Type} (π : State → α), Keeps π [.billing, .table] → π v = π s) →
      Ledger 0 s v → (s.billing.waiting = none → s.table.moving = true) → Made q s v
  | done (v w : State) (r : ChargeRecord) (p : Price) (below : Bool) (a : Option CounterAnswer) :
      s.billing.waiting = none → answerFits v a →
      (∀ {α : Type} (π : State → α), Keeps π [.billing, .table] → π v = π s) → Ledger 0 s v →
      r = w.recordOf q (q.figures s.cfg) a → Made q s (finishRequest q r p below a v)

theorem made_completed {q : BillReq} (h : s.billing.waiting = none) {l : List BillReq}
    (hb : l = []) {T : Table} (hT : TableStands s.table T) {a : Option CounterAnswer}
    (ha : ∀ pos w c, a = some (.found pos w c) → pos < s.table.recordCount) (hl : s.billing.list = []) :
    Made q s (completeRequest q (q.figures s.cfg) a
      ((s.setTable T).setBilling { s.billing with list := q :: l })) := by
  rw [completeRequest_eq]
  refine .done _ ((s.setTable T).setBilling { s.billing with list := q :: l }) _ _ _ _ h ?_ ?_ ?_ rfl
  · intro pos w c e
    exact hT.count ▸ ha pos w c e
  · intro α π hk
    simp only [hk.billing, hk.table]
  · refine .of_writes ?_ hT rfl rfl fun h => ⟨h, fun _ _ => rfl⟩
    subst hb
    rw [setBilling_billing, ← h]
    show ({ s.billing with list := [], waiting := s.billing.waiting } : Billing) = s.billing
    rw [← hl]

theorem countTable_stands (f : TableCounts → TableCounts) :
    TableStands s.table (s.countTable f).table := ⟨rfl, rfl, rfl, [], (List.append_nil _).symm⟩

/-- A resting engine takes a request (R127, R129). -/
theorem makeRequest_made {q : BillReq} (hr : billingRests s.billing) :
    Made q s (makeRequest q s) := by
  by_cases hw : s.billing.waiting = none
  · have hl := hr hw
    rw [makeRequest_serves hw hl]
    unfold serveHead
    dsimp only
    split
    · exact made_completed hw rfl (.refl s.table) nofun hl
    · rename_i h _
      split
      · rename_i hm
        refine .waits _ (by simp) (by simp) (fun π hk => by simp only [hk.billing, hk.table]) ?_
          fun _ => hm
        exact {
          rests := fun _ => nofun
          waits := fun e => absurd hw e
          free := fun _ e => absurd (hm.symm.trans e) (by decide)
          table := ⟨rfl, rfl, rfl, _, rfl⟩
          head := rfl
          grows := le_rfl
          bound := le_rfl
          wf := fun e => e.1
          slots := fun _ _ _ _ _ _ => rfl
          households := fun _ _ _ _ => rfl }
      · exact made_completed (T := (countAccess _ s).table) hw rfl (countTable_stands _)
          (fun pos w c e => accessResult_found (Option.some.inj e)) hl
  · rw [makeRequest_waits hw]
    refine .waits _ hw (by simp) (fun π hk => by simp only [hk.billing]) ?_ fun h => absurd h hw
    exact {
      rests := fun _ e => absurd e hw
      waits := fun e => ⟨e, fun _ h => List.mem_append_left _ h⟩
      free := fun e => absurd e hw
      table := .refl _
      head := rfl
      grows := le_rfl
      bound := le_rfl
      wf := fun e => e.1
      slots := fun _ _ _ _ _ _ => rfl
      households := fun _ _ _ _ => rfl }

theorem Made.ledger {q : BillReq} (h : Made q s t) : Ledger 1 s t := by
  cases h with
  | waits v h1 h2 h3 h4 => exact h4.mono (Nat.zero_le 1)
  | done v w r p below a h1 ha h2 h4 =>
    exact (h4.trans (bookRequest_ledger q r p below ha)).trans (report_ledger q.holder _)

theorem makeRequest_ledger {q : BillReq} (hr : billingRests s.billing) :
    Ledger 1 s (makeRequest q s) := (makeRequest_made hr).ledger

end

end Sys2Proof.Proofs

/-! How many records the operations of one group read can commit (R36, R127). -/

namespace Sys2Proof.Proofs

open Sys2Proof Sys2Proof.Machine Sys2Proof.Laws

section

variable {s t u : State} {n m : Nat} {x : Station}

/-! ### The faults (R65, R175) -/

theorem Ledger.then_request (h : Ledger 0 s t) (hr : billingRests s.billing) (q : BillReq) :
    Ledger 1 s (makeRequest q t) := h.trans (makeRequest_ledger (h.rests hr))

theorem onRecord_ledger (f : LiftRecord → LiftRecord) : Ledger 0 s (s.onRecord x f) :=
  .of_same rfl rfl rfl rfl

theorem faultRequest_ledger (hr : billingRests s.billing) : Ledger 1 s (faultRequest x s) := by
  unfold faultRequest
  split
  · exact (Ledger.refl s).mono (Nat.zero_le 1)
  · split
    · exact (Ledger.refl s).mono (Nat.zero_le 1)
    · exact (onRecord_ledger _).then_request hr _

/-- What a station does as it faults, before it makes its request (R65). -/
def beforeFaultRequest (x : Station) (s : State) : State :=
  faultWeighing (s.lift x).state x (releaseRequest (.station x) (s.setLift x { s.lift x with
    state := .fault, paused := false, wait := .none, sub := .none, chargePending := false
    phaseTimer := .stopped, pauseTimer := .stopped, holdTimer := .stopped, seqTimer := .stopped }))

/-- What a station that has made its fault request does (R65, R196). -/
def afterFaultRequest (x : Station) (c : StationFault) (s : State) : State :=
  raiseNotice .stationFault (s.setLift x { s.lift x with
    faults := bump (s.lift x).faults, lastFault := some c })

theorem haltStation_eq (x : Station) (c : StationFault) (s : State) :
    haltStation x c s = afterFaultRequest x c (faultRequest x (beforeFaultRequest x s)) := rfl

theorem beforeFaultRequest_keeps {α : Type} (π : State → α)
    (hk : Keeps π [.arb, .lifts, .arbiter, .weigh]) (x : Station) (s : State) :
    π (beforeFaultRequest x s) = π s := by
  unfold beforeFaultRequest
  rw [faultWeighing_keeps π hk.mono, releaseRequest_keeps π hk.mono]
  exact hk.lifts (by decide) s _

theorem afterFaultRequest_keeps {α : Type} (π : State → α)
    (hk : Keeps π [.agent, .body, .control, .lifts]) (x : Station) (c : StationFault) (s : State) :
    π (afterFaultRequest x c s) = π s := by
  unfold afterFaultRequest
  rw [raiseNotice_keeps π hk.mono]
  exact hk.lifts (by decide) s _

theorem haltStation_ledger (hr : billingRests s.billing) (c : StationFault) :
    Ledger 1 s (haltStation x c s) := by
  have h1 : Ledger 0 s (beforeFaultRequest x s) :=
    .of_keeps fun π hk => beforeFaultRequest_keeps π hk.mono x s
  have h2 := h1.trans (faultRequest_ledger (x := x) (h1.rests hr))
  exact h2.trans (.of_keeps fun π hk => afterFaultRequest_keeps π hk.mono x c _)

theorem tailgateHalted_keeps {α : Type} (π : State → α)
    (hk : Keeps π [.arb, .agent, .body, .control, .tailgate, .arbiter]) (c : TailgateFault) (s : State) :
    π (tailgateHalted c s) = π s := by
  unfold tailgateHalted
  rw [raiseNotice_keeps π hk.mono, hk.tailgate, releaseRequest_keeps π hk.mono, hk.tailgate]

theorem tailgateFault_ledger (hr : billingRests s.billing) (c : TailgateFault) :
    Ledger 1 s (tailgateFault c s) := by
  have h1 : Ledger 0 s (tailgateHalted c s) :=
    .of_keeps fun π hk => tailgateHalted_keeps π hk.mono c s
  rw [tailgateFault_eq]
  split
  · exact h1.then_request hr _
  · exact h1.mono (Nat.zero_le 1)

theorem foldl_ledger {β : Type} {f : State → β → State}
    (h : ∀ t b, billingRests t.billing → Ledger n t (f t b)) (l : List β)
    (hr : billingRests s.billing) : Ledger (n * l.length) s (l.foldl f s) := by
  induction l generalizing s with
  | nil => exact .refl s
  | cons b l ih =>
    have h1 := h s b hr
    exact (h1.trans (ih (h1.rests hr))).mono (by rw [List.length_cons, Nat.mul_succ]; omega)

theorem Ledger.ite {c : Prop} [Decidable c] (h : c → Ledger n s t) (k : ¬ c → Ledger n s u) :
    Ledger n s (if c then t else u) := by
  split
  · exact h ‹_›
  · exact k ‹_›

theorem stationHalt_ledger (hr : billingRests s.billing) (c : Requester → Bool) (f : StationFault)
    (y : Station) : Ledger 1 s (stationHalt c f s y) :=
  .ite (fun _ => haltStation_ledger hr f) fun _ => (Ledger.refl s).mono (Nat.zero_le 1)

theorem packerHalt_ledger (c : Requester → Bool) (f : PackerFault) : Ledger 0 s (packerHalt c f s) :=
  .ite (fun _ => .of_keeps fun π hk => haltPacker_keeps π hk.mono f s) fun _ => .refl s

theorem tailgateHalt_ledger (hr : billingRests s.billing) (c : Requester → Bool) (f : TailgateFault) :
    Ledger 1 s (tailgateHalt c f s) :=
  .ite (fun _ => tailgateFault_ledger hr f) fun _ => (Ledger.refl s).mono (Nat.zero_le 1)

theorem stationHalts_ledger (hr : billingRests s.billing) (c : Requester → Bool) (f : StationFault)
    (l : List Station) : Ledger l.length s (l.foldl (stationHalt c f) s) :=
  (foldl_ledger (fun _ y ht => stationHalt_ledger ht c f y) l hr).mono (by omega)

theorem haltNamed_ledger (hr : billingRests s.billing) (c : Requester → Bool) (f1 : StationFault)
    (f2 : PackerFault) (f3 : TailgateFault) : Ledger 4 s (haltNamed c f1 f2 f3 s) := by
  have h12 := (stationHalts_ledger hr c f1 stations).trans (packerHalt_ledger c f2)
  exact h12.trans (tailgateHalt_ledger (h12.rests hr) c f3)

theorem haltPairs_ledger (hr : billingRests s.billing) (begun : BitVec 8) :
    Ledger 4 s (haltPairs begun s) := by
  rw [haltPairs_eq]
  exact haltNamed_ledger hr _ _ _ _

theorem stopAll_ledger (hr : billingRests s.billing) (stop : Bool) : Ledger 4 s (stopAll stop s) := by
  cases stop with
  | false => exact (Ledger.refl s).mono (Nat.zero_le 4)
  | true => exact haltNamed_ledger hr (fun _ => true) .eStop .eStop .eStop

theorem cancelled_ledger (begun : BitVec 8) (stop : Bool) : Ledger 0 s (cancelled begun stop s) :=
  .of_keeps fun π hk => cancelled_keeps π hk.mono begun stop s

theorem haltTail_ledger (old s : State) : Ledger 0 s (haltTail old s) := by
  have h1 : Ledger 0 s (if s.packer.state != old.packer.state then bladeTests s else s) :=
    .ite (fun _ => .of_keeps fun π hk => bladeTests_keeps π hk.mono s) fun _ => .refl s
  have h2 : ∀ v, Ledger 0 v (if stations.any fun st =>
      (old.lift st).state == .dump && (v.lift st).state != .dump then servePack v else v) := fun v =>
    .ite (fun _ => .of_keeps fun π hk => servePack_keeps π hk.mono v) fun _ => .refl v
  exact h1.trans (h2 _)

theorem haltFunctions_ledger (hr : billingRests s.billing) (begun : BitVec 8) (stop : Bool) :
    Ledger 8 s (haltFunctions begun stop s) := by
  have h1 := cancelled_ledger (s := s) begun stop
  have h2 := h1.trans (haltPairs_ledger (h1.rests hr) begun)
  rw [haltFunctions_eq]
  exact (h2.trans (stopAll_ledger (h2.rests hr) stop)).trans (haltTail_ledger s _)

/-! ### The phases of a station (R48, R54 to R66) -/

/-- Engage and what follows it touch the table's Waiting List and counts, and no other book. -/
theorem Ledger.of_lookup (d : Does (fun _ => True) s t) (hb : t.billing = s.billing)
    (hq : t.queue = s.queue) (hs : t.store = s.store) : Ledger 0 s t :=
  .of_writes hb (d.tableStands ⟨fun _ _ => .inl trivial,
    .inr ⟨fun _ _ => trivial, trivial, trivial⟩, fun _ => .inl ⟨trivial, trivial⟩, .inl trivial⟩)
    (congrArg _ hq) (congrArg _ hq) fun h => by
      rw [hs]
      exact ⟨h, fun _ _ => rfl⟩

theorem endEngage_ledger : Ledger 0 s (endEngage x s) :=
  .of_lookup (endEngage_does (.refl s) trivial trivial) (endEngage_keeps _ keeps_billing.mono _ _)
    (endEngage_keeps _ keeps_queue.mono _ _) (endEngage_keeps _ keeps_store.mono _ _)

theorem enterEngage_ledger : Ledger 0 s (enterEngage x s) :=
  .of_lookup (enterEngage_does (.refl s) trivial trivial) (enterEngage_keeps _ keeps_billing.mono _ _)
    (enterEngage_keeps _ keeps_queue.mono _ _) (enterEngage_keeps _ keeps_store.mono _ _)

theorem acceptStart_ledger : Ledger 0 s (acceptStart x s) := by
  have h1 : Ledger 0 s (addTotal .liftsStarted 1 (reserve (.station x) s)) :=
    .of_writes rfl (.refl _) rfl rfl fun h => addTotal_writes (s := reserve (.station x) s) h _ _
  have h2 : ∀ v l, Ledger 0 v (applyPendingZero x (writeMarker x .started (v.setLift x l))) :=
    fun v l => (Ledger.of_same rfl rfl rfl rfl : Ledger 0 v (v.setLift x l)).trans
      (.of_keeps (f := fun v => applyPendingZero x (writeMarker x .started v)) fun π hk => by
        rw [applyPendingZero_keeps π hk.mono, writeMarker_keeps π hk.mono])
  exact (h1.trans (h2 _ _)).trans enterEngage_ledger

theorem cycleStart_ledger : Ledger 0 s (cycleStart x s).2 := by
  unfold cycleStart
  split
  · exact .refl s
  · split
    · exact .of_same rfl rfl rfl rfl
    · exact acceptStart_ledger

/-- What Lower's end does before its request (R62). -/
def beforeCharge (x : Station) (s : State) : State :=
  let s := releaseRequest (.station x) ((fixTare x s).setLift x
    { (fixTare x s).lift x with phaseTimer := .stopped })
  s.setLift x { s.lift x with chargePending := true }

theorem endLower_eq (x : Station) (s : State) : endLower x s =
    match ((beforeCharge x s).lift x).record with
    | none => beforeCharge x s
    | some r => makeRequest ⟨.station x, .charge r⟩
        ((beforeCharge x s).onRecord x fun r => { r with requested := true }) := rfl

theorem beforeCharge_keeps {α : Type} (π : State → α)
    (hk : Keeps π [.arb, .lifts, .arbiter, .weigh]) (x : Station) (s : State) :
    π (beforeCharge x s) = π s := by
  unfold beforeCharge State.setLift
  rw [hk.lifts, releaseRequest_keeps π hk.mono, hk.lifts, fixTare_keeps π hk.mono]

theorem endLower_ledger (hr : billingRests s.billing) : Ledger 1 s (endLower x s) := by
  have h1 : Ledger 0 s (beforeCharge x s) :=
    .of_keeps fun π hk => beforeCharge_keeps π hk.mono x s
  rw [endLower_eq]
  split
  · exact h1.mono (Nat.zero_le 1)
  · exact (h1.trans (onRecord_ledger _)).then_request hr _

theorem stationInputs_ledger (hr : billingRests s.billing) : Ledger 1 s (stationInputs x s) := by
  have idle := (Ledger.refl s).mono (Nat.zero_le 1)
  have up : ∀ {v}, Ledger 0 s v → Ledger 1 s v := fun h => h.mono (Nat.zero_le 1)
  unfold stationInputs
  split
  · exact .ite (fun _ => up endEngage_ledger) fun _ => idle
  · exact .ite (fun _ => up (.of_keeps fun π hk => endRaise_keeps π hk.mono _ _)) fun _ => idle
  · exact .ite (fun _ => endLower_ledger hr) fun _ => idle
  · exact .ite (fun _ => up (.of_keeps fun π hk => endRelease_keeps π hk.mono _ _)) fun _ => idle
  · exact .ite (fun _ => up (.of_keeps fun π hk => endHoming_keeps π hk.mono _ _)) fun _ => idle
  · exact idle

theorem stationEvent_ledger (hr : billingRests s.billing) (changed : BitVec 32) (begun : BitVec 8)
    (stop : Bool) : Ledger 1 s (stationEvent changed begun stop s x) := by
  have h1 : Ledger 0 s (if s.startPressed changed x then (cycleStart x s).2 else s) :=
    .ite (fun _ => cycleStart_ledger) fun _ => .refl s
  have h2 : ∀ v, billingRests v.billing → Ledger 1 v (if v.cfg.touches changed (.station x) &&
      !barred begun stop v.cfg (.station x) then stationInputs x v else v) :=
    fun v hv => .ite (fun _ => stationInputs_ledger hv) fun _ => (Ledger.refl v).mono (Nat.zero_le 1)
  have h3 : ∀ v, Ledger 0 v (if v.cfg.roleChanged changed .bladeClear &&
      !barred begun stop v.cfg (.station x) then retestBlade v x else v) :=
    fun v => .ite (fun _ => .of_keeps fun π hk => retestBlade_keeps π hk.mono v x) fun _ => .refl v
  exact (h1.trans (h2 _ (h1.rests hr))).trans (h3 _)

theorem packerInputs_ledger : Ledger 0 s (packerInputs s) :=
  .of_keeps fun π hk => packerInputs_keeps π hk.mono s

theorem tailgateInputs_ledger : Ledger 0 s (tailgateInputs s) :=
  .of_keeps fun π hk => tailgateInputs_keeps π hk.mono s

end

end Sys2Proof.Proofs

/-! A group read as three stages: the samples, the announcement of what changed, and the owners' handling
(R32 to R36). -/

namespace Sys2Proof.Proofs

open Sys2Proof Sys2Proof.Machine Sys2Proof.Laws

/-! ### The stages of a group read -/

/-- The part with the lines of a group as they are driven. -/
def driven (lines : Byte) (s : State) : State :=
  s.setSys { s.sys with
    contacts := (s.sys.contacts &&& ~~~ (BitVec.ofNat 32 (0xFF * 2 ^ (8 * s.scanner.pointer)))) |||
      BitVec.ofNat 32 (lines.toNat * 2 ^ (8 * s.scanner.pointer)) }

/-- The part once a group is sampled and filtered (R32, R33). -/
def sampled (lines : Byte) (e : Nat) (s : State) : State :=
  ((driven lines s).reach e).setScanner { sampleGroup s.cfg lines s.scanner with
    nextRead := .running (e + Config.groupTime) }

/-- What follows the samples: the published changes, or Scan Ready. -/
def afterSamples (full : Bool) (u : State) : State :=
  if u.scanner.ready then publish u.scanner.filtered u
  else if full && decide (u.cfg.debounceCount ≤ u.scanner.scans) then becomeReady u
  else u

theorem driveLines_eq {lines : Byte} {e : Nat} {s : State} (h : s.scanner.nextRead = .running e) :
    driveLines lines s = afterSamples (s.scanner.pointer == 3) (sampled lines e s) := by
  have hn : (driven lines s).scanner.nextRead = .running e := h
  show groupRead lines (driven lines s) = _
  unfold groupRead
  rw [hn, onExpiry_running]
  rfl

theorem exec_groupRead {lines : Byte} {e : Nat} {s : State} (hp : s.sys.powered = true)
    (h : s.scanner.nextRead = .running e) : exec (.groupRead lines) s =
      .next (settleToggles (afterSamples (s.scanner.pointer == 3) (sampled lines e s))) := by
  rw [exec_groupRead_eq, handled_powered hp, driveLines_eq h]

/-- The pair errors that begin when the pairs are evaluated (R40). -/
def begunNow (s : State) : BitVec 8 := s.pairsNow &&& ~~~ s.scanner.pairErrors

/-- The state once the pairs are evaluated (R40). -/
def evaluated (s : State) : State := (evaluatePairs s).2

/-- The owners' share of an event, once the functions that must stop have stopped (R36). -/
def owners (changed : BitVec 32) (begun : BitVec 8) (stop : Bool) (s : State) : State :=
  let s := stations.foldl (stationEvent changed begun stop) s
  let s := if s.cfg.touches changed .packer && !barred begun stop s.cfg .packer then packerInputs s
    else s
  if s.cfg.touches changed .tailgate && !barred begun stop s.cfg .tailgate then tailgateInputs s else s

/-- The published states and the Change Map of an event, before its pairs are evaluated. -/
def published (new : BitVec 32) (s : State) : State :=
  recordChanges (s.scanner.published ^^^ new) (s.setScanner { s.scanner with published := new })

theorem publish_unchanged {new : BitVec 32} {s : State} (h : s.scanner.published ^^^ new = 0) :
    publish new s = s := if_pos h

theorem publish_changed {new : BitVec 32} {s : State} (h : s.scanner.published ^^^ new ≠ 0) :
    publish new s =
      let begun := begunNow (published new s)
      let v := evaluated (published new s)
      let stop := !s.eStop && v.eStop
      owners (s.scanner.published ^^^ new) begun stop (haltFunctions begun stop v) := if_neg h

/-- The published states of Scan Ready, before its pairs are evaluated (R34). -/
def readied (s : State) : State :=
  s.setScanner { s.scanner with published := s.scanner.filtered, ready := true }

theorem becomeReady_eq (s : State) : becomeReady s =
    packerStart (haltFunctions (begunNow (readied s)) (evaluated (readied s)).eStop
      (evaluated (readied s))) := rfl

/-! ### What the announcement touches -/

section

variable {s t : State}

theorem recordChanges_keeps {α : Type} (π : State → α)
    (hk : Keeps π [.scanner, .agent, .body, .control]) (c : BitVec 32) (s : State) :
    π (recordChanges c s) = π s := by
  unfold recordChanges
  dsimp only
  split
  · exact hk.scanner (by decide) s _
  · rw [raiseNotice_keeps π hk.mono, hk.scanner]

theorem evaluated_keeps {α : Type} (π : State → α)
    (hk : Keeps π [.scanner, .agent, .body, .control]) (s : State) : π (evaluated s) = π s := by
  unfold evaluated evaluatePairs
  dsimp only
  split
  · exact hk.scanner (by decide) s _
  · rw [raiseNotice_keeps π hk.mono, hk.scanner]

theorem published_keeps {α : Type} (π : State → α)
    (hk : Keeps π [.scanner, .agent, .body, .control]) (new : BitVec 32) (s : State) :
    π (published new s) = π s := by
  unfold published
  rw [recordChanges_keeps π hk, hk.scanner]

theorem recordChanges_scanner (c : BitVec 32) (s : State) : (recordChanges c s).scanner =
    { s.scanner with changeMap := s.scanner.changeMap ||| c } := by
  unfold recordChanges
  dsimp only
  split
  · rfl
  · exact raiseNotice_keeps _ keeps_scanner.mono _ _

/-- The counts of the pair errors that begin (R40). -/
def countPairs (begun : BitVec 8) (counts : Vector Nat 8) : Vector Nat 8 :=
  Vector.ofFn fun j : Fin 8 => if hasBit begun j.val then bump counts[j] else counts[j]

theorem evaluated_scanner (s : State) : (evaluated s).scanner = { s.scanner with
    pairErrors := s.pairsNow, pairCounts := countPairs (begunNow s) s.scanner.pairCounts } := by
  unfold evaluated evaluatePairs
  dsimp only
  split
  · rfl
  · exact raiseNotice_keeps _ keeps_scanner.mono _ _

theorem foldl_putBit {n w : Nat} (hw : n ≤ w) (f : Fin n → Bool) (l : List (Fin n)) (m : BitVec w)
    (j : Fin n) : (l.foldl (fun m j => putBit m j.val (f j)) m).getLsbD j.val =
      if j ∈ l then f j else m.getLsbD j.val := by
  induction l generalizing m with
  | nil => simp
  | cons i l ih =>
    rw [List.foldl_cons, ih]
    by_cases hl : j ∈ l
    · simp [hl]
    · by_cases hi : j = i
      · subst hi
        have := j.isLt
        rw [if_neg hl, if_pos (List.mem_cons_self), putBit_getLsbD, if_pos rfl,
          decide_eq_true (by omega : j.val < w), Bool.true_and]
      · have hne : j.val ≠ i.val := fun e => hi (Fin.ext e)
        simp [hl, hi, putBit_other hne]

theorem pairsNow_bit (s : State) (j : Fin 8) : s.pairsNow.getLsbD j.val = s.pairHolds j := by
  unfold State.pairsNow
  rw [foldl_putBit (by decide)]
  simp [fins]

/-- The notices of an announcement: Input Change for a fresh change under the mask (R38). -/
theorem recordChanges_notices (c : BitVec 32) (s : State) : Spaced s (recordChanges c s) ∧
    (c &&& ~~~ s.scanner.changeMap &&& s.cfg.changeMask ≠ 0 → s.noticed (recordChanges c s) 2) ∧
    (c &&& ~~~ s.scanner.changeMap &&& s.cfg.changeMask = 0 → s.quiet (recordChanges c s) 2) ∧
    s.quiet (recordChanges c s) 3 := by
  unfold recordChanges
  dsimp only
  split
  · rename_i h
    exact ⟨.of_eq rfl rfl, fun k => absurd h k, fun _ => id, id⟩
  · rename_i h
    have h1 : Spaced s (s.setScanner { s.scanner with changeMap := s.scanner.changeMap ||| c }) :=
      .of_eq rfl rfl
    exact ⟨h1.trans (raiseNotice_spaced _ _), fun _ => raiseNotice_noticed_after h1 .inputChange,
      fun k => absurd k h, raiseNotice_quiet (s := s.setScanner _) (k := .inputChange) (by decide)⟩

theorem noticed_congr {u s t : State} {b : Nat} (hc : t.cfg = s.cfg) (ha : t.agent = s.agent)
    (h : u.noticed s b) : u.noticed t b := by
  unfold State.noticed
  rw [hc, ha]
  exact h

/-- The notices of the pair check: Sensor Error for a pair error that begins (R40). -/
theorem evaluated_notices (s : State) : Spaced s (evaluated s) ∧
    (∀ u, Spaced u s → begunNow s ≠ 0 → u.noticed (evaluated s) 3) ∧
    (begunNow s = 0 → s.quiet (evaluated s) 3) ∧
    (∀ u, Spaced u s → u.noticed s 2 → u.noticed (evaluated s) 2) ∧ s.quiet (evaluated s) 2 := by
  have hv : evaluated s = if begunNow s = 0 then s.setScanner { s.scanner with
      pairErrors := s.pairsNow, pairCounts := countPairs (begunNow s) s.scanner.pairCounts }
    else raiseNotice .sensorError (s.setScanner { s.scanner with
      pairErrors := s.pairsNow, pairCounts := countPairs (begunNow s) s.scanner.pairCounts }) := rfl
  have hc : (s.setScanner { s.scanner with
      pairErrors := s.pairsNow, pairCounts := countPairs (begunNow s) s.scanner.pairCounts }).cfg =
        s.cfg := rfl
  have ha : (s.setScanner { s.scanner with
      pairErrors := s.pairsNow, pairCounts := countPairs (begunNow s) s.scanner.pairCounts }).agent =
        s.agent := rfl
  rw [hv]
  generalize s.setScanner _ = w at hc ha
  have hs : Spaced s w := .of_eq hc ha
  have hq : ∀ b, s.quiet w b := fun b e => ha ▸ e
  by_cases hb : begunNow s = 0
  · rw [if_pos hb]
    exact ⟨hs, fun _ _ h => absurd hb h, fun _ => hq 3, fun u _ hn => noticed_congr hc ha hn, hq 2⟩
  · rw [if_neg hb]
    exact ⟨hs.trans (raiseNotice_spaced _ _),
      fun u hu _ => raiseNotice_noticed_after (hu.trans hs) .sensorError, fun h => absurd h hb,
      fun u hu hn => noticed_raise (hu.trans hs) (noticed_congr hc ha hn) .sensorError,
      fun e => hq 2 (raiseNotice_quiet (k := .sensorError) (by decide) e)⟩

end

end Sys2Proof.Proofs

/-! What a Fault does to the function that enters it (R65, R170, R175). -/

namespace Sys2Proof.Proofs

open Sys2Proof Sys2Proof.Machine Sys2Proof.Laws

section

variable {s t u : State} {n m : Nat} {x : Station}

/-! ### A station in Fault -/

/-- A station that enters Fault (R65). -/
structure Faulted (x : Station) (c : StationFault) (s t : State) : Prop where
  state : (t.lift x).state = .fault
  wait : (t.lift x).wait = .none
  cause : (t.lift x).lastFault = some c
  faults : (t.lift x).faults = bump (s.lift x).faults
  request : t.request (.station x) = none
  record : ∀ r, (t.lift x).record = some r →
    ∃ r', (s.lift x).record = some r' ∧ r.reachedDump = r'.reachedDump

/-! ### Requests released -/

/-- A reading of a lift that no pause changes. -/
abbrev Unpaced {α : Type} (ρ : Lift → α) : Prop := ∀ now limit r g l, ρ (Lift.paced now limit r g l) = ρ l

theorem releaseRequest_lift {α : Type} (ρ : Lift → α) (h : Unpaced ρ) (r : Requester) (s : State)
    (x : Station) : ρ ((releaseRequest r s).lift x) = ρ (s.lift x) := by
  unfold releaseRequest
  split
  · exact arbitrate_lift ρ h _ x
  · rfl

theorem releaseRequest_request (r : Requester) (s : State) : (releaseRequest r s).request r = none := by
  unfold releaseRequest
  split
  · rw [arbitrate_request]
    exact (five_get_set _ _ _ _).trans (if_pos rfl)
  · exact Option.not_isSome_iff_eq_none.mp ‹_›

theorem releaseRequest_packer {α : Type} (ρ : Packer → α)
    (h : ∀ now limit stall q g p, ρ (Packer.paced now limit stall q g p) = ρ p) (r : Requester)
    (s : State) : ρ (releaseRequest r s).packer = ρ s.packer := by
  unfold releaseRequest
  split
  · exact arbitrate_packer ρ h _
  · rfl

theorem requests_congr (h : t.arbiter = s.arbiter) (r : Requester) : t.request r = s.request r := by
  unfold State.request
  rw [h]

/-! ### A station's request out of Lower (R63) -/

/-- A commit that is reported to a station out of Lower empties its Lift Record and no more of it. -/
theorem reportStation_out (h : (s.lift x).state ≠ .lower) :
    (reportStation x s).lift x = { s.lift x with record := none } ∧
    (reportStation x s).arbiter = s.arbiter := by
  have hl : (settleAssigned (s.setLift x { s.lift x with record := none }) x).lift x =
      { s.lift x with record := none } := by
    rw [show (settleAssigned (s.setLift x { s.lift x with record := none }) x).lift x = _ from
      congrArg (·.get x) (settleAssigned_keeps _ keeps_lifts.mono _ _)]
    exact lift_setLift_self s x _
  have ha : (settleAssigned (s.setLift x { s.lift x with record := none }) x).arbiter = s.arbiter :=
    settleAssigned_keeps _ keeps_arbiter.mono _ _
  unfold reportStation
  dsimp only
  rw [hl, if_neg (by simp [h])]
  exact ⟨hl, ha⟩

/-- A Charge Record stands in the queue that was not there in `s` (R140). -/
def Committed (s t : State) (l : List Byte) : Prop :=
  ∃ k, s.queue.count ≤ k ∧ k < t.queue.count ∧
    t.store.readBytes (slotBase ((s.queue.head + k) % 256)) 32 = l

theorem readBytes_eq {m : Mem} {a : Nat} {l : List Byte}
    (h : ∀ i (hi : i < l.length), m.read (a + i) = l[i]) : m.readBytes a l.length = l := by
  induction l generalizing a with
  | nil => rfl
  | cons b l ih =>
    rw [List.length_cons, Mem.readBytes]
    have h1 := ih (a := a + 1) fun i hi => by
      have := h (i + 1) (by simpa using hi)
      rw [show a + 1 + i = a + (i + 1) by omega, this]
      rfl
    exact congrArg₂ List.cons (h 0 (by simp)) h1

/-- The record that a completed request leaves (R129, R140). -/
theorem bookRequest_committed (q : BillReq) (r : ChargeRecord) (p : Price) (below : Bool)
    {a : Option CounterAnswer} (ha : answerFits s a) (hs : booksWell s) :
    ∃ v, Committed s (bookRequest q r p below a s) (recordBytes r v) := by
  obtain ⟨-, -, -, v, hv⟩ := bookRequest_store q r p below ha hs
  obtain ⟨-, -, -, -, hc, -⟩ := bookRequest_frame q r p below a s
  refine ⟨v, s.queue.count, le_rfl, by omega, ?_⟩
  have h := readBytes_eq hv
  rw [recordBytes_length] at h
  exact h

/-- A record that was committed stays while fewer than 256 records are committed in all. -/
theorem Committed.later {l : List Byte} (h : Committed s t l) (k : Ledger n t u) (hb : booksWell t)
    (hh : t.queue.head = s.queue.head) (hu : u.queue.count ≤ s.queue.count + 256) :
    Committed s u l := by
  obtain ⟨j, h1, h2, h3⟩ := h
  refine ⟨j, h1, h2.trans_le k.grows, ?_⟩
  rw [← h3, ← hh]
  exact readBytes_congr fun i hi => k.slots hb j h2 (by omega) i hi

/-- A record that was committed since `t` was committed since `s`. -/
theorem Committed.since {l : List Byte} (h : Committed t u l) (hc : s.queue.count ≤ t.queue.count)
    (hh : t.queue.head = s.queue.head) : Committed s u l := by
  obtain ⟨j, h1, h2, h3⟩ := h
  exact ⟨j, hc.trans h1, h2, hh ▸ h3⟩

/-- The record of a request that is finished stands in the queue. -/
theorem finishRequest_committed {q : BillReq} {v : State} {r : ChargeRecord} {p : Price} {below : Bool}
    {a : Option CounterAnswer} (ha : answerFits v a)
    (hk : ∀ {α : Type} (π : State → α), Keeps π [.billing, .table] → π v = π s) (hL : Ledger 0 s v)
    (hb : booksWell s) : ∃ y, Committed s (finishRequest q r p below a v) (recordBytes r y) := by
  obtain ⟨y, hy⟩ := bookRequest_committed q r p below ha (hL.books hb)
  have hq : v.queue = s.queue := hk _ keeps_queue.mono
  have hr2 := report_ledger q.holder (bookRequest q r p below a v)
  obtain ⟨-, -, -, hhead, hcount, -⟩ := bookRequest_frame q r p below a v
  refine ⟨y, (hy.since (s := s) (hq ▸ le_rfl) (congrArg _ hq)).later hr2
    ((bookRequest_ledger q r p below ha).books (hL.books hb)) (hhead.trans (congrArg _ hq)) ?_⟩
  have : (finishRequest q r p below a v).queue.count ≤ _ := hr2.bound
  rw [hcount, hq] at this
  omega

/-- What a request comes to: it waits in the list, or its record is committed. -/
theorem Made.outcome {q : BillReq} (h : Made q s t) (hb : booksWell s) :
    (q ∈ t.billing.list ∧ t.billing.waiting ≠ none) ∨
    ∃ (a : Option CounterAnswer) (v w : State),
      Committed s t (recordBytes (w.recordOf q (q.figures s.cfg) a) v) := by
  cases h with
  | waits v h1 h2 => exact .inl ⟨h2, h1⟩
  | done v w r p below a h1 ha hk hL hr =>
    obtain ⟨y, hy⟩ := finishRequest_committed (q := q) (r := r) (p := p) (below := below) ha hk hL hb
    exact .inr ⟨a, y, w, hr ▸ hy⟩

/-- A station's request out of Lower leaves of its lift all but the record, and no request changes. -/
theorem Made.lift {q : BillReq} (h : Made q s t) (hx : q.holder = .station x)
    (hl : (s.lift x).state ≠ .lower) :
    (t.lift x = s.lift x ∨ t.lift x = { s.lift x with record := none }) ∧
      t.arbiter = s.arbiter := by
  cases h with
  | waits v h1 h2 h3 =>
    exact ⟨.inl (congrArg (·.get x) (h3 _ keeps_lifts.mono)), h3 _ keeps_arbiter.mono⟩
  | done v w r p below a h1 ha hk hL hr =>
    obtain ⟨b, hb, e⟩ := bookRequest_eq q r p below a v
    have keep : ∀ {α : Type} (π : State → α), Keeps π [.agent, .body, .control, .markers, .tailgate,
        .payload, .store, .queue, .clock, .billing, .table] → π (bookRequest q r p below a v) = π s := by
      intro α π hp
      rw [e, countServed_keeps π hp.mono, handTotals_keeps π hp.mono, hb π hp.mono,
        commitRecord_keeps π hp.mono, writeBack_keeps π hp.mono, hk π hp.mono]
    have h3 : (bookRequest q r p below a v).lift x = s.lift x :=
      congrArg (·.get x) (keep _ keeps_lifts.mono)
    unfold finishRequest
    rw [hx]
    obtain ⟨h4, h5⟩ := reportStation_out (x := x) (s := bookRequest q r p below a v) (by rw [h3]; exact hl)
    exact ⟨.inr (h4.trans (by rw [h3])), h5.trans (keep _ keeps_arbiter.mono)⟩

/-! ### A station's Fault (R65) -/

/-- What stands of a station that faults, before its request. -/
theorem beforeFaultRequest_lift (x : Station) (s : State) :
    ((beforeFaultRequest x s).lift x).state = .fault ∧
    ((beforeFaultRequest x s).lift x).wait = .none ∧
    ((beforeFaultRequest x s).lift x).faults = (s.lift x).faults ∧
    ((beforeFaultRequest x s).lift x).record = (s.lift x).record ∧
    (beforeFaultRequest x s).request (.station x) = none := by
  have hw : ∀ v old, (faultWeighing old x v).lift x = v.lift x := fun v old =>
    congrArg (·.get x) (faultWeighing_keeps _ keeps_lifts.mono old x v)
  have ha : ∀ v old, (faultWeighing old x v).arbiter = v.arbiter := fun v old =>
    faultWeighing_keeps _ keeps_arbiter.mono old x v
  unfold beforeFaultRequest
  rw [hw, requests_congr (ha _ _), releaseRequest_request]
  refine ⟨?_, ?_, ?_, ?_, rfl⟩
  · rw [releaseRequest_lift Lift.state fun _ _ _ _ _ => (paced_core _ _ _ _ _).1, lift_setLift_self]
  · rw [releaseRequest_lift Lift.wait fun _ _ _ _ _ => (paced_core _ _ _ _ _).2.1, lift_setLift_self]
  · rw [releaseRequest_lift Lift.faults fun _ _ _ _ _ => (paced_core _ _ _ _ _).2.2.2.2.2.2.2.1,
      lift_setLift_self]
  · rw [releaseRequest_lift Lift.record fun _ _ _ _ _ => (paced_core _ _ _ _ _).2.2.2.2.1,
      lift_setLift_self]

/-- A record with its request made (R65). -/
def LiftRecord.made (r : LiftRecord) : LiftRecord := { r with requested := true }

theorem faultRequest_eq (x : Station) (s : State) : faultRequest x s =
    match (s.lift x).record with
    | none => s
    | some r => if r.requested then s
        else makeRequest ⟨.station x, .fault r r.reachedDump⟩ (s.onRecord x LiftRecord.made) := rfl

/-- What a fault request leaves of the lift: its record at most is made or emptied. -/
theorem faultRequest_lift (hr : billingRests s.billing) (hl : (s.lift x).state ≠ .lower) :
    ((faultRequest x s).lift x = s.lift x ∨
      (faultRequest x s).lift x = { s.lift x with record := (s.lift x).record.map LiftRecord.made } ∨
      (faultRequest x s).lift x = { s.lift x with record := none }) ∧
    (faultRequest x s).arbiter = s.arbiter := by
  rw [faultRequest_eq]
  split
  · exact ⟨.inl rfl, rfl⟩
  · split
    · exact ⟨.inl rfl, rfl⟩
    · have hself : (s.onRecord x LiftRecord.made).lift x =
          { s.lift x with record := (s.lift x).record.map LiftRecord.made } := lift_setLift_self s x _
      obtain ⟨h1, h2⟩ := (makeRequest_made (q := ⟨.station x, .fault _ _⟩)
        (s := s.onRecord x LiftRecord.made) hr).lift (x := x) rfl (by rw [hself]; exact hl)
      rw [hself] at h1
      exact ⟨.inr h1, h2⟩

theorem haltStation_faulted (hr : billingRests s.billing) (c : StationFault) :
    Faulted x c s (haltStation x c s) := by
  obtain ⟨h1, h2, h3, h4, h5⟩ := beforeFaultRequest_lift x s
  have hb : (beforeFaultRequest x s).billing = s.billing :=
    beforeFaultRequest_keeps _ keeps_billing.mono x s
  rw [haltStation_eq]
  generalize beforeFaultRequest x s = v at *
  obtain ⟨h6, h7⟩ := faultRequest_lift (s := v) (x := x) (hb ▸ hr) (by rw [h1]; decide)
  generalize faultRequest x v = w at *
  have h8 : (w.lift x).state = .fault ∧ (w.lift x).wait = .none ∧
      (w.lift x).faults = (s.lift x).faults ∧
      ∀ r, (w.lift x).record = some r → ∃ r', (s.lift x).record = some r' ∧
        r.reachedDump = r'.reachedDump := by
    rcases h6 with e | e | e <;> rw [e] <;> refine ⟨h1, h2, h3, fun r hw => ?_⟩
    · exact ⟨r, h4 ▸ hw, rfl⟩
    · obtain ⟨r', h9, h10⟩ := Option.map_eq_some_iff.mp hw
      exact ⟨r', h4 ▸ h9, h10 ▸ rfl⟩
    · exact absurd hw nofun
  obtain ⟨k1, k2, k3, k4⟩ := h8
  have hl : (afterFaultRequest x c w).lift x =
      { w.lift x with faults := bump (w.lift x).faults, lastFault := some c } := by
    unfold afterFaultRequest
    rw [show ∀ v, (raiseNotice .stationFault v).lift x = v.lift x from
      fun v => congrArg (·.get x) (raiseNotice_keeps _ keeps_lifts.mono _ v)]
    exact lift_setLift_self w x _
  have ha : (afterFaultRequest x c w).arbiter = v.arbiter :=
    (afterFaultRequest_keeps _ keeps_arbiter.mono x c w).trans h7
  refine ⟨?_, ?_, ?_, ?_, ?_, ?_⟩
  · rw [hl]; exact k1
  · rw [hl]; exact k2
  · rw [hl]
  · rw [hl]; exact congrArg bump k3
  · rw [requests_congr ha]; exact h5
  · rw [hl]; exact k4

/-- The fault request of a lift that has not reached Dump (R65, R103). -/
theorem haltStation_aborts (hr : billingRests s.billing) (c : StationFault) {r : LiftRecord}
    (h : (s.lift x).record = some r) (hq : r.requested = false) (hb : booksWell s) :
    ((⟨.station x, .fault r r.reachedDump⟩ : BillReq) ∈ (haltStation x c s).billing.list ∧
      (haltStation x c s).billing.waiting ≠ none) ∨
    ∃ (a : Option CounterAnswer) (v w : State), Committed s (haltStation x c s)
      (recordBytes (w.recordOf ⟨.station x, .fault r r.reachedDump⟩
        (BillReq.figures s.cfg ⟨.station x, .fault r r.reachedDump⟩) a) v) := by
  obtain ⟨-, -, -, h4, -⟩ := beforeFaultRequest_lift x s
  have keep : ∀ {α : Type} (π : State → α), Keeps π [.arb, .lifts, .arbiter, .weigh] →
      π (beforeFaultRequest x s) = π s := fun π hk => beforeFaultRequest_keeps π hk x s
  have hc : (beforeFaultRequest x s).cfg = s.cfg := keep _ keeps_cfg.mono
  have L1 : Ledger 0 s (beforeFaultRequest x s) := .of_keeps fun π hk => keep π hk.mono
  have hrec : ((beforeFaultRequest x s).lift x).record = some r := h4.trans h
  rw [haltStation_eq, faultRequest_eq]
  generalize beforeFaultRequest x s = v at *
  rw [hrec]
  simp only [hq, Bool.false_eq_true, if_false]
  have L2 : Ledger 0 v (v.onRecord x LiftRecord.made) := onRecord_ledger _
  have hm := makeRequest_made (q := ⟨.station x, .fault r r.reachedDump⟩)
    (s := v.onRecord x LiftRecord.made) (L1.rests hr)
  have L3 := hm.ledger
  generalize makeRequest _ (v.onRecord x LiftRecord.made) = w at *
  have L4 : Ledger 0 w (afterFaultRequest x c w) :=
    .of_keeps fun π hk => afterFaultRequest_keeps π hk.mono x c w
  have L12 := L1.trans L2
  rcases hm.outcome (L12.books hb) with ⟨h5, h6⟩ | ⟨a, y, z, h5⟩
  · exact .inl ⟨(L4.waits h6).2 _ h5, (L4.waits h6).1⟩
  · refine .inr ⟨a, y, z, ?_⟩
    have h6 := h5.since L12.grows L12.head
    have hcfg : (v.onRecord x LiftRecord.made).cfg = s.cfg := hc
    rw [hcfg] at h6
    have L13 := L12.trans L3
    exact h6.later L4 (L13.books hb) L13.head (by have := (L13.trans L4).bound; omega)

end

end Sys2Proof.Proofs

/-! What the pair errors and the E-Stop of one event leave of each function: the Fault that it enters, kept by
all that the others do (R41, R42). -/

namespace Sys2Proof.Proofs

open Sys2Proof Sys2Proof.Machine Sys2Proof.Laws

section

variable {P : Touch → Prop} {s t u : State} {n m : Nat} {x : Station} {begun : BitVec 8}

/-! ### The packer's and the tailgate's Fault (R170, R175) -/

/-- The packer in Fault (R170). -/
structure PackerFaulted (c : PackerFault) (s t : State) : Prop where
  state : t.packer.state = .fault
  idle : t.packer.packPending = false
  cause : t.packer.lastFault = some c
  faults : t.packer.faults = bump s.packer.faults
  dumps : t.packer.dumps = s.packer.dumps
  cycles : t.packer.cycles = s.packer.cycles
  stroke : t.packer.stroke = s.packer.stroke
  request : t.request .packer = none

theorem haltPacker_faulted (c : PackerFault) (s : State) : PackerFaulted c s (haltPacker c s) := by
  unfold haltPacker
  have hp : ∀ v, (raiseNotice .packerFault v).packer = v.packer := fun v =>
    raiseNotice_keeps _ keeps_packer.mono _ v
  have ha : ∀ v, (raiseNotice .packerFault v).arbiter = v.arbiter := fun v =>
    raiseNotice_keeps _ keeps_arbiter.mono _ v
  have core : ∀ p now limit stall q g, _ := fun (p : Packer) now limit stall q g =>
    packer_paced_core now limit stall q g p
  constructor <;> dsimp only
  · rw [hp, setPacker_packer, releaseRequest_packer Packer.state fun _ _ _ _ _ _ => (core _ _ _ _ _ _).1]
    rfl
  · rw [hp, setPacker_packer,
      releaseRequest_packer Packer.packPending fun _ _ _ _ _ _ => (core _ _ _ _ _ _).2.1]
    rfl
  · rw [hp, setPacker_packer]
  · rw [hp, setPacker_packer,
      releaseRequest_packer Packer.faults fun _ _ _ _ _ _ => (core _ _ _ _ _ _).2.2.2.2.2.2.2.2.1]
    rfl
  · rw [hp, setPacker_packer,
      releaseRequest_packer Packer.dumps fun _ _ _ _ _ _ => (core _ _ _ _ _ _).2.2.2.2.1]
    rfl
  · rw [hp, setPacker_packer,
      releaseRequest_packer Packer.cycles fun _ _ _ _ _ _ => (core _ _ _ _ _ _).2.2.2.2.2.2.1]
    rfl
  · rw [hp, setPacker_packer,
      releaseRequest_packer Packer.stroke fun _ _ _ _ _ _ => (core _ _ _ _ _ _).2.2.1]
    rfl
  · rw [requests_congr (ha _)]
    exact releaseRequest_request _ _

/-- The tailgate in Fault (R175). -/
structure TailgateFaulted (c : TailgateFault) (s t : State) : Prop where
  state : t.tailgate.state = .fault
  cause : t.tailgate.lastFault = some c
  faults : t.tailgate.faults = bump s.tailgate.faults
  request : t.request .tailgate = none

theorem bookRequest_tailgate (k : BillKind) (r : ChargeRecord) (p : Price) (below : Bool)
    (a : Option CounterAnswer) (s : State) :
    (bookRequest ⟨.tailgate, k⟩ r p below a s).tailgate = { s.tailgate with marker := .closing } := by
  have h1 : (commitRecord .tailgate r (writeBack k r p a s)).tailgate = s.tailgate := by
    rw [commitRecord_keeps _ keeps_tailgate.mono, writeBack_keeps _ keeps_tailgate.mono]
  have h2 : (commitMarker .tailgate (commitRecord .tailgate r (writeBack k r p a s))).tailgate =
      { s.tailgate with marker := .closing } := by rw [← h1]; rfl
  unfold bookRequest
  dsimp only
  generalize commitMarker .tailgate (commitRecord .tailgate r (writeBack k r p a s)) = v at h2 ⊢
  rw [countServed_keeps _ keeps_tailgate.mono, handTotals_keeps _ keeps_tailgate.mono,
    handPayload_keeps _ keeps_tailgate.mono]
  split
  · rw [raiseNotice_keeps _ keeps_tailgate.mono, h2]
  · exact h2

theorem tailgateFault_faulted (hr : billingRests s.billing) (c : TailgateFault) :
    TailgateFaulted c s (tailgateFault c s) := by
  have core : ∀ p now limit r g, _ := fun (p : Tailgate) now limit r g =>
    tailgate_paced_core now limit r g p
  have hb : (tailgateHalted c s).billing = s.billing :=
    tailgateHalted_keeps _ keeps_billing.mono c s
  have h1 : TailgateFaulted c s (tailgateHalted c s) ∧
      (tailgateHalted c s).tailgate.unloadPending = false := by
    unfold tailgateHalted
    have hp : ∀ v, (raiseNotice .tailgateFault v).tailgate = v.tailgate := fun v =>
      raiseNotice_keeps _ keeps_tailgate.mono _ v
    have ha : ∀ v, (raiseNotice .tailgateFault v).arbiter = v.arbiter := fun v =>
      raiseNotice_keeps _ keeps_arbiter.mono _ v
    refine ⟨⟨?_, ?_, ?_, ?_⟩, ?_⟩ <;> dsimp only
    · rw [hp, setTailgate_tailgate,
        releaseRequest_tailgate Tailgate.state fun _ _ _ _ _ => (core _ _ _ _ _).1]
      rfl
    · rw [hp, setTailgate_tailgate]
    · rw [hp, setTailgate_tailgate,
        releaseRequest_tailgate Tailgate.faults fun _ _ _ _ _ => (core _ _ _ _ _).2.2.2.2.2.1]
      rfl
    · rw [requests_congr (ha _)]
      exact releaseRequest_request _ _
    · rw [hp, setTailgate_tailgate,
        releaseRequest_tailgate Tailgate.unloadPending fun _ _ _ _ _ => (core _ _ _ _ _).2.2.1]
      rfl
  rw [tailgateFault_eq]
  generalize tailgateHalted c s = v at h1 hb ⊢
  obtain ⟨⟨k1, k2, k3, k4⟩, k5⟩ := h1
  split
  · have hm := makeRequest_made (q := ⟨.tailgate, .unload⟩) (s := v) (hb ▸ hr)
    generalize makeRequest _ v = w at hm ⊢
    cases hm with
    | waits w h2 h3 h4 =>
      have hg : w.tailgate = v.tailgate := h4 _ keeps_tailgate.mono
      exact ⟨hg ▸ k1, hg ▸ k2, hg ▸ k3, (requests_congr (h4 _ keeps_arbiter.mono) _).trans k4⟩
    | done w y r p below a h2 ha h4 =>
      have hg := bookRequest_tailgate .unload r p below a w
      rw [h4 _ keeps_tailgate.mono] at hg
      have hq : (bookRequest ⟨.tailgate, .unload⟩ r p below a w).arbiter = v.arbiter := by
        obtain ⟨b, hb, e⟩ := bookRequest_eq ⟨.tailgate, .unload⟩ r p below a w
        rw [e, countServed_keeps _ keeps_arbiter.mono, handTotals_keeps _ keeps_arbiter.mono,
          hb _ keeps_arbiter.mono, commitRecord_keeps _ keeps_arbiter.mono,
          writeBack_keeps _ keeps_arbiter.mono, h4 _ keeps_arbiter.mono]
      show TailgateFaulted c s (reportUnload _)
      rw [reportUnload_idle (by rw [hg]; exact k5)]
      refine ⟨?_, ?_, ?_, (requests_congr hq .tailgate).trans k4⟩
      · rw [setTailgate_tailgate, hg]; exact k1
      · rw [setTailgate_tailgate, hg]; exact k2
      · rw [setTailgate_tailgate, hg]; exact k3
  · exact ⟨k1, k2, k3, k4⟩

/-! ### What all but one function may touch -/

/-- All parts but one function. -/
def others (r : Requester) : Touch → Prop := fun c => c ≠ .function r

/-- All parts but one function, before any blade or pack-pending is tested. -/
def othersFirst (r : Requester) : Touch → Prop := fun c => c ≠ .function r ∧ c ≠ .dumps ∧ c ≠ .serve

/-- All parts but the packer and the dumps that are counted for it. -/
def still : Touch → Prop := fun c => c ≠ .function .packer ∧ c ≠ .dumps

/-- Every function but one may act, and the order of the group may change. -/
structure Spares (r : Requester) (P : Touch → Prop) : Prop where
  function : ∀ q, q ≠ r → P (.function q)
  group : P .group
  self : ¬ P (.function r)

theorem spares_others (r : Requester) : Spares r (others r) :=
  ⟨fun _ h e => h (Touch.function.inj e), nofun, fun h => h rfl⟩

theorem spares_othersFirst (r : Requester) : Spares r (othersFirst r) :=
  ⟨fun _ h => ⟨fun e => h (Touch.function.inj e), nofun, nofun⟩, ⟨nofun, nofun, nofun⟩, fun h => h.1 rfl⟩

theorem spares_still : Spares .packer still :=
  ⟨fun _ h => ⟨fun e => h (Touch.function.inj e), nofun⟩, ⟨nofun, nofun⟩, fun h => h.1 rfl⟩

theorem others_dumps (r : Requester) : others r .dumps := nofun

theorem others_start (r : Requester) : others r .start := nofun

theorem others_serve (r : Requester) : others r .serve := nofun

/-- A resting engine and a station that waits for no blade: the others leave the station alone. -/
theorem ready_station (hr : billingRests s.billing) (hw : ¬ bladeWaits s x) :
    Ready (others (.station x)) s where
  blade _ y := by
    by_cases hy : y = x
    · exact .inr (.inl (hy ▸ hw))
    · exact .inl ((spares_others _).function _ fun e => hy (Requester.station.inj e))
  bills := .inl hr
  packs _ := .inl ⟨(spares_others _).function _ nofun, others_dumps _⟩
  group := .inl (spares_others _).group

/-- A resting engine alone, while neither a blade nor pack-pending is tested. -/
theorem ready_first (r : Requester) (hr : billingRests s.billing) : Ready (othersFirst r) s where
  blade h := (h.2.1 rfl).elim
  bills := .inl hr
  packs h := (h.2.2 rfl).elim
  group := .inl (spares_othersFirst r).group

theorem ready_tailgate (hr : billingRests s.billing) : Ready (others .tailgate) s where
  blade _ _ := .inl ((spares_others _).function _ nofun)
  bills := .inl hr
  packs _ := .inl ⟨(spares_others _).function _ nofun, others_dumps _⟩
  group := .inl (spares_others _).group

/-- A packer without a pack pending is left alone, when no dump may ask for one. -/
theorem Spares.ready (hP : Spares .packer P) (he : P .serve) (hp : s.packer.packPending = false)
    (ha : P .dumps → noAuto s) : Ready P s where
  blade _ _ := .inl (hP.function _ nofun)
  bills := .inr ⟨hP.function, hP.group, he⟩
  packs _ := .inr ⟨hP.self, .inl ⟨hp, ha⟩⟩
  group := .inl hP.group

/-- A handling that leaves a station or the tailgate alone leaves the engine at rest. -/
theorem Ready.rests {r : Requester} (h : Ready P s) (hP : Spares r P) (hr : r ≠ .packer) :
    billingRests s.billing :=
  h.bills.resolve_right fun ha => hP.self (ha.1 r hr)

/-- No Fault of the one function that may not act. -/
theorem Spares.mayHalt {r : Requester} (hP : Spares r P) {c : Requester → Bool}
    (hx : ∀ x, r = .station x → c r = true → s.stationMoving x = false)
    (hp : r = .packer → c r = true → s.packerMoving = false)
    (hg : r = .tailgate → c r = true → s.tailgateMoving = false) : MayHalt P c s where
  station x hc hm := hP.function _ fun e => by
    subst e
    exact absurd (hm.symm.trans (hx x rfl hc)) (by decide)
  packer hc hm := hP.function _ fun e => by
    subst e
    exact absurd (hm.symm.trans (hp rfl hc)) (by decide)
  tailgate hc hm := hP.function _ fun e => by
    subst e
    exact absurd (hm.symm.trans (hg rfl hc)) (by decide)

theorem Spares.mayHalt_station (hP : Spares (.station x) P) {c : Requester → Bool}
    (h : c (.station x) = true → s.stationMoving x = false) : MayHalt P c s :=
  hP.mayHalt (fun y e hc => by cases e; exact h hc) nofun nofun

theorem Spares.mayHalt_packer (hP : Spares .packer P) {c : Requester → Bool}
    (h : c .packer = true → s.packerMoving = false) : MayHalt P c s :=
  hP.mayHalt nofun (fun _ hc => h hc) nofun

theorem Spares.mayHalt_tailgate (hP : Spares .tailgate P) {c : Requester → Bool}
    (h : c .tailgate = true → s.tailgateMoving = false) : MayHalt P c s :=
  hP.mayHalt nofun nofun fun _ hc => h hc

/-! ### The turn of one function among those that stop -/

theorem stations_split (x : Station) : ∃ l r, stations = l ++ x :: r ∧ x ∉ l ∧ x ∉ r := by
  cases x
  · exact ⟨[], [.rearLeft, .rearRight], rfl, by decide, by decide⟩
  · exact ⟨[.sideArm], [.rearRight], rfl, by decide, by decide⟩
  · exact ⟨[.sideArm, .rearLeft], [], rfl, by decide, by decide⟩

theorem foldl_does_mem {β : Type} {f : State → β → State} (l : List β)
    (h : ∀ t, ∀ b ∈ l, Does P t (f t b)) (s : State) : Does P s (l.foldl f s) := by
  induction l generalizing s with
  | nil => exact .refl s
  | cons b l ih =>
    exact (h s b (by simp)).trans (ih (fun t c hc => h t c (List.mem_cons_of_mem _ hc)) _)

theorem Spares.stationHalts {q : Requester} (hP : Spares q P) {l : List Station}
    (h : ∀ y ∈ l, q ≠ .station y) (c : Requester → Bool) (f : StationFault) (s : State) :
    Does P s (l.foldl (stationHalt c f) s) :=
  foldl_does_mem l (fun t y hy => .ite (fun _ => haltStation_does (.refl t)
    (hP.function _ (h y hy).symm) f) fun _ => .refl t) s

theorem Spares.packerHalt {q : Requester} (hP : Spares q P) (h : q ≠ .packer) (c : Requester → Bool)
    (f : PackerFault) (s : State) : Does P s (packerHalt c f s) :=
  .ite (fun _ => haltPacker_does (.refl s) (hP.function _ h.symm) f) fun _ => .refl s

theorem Spares.tailgateHalt {q : Requester} (hP : Spares q P) (h : q ≠ .tailgate)
    (c : Requester → Bool) (f : TailgateFault) (s : State) : Does P s (tailgateHalt c f s) :=
  .ite (fun _ => tailgateFault_does (.refl s) (hP.function _ h.symm) f) fun _ => .refl s

/-- A station that is named and in motion faults in its turn; what comes before and after is the others'. -/
theorem haltNamed_station {c : Requester → Bool} (hc : c (.station x) = true)
    (hm : s.stationMoving x = true) (hr : billingRests s.billing) (f1 : StationFault)
    (f2 : PackerFault) (f3 : TailgateFault) :
    ∃ v, Does (othersFirst (.station x)) s v ∧ Ledger 3 s v ∧
      Does (others (.station x)) (haltStation x f1 v) (haltNamed c f1 f2 f3 s) ∧
      Ledger 4 (haltStation x f1 v) (haltNamed c f1 f2 f3 s) := by
  obtain ⟨l, r, hl, h1, h2⟩ := stations_split x
  have hlen : l.length + (1 + r.length) = 3 := by
    have := congrArg List.length hl
    simp [stations] at this
    omega
  have other : ∀ {m : List Station}, x ∉ m → ∀ y ∈ m, Requester.station x ≠ .station y :=
    fun h y hy e => h (by cases e; exact hy)
  have hP := spares_others (.station x)
  have d1 := (spares_othersFirst (.station x)).stationHalts (other h1) c f1 s
  have L1 := stationHalts_ledger hr c f1 l
  have hfold : stations.foldl (stationHalt c f1) s =
      r.foldl (stationHalt c f1) (stationHalt c f1 (l.foldl (stationHalt c f1) s) x) := by
    rw [hl, List.foldl_append, List.foldl_cons]
  generalize l.foldl (stationHalt c f1) s = v at *
  have hv : billingRests v.billing := L1.rests hr
  have turn : stationHalt c f1 v x = haltStation x f1 v :=
    if_pos (by simp [hc, (d1.stationMoving (ready_first _ hr) (spares_othersFirst _).self).trans hm])
  have hh : billingRests (haltStation x f1 v).billing := (haltStation_ledger hv f1).rests hv
  refine ⟨v, d1, L1.mono (by omega), ?_, ?_⟩ <;> unfold haltNamed <;> rw [hfold, turn]
  · exact ((hP.stationHalts (other h2) c f1 _).trans (hP.packerHalt nofun c f2 _)).trans
      (hP.tailgateHalt nofun c f3 _)
  · have L2 := (stationHalts_ledger hh c f1 r).trans (packerHalt_ledger c f2)
    exact (L2.trans (tailgateHalt_ledger (L2.rests hh) c f3)).mono (by omega)

/-- The packer that is named and in motion faults in its turn. -/
theorem haltNamed_packer (hP : Spares .packer P) {c : Requester → Bool} (hc : c .packer = true)
    (hm : s.packerMoving = true) (hs : Ready P s) (f1 : StationFault) (f2 : PackerFault)
    (f3 : TailgateFault) :
    ∃ v, Does P s v ∧ Does P (haltPacker f2 v) (haltNamed c f1 f2 f3 s) := by
  have d1 : Does P s (stations.foldl (stationHalt c f1) s) :=
    hP.stationHalts (fun _ _ => nofun) c f1 s
  have turn : packerHalt c f2 (stations.foldl (stationHalt c f1) s) =
      haltPacker f2 (stations.foldl (stationHalt c f1) s) :=
    if_pos (by simp [hc, (d1.packerMoving hs hP.self).trans hm])
  refine ⟨_, d1, ?_⟩
  unfold haltNamed
  rw [turn]
  exact hP.tailgateHalt nofun c f3 _

/-- The tailgate that is named and in motion faults in its turn, the last. -/
theorem haltNamed_tailgate {c : Requester → Bool} (hc : c .tailgate = true)
    (hm : s.tailgateMoving = true) (hs : Ready (others .tailgate) s) (f1 : StationFault)
    (f2 : PackerFault) (f3 : TailgateFault) :
    ∃ v, Does (others .tailgate) s v ∧ haltNamed c f1 f2 f3 s = tailgateFault f3 v := by
  have hP := spares_others .tailgate
  have d1 := (hP.stationHalts (l := stations) (fun _ _ => nofun) c f1 s).trans
    (hP.packerHalt nofun c f2 _)
  refine ⟨_, d1, if_pos ?_⟩
  simp [hc, (d1.tailgateMoving hs hP.self).trans hm]

/-! ### The turn of one function in a whole stop -/

/-- The cause of a station's Fault in a stop: its own pair error comes first (R36). -/
def haltCause (c : Mem) (begun : BitVec 8) (x : Station) : StationFault :=
  if c.begunFor begun (.station x) then .sensorError else .eStop

/-- The cause of the packer's Fault in a stop. -/
def packerCause (c : Mem) (begun : BitVec 8) : PackerFault :=
  if c.begunFor begun .packer then .sensorError else .eStop

/-- The cause of the tailgate's Fault in a stop. -/
def tailgateCause (c : Mem) (begun : BitVec 8) : TailgateFault :=
  if c.begunFor begun .tailgate then .sensorError else .eStop

theorem stationMoving_faulted {c : StationFault} (h : Faulted x c s t) : t.stationMoving x = false := by
  unfold State.stationMoving
  rw [h.state]

theorem packerMoving_faulted {c : PackerFault} (h : PackerFaulted c s t) : t.packerMoving = false := by
  unfold State.packerMoving
  rw [h.state]

theorem tailgateMoving_faulted {c : TailgateFault} (h : TailgateFaulted c s t) :
    t.tailgateMoving = false := by
  unfold State.tailgateMoving
  rw [h.state]

theorem ready_faulted {c : StationFault} (h : Faulted x c s t) (hr : billingRests t.billing) :
    Ready (others (.station x)) t :=
  ready_station hr fun hw => by
    have := hw.1
    rw [h.state] at this
    exact absurd this (by decide)

/-- A station that a stop names and that is in motion faults in its turn, and nothing else of the stop
touches it. -/
theorem haltFunctions_station {stop : Bool} (hr : billingRests s.billing)
    (hc : stopped s.cfg begun stop (.station x) = true) (hm : s.stationMoving x = true) :
    ∃ v, Does (othersFirst (.station x)) s v ∧ Ledger 8 s v ∧
      Does (others (.station x)) (haltStation x (haltCause s.cfg begun x) v)
        (haltFunctions begun stop s) ∧
      Ledger 8 (haltStation x (haltCause s.cfg begun x) v) (haltFunctions begun stop s) := by
  have hP := spares_others (.station x)
  have hF := spares_othersFirst (.station x)
  have hs := ready_first (.station x) hr
  have d1 : Does (othersFirst (.station x)) s (cancelled begun stop s) :=
    cancelled_does (.refl s) begun stop (.inl (hF.function _ nofun))
  have L1 := cancelled_ledger (s := s) begun stop
  have hcfg : (cancelled begun stop s).cfg = s.cfg := cancelled_keeps _ keeps_cfg.mono begun stop s
  have hm1 := (d1.stationMoving hs hF.self).trans hm
  have hs1 := (d1 hs).2
  rw [haltFunctions_eq]
  generalize hw : cancelled begun stop s = w at *
  by_cases hb : s.cfg.begunFor begun (.station x) = true
  · have hcause : haltCause s.cfg begun x = .sensorError := if_pos hb
    obtain ⟨v, d2, L2, d3, L3⟩ := haltNamed_station (c := w.cfg.begunFor begun) (hcfg ▸ hb) hm1
      (L1.rests hr) .sensorError .sensorError .sensorError
    rw [← haltPairs_eq] at d3 L3
    have hv : billingRests v.billing := (L1.trans L2).rests hr
    have hf := haltStation_faulted (x := x) hv .sensorError
    have hrf := (haltStation_ledger (x := x) hv .sensorError).rests hv
    have hstill : (haltPairs begun w).stationMoving x = false :=
      (d3.stationMoving (ready_faulted hf hrf) hP.self).trans (stationMoving_faulted hf)
    rw [hcause]
    refine ⟨v, d1.trans d2, (L1.trans L2).mono (by omega), ?_, ?_⟩
    · exact haltTail_does (stopAll_does d3 (hP.mayHalt_station fun _ => hstill)) (others_dumps _)
        (others_serve _) _
    · exact (L3.trans (stopAll_ledger (L3.rests hrf) stop)).trans (haltTail_ledger _ _)
  · have hb' : ¬ w.cfg.begunFor begun (.station x) = true := by rw [hcfg]; exact hb
    have hstop : stop = true := by simpa [stopped, hb] using hc
    have hcause : haltCause s.cfg begun x = .eStop := if_neg hb
    have d2 := d1.trans (haltPairs_does (begun := begun) (.refl w)
      (hF.mayHalt_station fun h => absurd h hb'))
    have L2 := L1.trans (haltPairs_ledger (L1.rests hr) begun)
    obtain ⟨v, d3, L3, d4, L4⟩ := haltNamed_station (c := fun _ => true) rfl
      ((d2.stationMoving hs hF.self).trans hm) (L2.rests hr) .eStop .eStop .eStop
    rw [← haltAll_eq] at d4 L4
    rw [hcause, hstop]
    exact ⟨v, d2.trans d3, (L2.trans L3).mono (by omega),
      haltTail_does d4 (others_dumps _) (others_serve _) _,
      (L4.trans (haltTail_ledger _ _)).mono (by omega)⟩

theorem noAuto_halted {c : PackerFault} (h : noAuto s) : noAuto (haltPacker c s) :=
  noAuto_congr (haltPacker_keeps _ keeps_scanner.mono _ _) (haltPacker_keeps _ keeps_cfg.mono _ _)
    (haltPacker_keeps _ keeps_mode.mono _ _) (haltPacker_keeps _ keeps_sys.mono _ _) h

theorem Does.noAuto (d : Does P s t) (hs : Ready P s) (h : noAuto s) : noAuto t :=
  noAuto_congr (d.keeps hs keeps_scanner.mono) (d.keeps hs keeps_cfg.mono) (d.keeps hs keeps_mode.mono)
    (d.keeps hs keeps_sys.mono) h

/-- The packer that a stop names and that is in motion faults in its turn. -/
theorem stopAll_packer (hP : Spares .packer P) (he : P .serve) {stop : Bool} (hs : Ready P s)
    (ha : P .dumps → noAuto s) (hc : stopped s.cfg begun stop .packer = true)
    (hm : s.packerMoving = true) :
    ∃ v, Does P s v ∧
      Does P (haltPacker (packerCause s.cfg begun) v) (stopAll stop (haltPairs begun s)) := by
  by_cases hb : s.cfg.begunFor begun .packer = true
  · obtain ⟨v, d1, d2⟩ := haltNamed_packer hP (c := s.cfg.begunFor begun) hb hm hs .sensorError
      .sensorError .sensorError
    rw [← haltPairs_eq] at d2
    have hf := haltPacker_faulted .sensorError v
    have hr := hP.ready he hf.idle fun hd => noAuto_halted (d1.noAuto hs (ha hd))
    have hcause : packerCause s.cfg begun = .sensorError := if_pos hb
    rw [hcause]
    exact ⟨v, d1, stopAll_does d2 (hP.mayHalt_packer fun _ =>
      (d2.packerMoving hr hP.self).trans (packerMoving_faulted hf))⟩
  · have hstop : stop = true := by simpa [stopped, hb] using hc
    have hcause : packerCause s.cfg begun = .eStop := if_neg hb
    have d1 : Does P s (haltPairs begun s) :=
      haltPairs_does (.refl s) (hP.mayHalt_packer fun h => absurd h hb)
    obtain ⟨v, d2, d3⟩ := haltNamed_packer hP (c := fun _ => true) rfl
      ((d1.packerMoving hs hP.self).trans hm) (d1 hs).2 .eStop .eStop .eStop
    rw [← haltAll_eq] at d3
    rw [hcause, hstop]
    exact ⟨v, d1.trans d2, d3⟩

/-- The tailgate that a stop names and that is in motion faults in its turn. -/
theorem haltFunctions_tailgate {stop : Bool} (hr : billingRests s.billing)
    (hc : stopped s.cfg begun stop .tailgate = true) (hm : s.tailgateMoving = true) :
    ∃ v, Does (others .tailgate) s v ∧ billingRests v.billing ∧
      Does (others .tailgate) (tailgateFault (tailgateCause s.cfg begun) v)
        (haltFunctions begun stop s) := by
  have hP := spares_others .tailgate
  have hs := ready_tailgate hr
  have d1 : Does (others .tailgate) s (cancelled begun stop s) :=
    cancelled_does (.refl s) begun stop (.inl (hP.function _ nofun))
  have hcfg : (cancelled begun stop s).cfg = s.cfg := cancelled_keeps _ keeps_cfg.mono begun stop s
  have hs1 := (d1 hs).2
  have hm1 := (d1.tailgateMoving hs hP.self).trans hm
  rw [haltFunctions_eq]
  generalize hw : cancelled begun stop s = w at *
  by_cases hb : s.cfg.begunFor begun .tailgate = true
  · have hcause : tailgateCause s.cfg begun = .sensorError := if_pos hb
    obtain ⟨v, d2, e⟩ := haltNamed_tailgate (c := w.cfg.begunFor begun) (hcfg ▸ hb) hm1 hs1
      .sensorError .sensorError .sensorError
    rw [haltPairs_eq, e, hcause]
    have hv : billingRests v.billing := (d2 hs1).2.rests hP nofun
    have hf := tailgateFault_faulted hv .sensorError
    exact ⟨v, d1.trans d2, hv, haltTail_does (stopAll_does (.refl _)
      (hP.mayHalt_tailgate fun _ => tailgateMoving_faulted hf)) (others_dumps _) (others_serve _) _⟩
  · have hb' : ¬ w.cfg.begunFor begun .tailgate = true := by rw [hcfg]; exact hb
    have hstop : stop = true := by simpa [stopped, hb] using hc
    have hcause : tailgateCause s.cfg begun = .eStop := if_neg hb
    have d2 : Does (others .tailgate) w (haltPairs begun w) :=
      haltPairs_does (.refl w) (hP.mayHalt_tailgate fun h => absurd h hb')
    obtain ⟨v, d3, e⟩ := haltNamed_tailgate (c := fun _ => true) rfl
      ((d2.tailgateMoving hs1 hP.self).trans hm1) (d2 hs1).2 .eStop .eStop .eStop
    have d23 := d2.trans d3
    rw [hcause, hstop]
    refine ⟨v, d1.trans d23, (d23 hs1).2.rests hP nofun, ?_⟩
    show Does _ _ (haltTail s (haltAll (haltPairs begun w)))
    rw [haltAll_eq, e]
    exact haltTail_does (.refl _) (others_dumps _) (others_serve _) _

end

end Sys2Proof.Proofs

/-! The owners' share of an event, for all functions and for one that must not act on it: a station that a
pair error or an E-Stop bars takes no more than a refused Cycle Start from it (R36, R41, R42). -/

namespace Sys2Proof.Proofs

open Sys2Proof Sys2Proof.Machine Sys2Proof.Laws

section

variable {P : Touch → Prop} {s t u : State} {n m : Nat} {x : Station} {changed : BitVec 32}
  {begun : BitVec 8} {stop : Bool}

/-! ### All parts together -/

/-- Every part. -/
def whole : Touch → Prop := fun _ => True

theorem ready_whole (s : State) : Ready whole s where
  blade _ _ := .inl trivial
  bills := .inr ⟨fun _ _ => trivial, trivial, trivial⟩
  packs _ := .inl ⟨trivial, trivial⟩
  group := .inl trivial

theorem mayHalt_whole (c : Requester → Bool) (s : State) : MayHalt whole c s :=
  ⟨fun _ _ _ => trivial, fun _ _ => trivial, fun _ _ => trivial⟩

/-! ### The owners as a whole -/

/-- What is left of the owners' share of an event once the stations before `l` have had theirs. -/
def laterOwners (changed : BitVec 32) (begun : BitVec 8) (stop : Bool) (l : List Station) (s : State) :
    State :=
  let s := l.foldl (stationEvent changed begun stop) s
  let s := if s.cfg.touches changed .packer && !barred begun stop s.cfg .packer then packerInputs s
    else s
  if s.cfg.touches changed .tailgate && !barred begun stop s.cfg .tailgate then tailgateInputs s else s

theorem owners_eq (s : State) : owners changed begun stop s = laterOwners changed begun stop stations s :=
  rfl

/-- The owners' share with the turn of one station set apart. -/
theorem owners_split (x : Station) (changed : BitVec 32) (begun : BitVec 8) (stop : Bool) (s : State) :
    ∃ l r : List Station, x ∉ l ∧ x ∉ r ∧ r.length ≤ 2 ∧ l.length ≤ 2 ∧ owners changed begun stop s =
      laterOwners changed begun stop r
        (stationEvent changed begun stop (l.foldl (stationEvent changed begun stop) s) x) := by
  obtain ⟨l, r, hl, h1, h2⟩ := stations_split x
  have hlen : l.length + (1 + r.length) = 3 := by
    have := congrArg List.length hl
    simp [stations] at this
    omega
  refine ⟨l, r, h1, h2, by omega, by omega, ?_⟩
  rw [owners_eq, laterOwners, hl, List.foldl_append, List.foldl_cons]
  rfl

theorem stationEvents_does {l : List Station} (hx : ∀ y ∈ l, P (.function (.station y))) (hd : P .dumps)
    (hs : P .start) (t : State) : Does P t (l.foldl (stationEvent changed begun stop) t) :=
  foldl_does_mem _ (fun v y hy => stationEvent_does (.refl v) (hx y hy) hd hs _ _ _) t

theorem laterOwners_does (d : Does P s t) {l : List Station} (hx : ∀ y ∈ l, P (.function (.station y)))
    (hd : P .dumps) (hs : P .start) (he : P .serve)
    (hp : P (.function .packer) ∨ barred begun stop t.cfg .packer = true)
    (hg : P (.function .tailgate) ∨ barred begun stop t.cfg .tailgate = true) :
    Does P s (laterOwners changed begun stop l t) := by
  refine d.bind fun hr => ?_
  have d1 : Does P t (l.foldl (stationEvent changed begun stop) t) := stationEvents_does hx hd hs t
  have d2 : ∀ v, Does P t v → Does P t (if v.cfg.touches changed .packer &&
      !barred begun stop v.cfg .packer then packerInputs v else v) := by
    refine fun v h => .ite (fun hc => packerInputs_does h ⟨hp.resolve_right fun hb => ?_, hd⟩ he)
      fun _ => h
    rw [h.keeps hr keeps_cfg.mono, hb] at hc
    simp at hc
  have d3 : ∀ v, Does P t v → Does P t (if v.cfg.touches changed .tailgate &&
      !barred begun stop v.cfg .tailgate then tailgateInputs v else v) := by
    refine fun v h => .ite (fun hc => tailgateInputs_does h (hg.resolve_right fun hb => ?_) he)
      fun _ => h
    rw [h.keeps hr keeps_cfg.mono, hb] at hc
    simp at hc
  exact d3 _ (d2 _ d1)

theorem owners_does (d : Does P s t) (hx : ∀ x, P (.function (.station x))) (hd : P .dumps)
    (hs : P .start) (he : P .serve)
    (hp : P (.function .packer) ∨ barred begun stop t.cfg .packer = true)
    (hg : P (.function .tailgate) ∨ barred begun stop t.cfg .tailgate = true) :
    Does P s (owners changed begun stop t) := laterOwners_does d (fun y _ => hx y) hd hs he hp hg

/-- The owners that come after a station, for a station that is left alone. -/
theorem laterOwners_others {l : List Station} (hx : x ∉ l) (s : State) :
    Does (others (.station x)) s (laterOwners changed begun stop l s) :=
  have hP := spares_others (.station x)
  laterOwners_does (.refl s) (fun _ hy => hP.function _ fun e => hx (by cases e; exact hy))
    (others_dumps _) (others_start _) (others_serve _) (.inl (hP.function _ nofun))
    (.inl (hP.function _ nofun))

theorem stationEvents_ledger (hr : billingRests s.billing) (l : List Station) (changed : BitVec 32)
    (begun : BitVec 8) (stop : Bool) :
    Ledger l.length s (l.foldl (stationEvent changed begun stop) s) := by
  have h := foldl_ledger (f := stationEvent changed begun stop)
    (fun _ _ h => stationEvent_ledger h changed begun stop) l hr
  simpa using h

theorem laterOwners_ledger (hr : billingRests s.billing) (l : List Station) (changed : BitVec 32)
    (begun : BitVec 8) (stop : Bool) : Ledger l.length s (laterOwners changed begun stop l s) := by
  have h2 : ∀ v, Ledger 0 v (if v.cfg.touches changed .packer &&
      !barred begun stop v.cfg .packer then packerInputs v else v) :=
    fun v => .ite (fun _ => packerInputs_ledger) fun _ => .refl v
  have h3 : ∀ v, Ledger 0 v (if v.cfg.touches changed .tailgate &&
      !barred begun stop v.cfg .tailgate then tailgateInputs v else v) :=
    fun v => .ite (fun _ => tailgateInputs_ledger) fun _ => .refl v
  exact ((stationEvents_ledger hr l changed begun stop).trans (h2 _)).trans (h3 _)

/-! ### A station that is barred -/

/-- A station is as it was but for a Cycle Start that was refused it (R47). -/
def Rebuffed (x : Station) (s t : State) : Prop :=
  t = s ∨ ∃ k c, t = s.setLift x { s.lift x with startRefusals := k, lastRefusal := c }

/-- No Cycle Start of a station is accepted (R47). -/
def noStart (x : Station) (s : State) : Prop := s.scanOk = false ∨ s.pairErrorOf (.station x) = true

theorem noStart_congr (hs : t.scanner = s.scanner) (hc : t.cfg = s.cfg) (h : noStart x s) :
    noStart x t := by
  unfold noStart State.scanOk State.eStop State.role State.input State.pairErrorOf at *
  rw [hs, hc]
  exact h

theorem startRefusal_noStart (h : noStart x s) : ∃ r, s.startRefusal x = some r := by
  unfold State.startRefusal
  rcases h with h | h <;> simp only [h] <;> (repeat' split) <;> simp_all

theorem cycleStart_rebuffed (h : noStart x s) : Rebuffed x s (cycleStart x s).2 := by
  obtain ⟨r, hr⟩ := startRefusal_noStart h
  unfold cycleStart
  split
  · exact .inl rfl
  · rw [hr]
    exact .inr ⟨_, _, rfl⟩

theorem Rebuffed.cfg (h : Rebuffed x s t) : t.cfg = s.cfg := by
  obtain rfl | ⟨k, c, rfl⟩ := h <;> rfl

theorem stationEvent_barred (hn : noStart x s) (hb : barred begun stop s.cfg (.station x) = true) :
    Rebuffed x s (stationEvent changed begun stop s x) := by
  have h1 : Rebuffed x s (if s.startPressed changed x then (cycleStart x s).2 else s) := by
    split
    · exact cycleStart_rebuffed hn
    · exact .inl rfl
  unfold stationEvent
  dsimp only
  generalize (if s.startPressed changed x then (cycleStart x s).2 else s) = v at h1
  have hv : barred begun stop v.cfg (.station x) = true := h1.cfg ▸ hb
  simp only [hv, Bool.not_true, Bool.and_false, Bool.false_eq_true, if_false]
  exact h1

/-- What a rebuff leaves of a lift. -/
theorem Rebuffed.lift {α : Type} (ρ : Lift → α)
    (hρ : ∀ l k c, ρ { l with startRefusals := k, lastRefusal := c } = ρ l) (h : Rebuffed x s t)
    (y : Station) : ρ (t.lift y) = ρ (s.lift y) := by
  obtain rfl | ⟨k, c, rfl⟩ := h
  · rfl
  · rw [lift_setLift]
    split
    · rename_i e
      rw [hρ, e]
    · rfl

theorem Rebuffed.keeps {α : Type} (π : State → α) (hk : Keeps π [.lifts]) (h : Rebuffed x s t) :
    π t = π s := by
  obtain rfl | ⟨k, c, rfl⟩ := h
  · rfl
  · exact hk.lifts (by decide) s _

theorem Rebuffed.rests (h : Rebuffed x s t) (hs : billingRests s.billing) : billingRests t.billing := by
  rw [h.keeps _ keeps_billing.mono]
  exact hs

theorem Rebuffed.waits (h : Rebuffed x s t) (hs : ¬ bladeWaits s x) : ¬ bladeWaits t x := by
  unfold bladeWaits
  rw [h.lift Lift.state fun _ _ _ => rfl, h.lift Lift.wait fun _ _ _ => rfl]
  exact hs

/-- The owners' share around a station that is barred: the others', its rebuff, and the others' again. -/
theorem owners_barred (hr : billingRests s.billing) (hw : ¬ bladeWaits s x) (hn : noStart x s)
    (hb : barred begun stop s.cfg (.station x) = true) :
    ∃ v w, Does (others (.station x)) s v ∧ Rebuffed x v w ∧
      Does (others (.station x)) w (owners changed begun stop s) ∧
      Ready (others (.station x)) w := by
  have hP := spares_others (.station x)
  have hs := ready_station hr hw
  obtain ⟨l, r, h1, h2, -, -, hsplit⟩ := owners_split x changed begun stop s
  have d1 : Does (others (.station x)) s (l.foldl (stationEvent changed begun stop) s) :=
    stationEvents_does (fun _ hy => hP.function _ fun e => h1 (by cases e; exact hy))
      (others_dumps _) (others_start _) s
  rw [hsplit]
  generalize l.foldl (stationEvent changed begun stop) s = v at *
  have hcfg := d1.keeps hs keeps_cfg.mono
  have k1 := stationEvent_barred (x := x) (changed := changed) (begun := begun) (stop := stop)
    (noStart_congr (d1.keeps hs keeps_scanner.mono) hcfg hn) (hcfg ▸ hb)
  have wv : ¬ bladeWaits v x := by
    unfold bladeWaits
    rw [(d1.stays hs hP.self).1, (d1.stays hs hP.self).2]
    exact hw
  exact ⟨v, _, d1, k1, laterOwners_others h2 _,
    ready_station (k1.rests ((d1 hs).2.rests hP nofun)) (k1.waits wv)⟩

/-- A station that neither acts nor faults, but may be refused a Cycle Start. -/
structure Sidelined (x : Station) (s t : State) : Prop where
  state : (t.lift x).state = (s.lift x).state
  record : (t.lift x).record = (s.lift x).record
  faults : (t.lift x).faults = (s.lift x).faults
  lastFault : (t.lift x).lastFault = (s.lift x).lastFault
  request : t.request (.station x) = s.request (.station x)

theorem Sidelined.trans (h : Sidelined x s t) (k : Sidelined x t u) : Sidelined x s u :=
  ⟨k.state.trans h.state, k.record.trans h.record, k.faults.trans h.faults,
    k.lastFault.trans h.lastFault, k.request.trans h.request⟩

theorem Stands.sidelined (h : Stands x s t) : Sidelined x s t := by
  obtain ⟨h1, -, -, h4, -, h6, h7⟩ := h.lift
  exact ⟨h1, h4, h6, h7, h.request⟩

theorem Rebuffed.sidelined (h : Rebuffed x s t) (y : Station) : Sidelined y s t :=
  ⟨h.lift _ (fun _ _ _ => rfl) y, h.lift _ (fun _ _ _ => rfl) y, h.lift _ (fun _ _ _ => rfl) y,
    h.lift _ (fun _ _ _ => rfl) y, requests_congr (h.keeps _ keeps_arbiter.mono) _⟩

theorem owners_sidelined (hr : billingRests s.billing) (hw : ¬ bladeWaits s x) (hn : noStart x s)
    (hb : barred begun stop s.cfg (.station x) = true) :
    Sidelined x s (owners changed begun stop s) := by
  obtain ⟨v, w, d1, k, d2, hr2⟩ := owners_barred (changed := changed) hr hw hn hb
  have hP := spares_others (.station x)
  exact ((d1.stands (ready_station hr hw) hP.self).sidelined.trans (k.sidelined x)).trans
    (d2.stands hr2 hP.self).sidelined

/-! ### What bars a function -/

theorem barred_begun {c : Mem} {r : Requester} (h : c.begunFor begun r = true) :
    barred begun stop c r = true := by
  rw [barred, h, Bool.or_true]

/-- A pair error that begins is one that holds (R40, R41). -/
theorem pairErrorOf_begun {r : Requester} (hj : ∀ j, begun.getLsbD j = true →
    s.scanner.pairErrors.getLsbD j = true) (h : s.cfg.begunFor begun r = true) :
    s.pairErrorOf r = true := by
  unfold Mem.begunFor at h
  unfold State.pairErrorOf
  rw [List.any_eq_true] at h ⊢
  obtain ⟨j, h1, h2⟩ := h
  obtain ⟨h2, h3⟩ := Bool.and_eq_true_iff.mp h2
  exact ⟨j, h1, by simp [hasBit, hj j h2, h3]⟩

/-- The pairs that are found to begin now are errors that hold. -/
theorem begunNow_holds (s : State) (j : Nat) (h : (begunNow s).getLsbD j = true) :
    (evaluated s).scanner.pairErrors.getLsbD j = true := by
  rw [evaluated_scanner]
  unfold begunNow at h
  rw [BitVec.getLsbD_and] at h
  exact (Bool.and_eq_true_iff.mp h).1

theorem evaluated_pairErrorOf {r : Requester} (h : s.cfg.begunFor (begunNow s) r = true) :
    (evaluated s).pairErrorOf r = true :=
  pairErrorOf_begun (begunNow_holds s) (by
    rw [evaluated_keeps _ keeps_cfg.mono]
    exact h)

theorem noAuto_begun (h : s.pairErrorOf .packer = true) : noAuto s := by
  unfold noAuto
  rw [h, Bool.or_true]

theorem noStart_stop (h : s.eStop = true) (x : Station) : noStart x s := by
  unfold noStart State.scanOk
  simp [h]

theorem eStop_congr (hs : t.scanner = s.scanner) (hc : t.cfg = s.cfg) : t.eStop = s.eStop := by
  unfold State.eStop State.role State.input
  rw [hs, hc]

end

end Sys2Proof.Proofs

/-! What a group read publishes (O23): the Change Map and the pairs, and for each function whose pair error
begins, the Fault that it enters or the state that it keeps (R37 to R41). -/

namespace Sys2Proof.Proofs

open Sys2Proof Sys2Proof.Machine Sys2Proof.Laws

section

variable {P : Touch → Prop} {s t u : State} {x : Station} {changed : BitVec 32}
  {begun : BitVec 8} {stop : Bool}

/-! ### The samples -/

theorem sampled_keeps {α : Type} (π : State → α) (hk : Keeps π [.sys, .scanner]) (lines : Byte)
    (e : Nat) (s : State) : π (sampled lines e s) = π s := by
  unfold sampled driven State.reach
  rw [hk.scanner, hk.sys, hk.sys]

/-- What an announcement handles is left alone by the samples. -/
theorem sampleGroup_frame (c : Mem) (lines : Byte) (x : Scanner) :
    sampleGroup c lines x = { x with
      pointer := (sampleGroup c lines x).pointer, scans := (sampleGroup c lines x).scans
      raw := (sampleGroup c lines x).raw, logical := (sampleGroup c lines x).logical
      filtered := (sampleGroup c lines x).filtered, disagree := (sampleGroup c lines x).disagree } := by
  have fold : ∀ (l : List (Fin 32)) (y : Scanner), l.foldl (sampleInput c lines) y = { y with
      raw := (l.foldl (sampleInput c lines) y).raw
      logical := (l.foldl (sampleInput c lines) y).logical
      filtered := (l.foldl (sampleInput c lines) y).filtered
      disagree := (l.foldl (sampleInput c lines) y).disagree } := by
    intro l
    induction l with
    | nil => exact fun _ => rfl
    | cons i l ih =>
      intro y
      rw [List.foldl_cons, ih]
      rfl
  unfold sampleGroup
  rw [fold]

/-- The scanner's share that the samples leave alone. -/
structure Unsampled (x y : Scanner) : Prop where
  ready : y.ready = x.ready
  published : y.published = x.published
  changeMap : y.changeMap = x.changeMap
  pairErrors : y.pairErrors = x.pairErrors
  pairCounts : y.pairCounts = x.pairCounts

theorem sampled_unsampled (lines : Byte) (e : Nat) (s : State) :
    Unsampled s.scanner (sampled lines e s).scanner := by
  have h : (sampled lines e s).scanner = { sampleGroup s.cfg lines s.scanner with
    nextRead := .running (e + Config.groupTime) } := rfl
  rw [h, sampleGroup_frame]
  exact ⟨rfl, rfl, rfl, rfl, rfl⟩

theorem afterSamples_ready {full : Bool} (h : u.scanner.ready = true) :
    afterSamples full u = publish u.scanner.filtered u := by
  unfold afterSamples
  rw [if_pos h]

/-! ### The announcement of one event -/

/-- What the functions do with an event once its pairs are evaluated (R36). -/
def announced (changed : BitVec 32) (begun : BitVec 8) (stop : Bool) (s : State) : State :=
  owners changed begun stop (haltFunctions begun stop s)

theorem announced_whole : Does whole s (announced changed begun stop s) :=
  owners_does (haltFunctions_does (.refl s) trivial trivial (.inl trivial) (mayHalt_whole _ _))
    (fun _ => trivial) trivial trivial trivial (.inl trivial) (.inl trivial)

theorem announced_keeps {α : Type} {π : State → α}
    (hk : Keeps π [.arb, .agent, .body, .control, .lifts, .markers, .weigh, .zeros, .tags, .arbiter,
      .packer, .tailgate, .queue, .store, .clock, .payload, .billing, .table]) :
    π (announced changed begun stop s) = π s := announced_whole.keeps (ready_whole s) hk

theorem haltFunctions_keeps_of {α : Type} {π : State → α}
    (hk : Keeps π [.arb, .agent, .body, .control, .lifts, .markers, .weigh, .zeros, .tags, .arbiter,
      .packer, .tailgate, .queue, .store, .clock, .payload, .billing, .table]) :
    π (haltFunctions begun stop s) = π s :=
  (haltFunctions_does (P := whole) (.refl s) trivial trivial (.inl trivial) (mayHalt_whole _ _)).keeps
    (ready_whole s) hk

theorem not_waits_of_still (h : s.stationMoving x = false) : ¬ bladeWaits s x := by
  intro hw
  unfold State.stationMoving at h
  rw [hw.1] at h
  exact absurd h (by decide)

theorem Does.sidelined (d : Does P s t) (hs : Ready P s) (hx : ¬ P (.function (.station x))) :
    Sidelined x s t := (d.stands hs hx).sidelined

/-- A station that an event names faults in it, and keeps its Fault to the end of it. -/
theorem announced_faults (hr : billingRests s.billing) (hn : noStart x s)
    (hc : stopped s.cfg begun stop (.station x) = true) (hm : s.stationMoving x = true) :
    ∃ v, Does (othersFirst (.station x)) s v ∧ Faulted x (haltCause s.cfg begun x) v
        (haltStation x (haltCause s.cfg begun x) v) ∧
      Sidelined x (haltStation x (haltCause s.cfg begun x) v) (announced changed begun stop s) := by
  obtain ⟨v, d1, L1, d2, L2⟩ := haltFunctions_station hr hc hm
  have hf := haltStation_faulted (x := x) (L1.rests hr) (haltCause s.cfg begun x)
  have hrf := (haltStation_ledger (x := x) (L1.rests hr) (haltCause s.cfg begun x)).rests (L1.rests hr)
  have hready := ready_faulted hf hrf
  have hP := spares_others (.station x)
  have hcfg : (haltFunctions begun stop s).cfg = s.cfg := haltFunctions_keeps_of keeps_cfg.mono
  have hscan : (haltFunctions begun stop s).scanner = s.scanner :=
    haltFunctions_keeps_of keeps_scanner.mono
  have k := d2.sidelined hready hP.self
  refine ⟨v, d1, hf, k.trans ?_⟩
  have hstill : (haltFunctions begun stop s).stationMoving x = false :=
    (d2.stationMoving hready hP.self).trans (stationMoving_faulted hf)
  exact owners_sidelined (L2.rests hrf) (not_waits_of_still hstill) (noStart_congr hscan hcfg hn)
    (hcfg ▸ hc)

/-- A station at rest that an event names keeps its state. -/
theorem announced_rests (hr : billingRests s.billing) (hn : noStart x s)
    (hc : stopped s.cfg begun stop (.station x) = true) (hm : s.stationMoving x = false) :
    Sidelined x s (announced changed begun stop s) := by
  have hP := spares_others (.station x)
  have hs := ready_station hr (not_waits_of_still hm)
  have d1 : Does (others (.station x)) s (haltFunctions begun stop s) :=
    haltFunctions_does (.refl s) (others_dumps _) (others_serve _) (.inl (hP.function _ nofun))
      (hP.mayHalt_station fun _ => hm)
  have hcfg := d1.keeps hs keeps_cfg.mono
  have hscan := d1.keeps hs keeps_scanner.mono
  exact (d1.sidelined hs hP.self).trans (owners_sidelined ((d1 hs).2.rests hP nofun)
    (not_waits_of_still ((d1.stationMoving hs hP.self).trans hm)) (noStart_congr hscan hcfg hn)
    (hcfg ▸ hc))

theorem clearPackPending_none (s : State) : (clearPackPending s).packer.packPending = false := rfl

theorem clearPackPending_state (s : State) : (clearPackPending s).packer.state = s.packer.state := rfl

theorem cancelled_named (h : stopped s.cfg begun stop .packer = true) :
    cancelled begun stop s = clearPackPending s := if_pos h

theorem cancelled_ready (hP : Spares .packer P) (he : P .serve) (ha : P .dumps → noAuto s)
    (h : stopped s.cfg begun stop .packer = true) : Ready P (cancelled begun stop s) := by
  rw [cancelled_named h]
  exact hP.ready he (clearPackPending_none s) fun hd =>
    noAuto_congr (clearPackPending_keeps _ keeps_scanner.mono _)
      (clearPackPending_keeps _ keeps_cfg.mono _) (clearPackPending_keeps _ keeps_mode.mono _)
      (clearPackPending_keeps _ keeps_sys.mono _) (ha hd)

/-- What follows the Faults of a stop, up to the end of the event, for a packer that it names. -/
theorem announced_tail (old : State) (hs : Ready (others .packer) s)
    (hc : stopped s.cfg begun stop .packer = true) :
    Does (others .packer) s (owners changed begun stop (haltTail old s)) := by
  have hP := spares_others .packer
  have d : Does (others .packer) s (haltTail old s) :=
    haltTail_does (.refl s) (others_dumps _) (others_serve _) old
  exact owners_does d (fun _ => hP.function _ nofun) (others_dumps _) (others_start _)
    (others_serve _) (.inr (by rw [d.keeps hs keeps_cfg.mono]; exact hc)) (.inl (hP.function _ nofun))

theorem announced_eq : announced changed begun stop s = owners changed begun stop
    (haltTail s (stopAll stop (haltPairs begun (cancelled begun stop s)))) := by
  rw [announced, haltFunctions_eq]

/-- The packer that an event names: a pack pending is gone, and it faults if it was in motion. -/
theorem announced_packer (ha : noAuto s) (hc : stopped s.cfg begun stop .packer = true) :
    (announced changed begun stop s).packer.packPending = false ∧
    (s.packerMoving = true → (announced changed begun stop s).packer.state = .fault ∧
      (announced changed begun stop s).packer.lastFault = some (packerCause s.cfg begun) ∧
      (announced changed begun stop s).request .packer = none) ∧
    (s.packerMoving = false → (announced changed begun stop s).packer.state = s.packer.state) := by
  have hP := spares_others .packer
  have he := others_serve .packer
  have hs := cancelled_ready hP he (fun _ => ha) hc
  have hcfg : (cancelled begun stop s).cfg = s.cfg := cancelled_keeps _ keeps_cfg.mono begun stop s
  have hstate : (cancelled begun stop s).packer.state = s.packer.state := by
    rw [cancelled_named hc]
    exact clearPackPending_state s
  have hpend : (cancelled begun stop s).packer.packPending = false := by
    rw [cancelled_named hc]
    exact clearPackPending_none s
  have hmoving : (cancelled begun stop s).packerMoving = s.packerMoving := by
    unfold State.packerMoving
    rw [hstate]
  have hauto : noAuto (cancelled begun stop s) :=
    noAuto_congr (cancelled_keeps _ keeps_scanner.mono _ _ _) hcfg
      (cancelled_keeps _ keeps_mode.mono _ _ _) (cancelled_keeps _ keeps_sys.mono _ _ _) ha
  rw [announced_eq]
  generalize cancelled begun stop s = w at *
  cases hm : s.packerMoving with
  | false =>
    have d1 : Does (others .packer) w (stopAll stop (haltPairs begun w)) := by
      have hw := hmoving.trans hm
      have d := haltPairs_does (begun := begun) (.refl w) (hP.mayHalt_packer fun _ => hw)
      exact stopAll_does d (hP.mayHalt_packer fun _ => (d.packerMoving hs hP.self).trans hw)
    have hs1 := (d1 hs).2
    have d2 := announced_tail (changed := changed) s hs1 (begun := begun) (stop := stop)
      (by rw [d1.keeps hs keeps_cfg.mono, hcfg]; exact hc)
    exact ⟨(d1.trans d2).packPending hs hP.self hpend fun _ => hauto, nofun, fun _ =>
      ((d2.packerState hs1 hP.self).trans (d1.packerState hs hP.self)).trans hstate⟩
  | true =>
    obtain ⟨v, d1, d2⟩ := stopAll_packer hP he hs (fun _ => hauto) (hcfg.symm ▸ hc)
      (hmoving.trans hm)
    rw [hcfg] at d2
    have hf := haltPacker_faulted (packerCause s.cfg begun) v
    have hv := hP.ready he hf.idle fun _ => noAuto_halted (d1.noAuto hs hauto)
    have hs1 := (d2 hv).2
    have hcv : (stopAll stop (haltPairs begun w)).cfg = s.cfg :=
      ((d2.keeps hv keeps_cfg.mono).trans (haltPacker_keeps _ keeps_cfg.mono _ _)).trans
        ((d1.keeps hs keeps_cfg.mono).trans hcfg)
    have d3 := d2.trans (announced_tail (changed := changed) s hs1 (hcv.symm ▸ hc))
    exact ⟨d3.packPending hv hP.self hf.idle fun _ => noAuto_halted (d1.noAuto hs hauto),
      fun _ => ⟨(d3.packerState hv hP.self).trans hf.state,
      (d3.packerLastFault hv hP.self).trans hf.cause, (d3.request hv hP.self).trans hf.request⟩, nofun⟩

/-- The tailgate that an event names faults if it was in motion, and else keeps its state. -/
theorem announced_tailgate (hr : billingRests s.billing)
    (hc : stopped s.cfg begun stop .tailgate = true) :
    (s.tailgateMoving = true → ∃ v, Does (others .tailgate) s v ∧ billingRests v.billing ∧
      Does (others .tailgate) (tailgateFault (tailgateCause s.cfg begun) v)
        (announced changed begun stop s)) ∧
    (s.tailgateMoving = false → Does (others .tailgate) s (announced changed begun stop s)) := by
  have hP := spares_others .tailgate
  have hs := ready_tailgate hr
  have hcfg : (haltFunctions begun stop s).cfg = s.cfg := haltFunctions_keeps_of keeps_cfg.mono
  have d3 : Does (others .tailgate) (haltFunctions begun stop s) (announced changed begun stop s) :=
    owners_does (.refl _) (fun _ => hP.function _ nofun) (others_dumps _) (others_start _)
      (others_serve _) (.inl (hP.function _ nofun)) (.inr (hcfg.symm ▸ hc))
  refine ⟨fun hm => ?_, fun hm => ?_⟩
  · obtain ⟨v, d1, hv, d2⟩ := haltFunctions_tailgate hr hc hm
    exact ⟨v, d1, hv, d2.trans d3⟩
  · exact (haltFunctions_does (.refl s) (others_dumps _) (others_serve _)
      (.inl (hP.function _ nofun)) (hP.mayHalt_tailgate fun _ => hm)).trans d3

theorem tailgateFault_rests (hr : billingRests s.billing) (c : TailgateFault) :
    Ready (others .tailgate) (tailgateFault c s) :=
  ready_tailgate ((tailgateFault_ledger hr c).rests hr)

end

end Sys2Proof.Proofs

/-! O23: what a group read publishes after Scan Ready (R36 to R41). -/

namespace Sys2Proof.Proofs

open Sys2Proof Sys2Proof.Machine Sys2Proof.Laws

section

variable {s t u : State} {x : Station} {new : BitVec 32} {b : Nat}

/-! ### The notices of an announcement (R38, R40) -/

theorem noticed_base {y : State} (ha : y.agent = s.agent) (h : y.noticed t b) : s.noticed t b := by
  unfold State.noticed at *
  rw [ha] at h
  exact h

theorem quiet_base {y : State} (ha : y.agent = s.agent) (h : y.quiet t b) : s.quiet t b :=
  fun e => ha ▸ h e

/-- The changes of an event that raise Input Change (R38). -/
def freshChanges (new : BitVec 32) (s : State) : BitVec 32 :=
  (s.scanner.published ^^^ new) &&& ~~~ s.scanner.changeMap &&& s.cfg.changeMask

theorem published_notices (new : BitVec 32) (s : State) :
    Spaced s (evaluated (published new s)) ∧
    (freshChanges new s ≠ 0 → s.noticed (evaluated (published new s)) 2) ∧
    (freshChanges new s = 0 → s.quiet (evaluated (published new s)) 2) ∧
    (begunNow (published new s) ≠ 0 → s.noticed (evaluated (published new s)) 3) ∧
    (begunNow (published new s) = 0 → s.quiet (evaluated (published new s)) 3) := by
  obtain ⟨h1, h2, h3, h4⟩ := recordChanges_notices (s.scanner.published ^^^ new)
    (s.setScanner { s.scanner with published := new })
  have hy : (s.setScanner { s.scanner with published := new }).agent = s.agent := rfl
  have hs : Spaced s (published new s) :=
    (Spaced.of_eq (s := s) (t := s.setScanner { s.scanner with published := new }) rfl rfl).trans h1
  obtain ⟨k1, k2, k3, k4, k5⟩ := evaluated_notices (published new s)
  exact ⟨hs.trans k1, fun h => k4 s hs (noticed_base hy (h2 h)), fun h e => quiet_base hy (h3 h) (k5 e),
    k2 s hs, fun h e => quiet_base hy h4 (k3 h e)⟩

theorem not_mayRaise_change : ¬ mayRaise whole 2 := by
  rintro ⟨n, hn, h, -, -⟩
  cases n <;> first | exact h rfl | exact absurd hn (by decide)

theorem not_mayRaise_sensor : ¬ mayRaise whole 3 := by
  rintro ⟨n, hn, -, h, -⟩
  cases n <;> first | exact h rfl | exact absurd hn (by decide)

/-! ### A group read that publishes changes -/

/-- The state that the functions find when a group read publishes changes (R36, R40). -/
abbrev heard (new : BitVec 32) (s : State) : State := evaluated (published new s)

/-- The state in which a group read that publishes changes leaves the part. -/
def changedState (new : BitVec 32) (s : State) : State :=
  settleToggles (announced (s.scanner.published ^^^ new) (begunNow (published new s))
    (!s.eStop && (heard new s).eStop) (heard new s))

theorem settled_publish (h : s.scanner.published ^^^ new ≠ 0) :
    settleToggles (publish new s) = changedState new s := by
  rw [publish_changed h]
  rfl

theorem changedState_keeps {α : Type} {π : State → α}
    (hk : Keeps π [.toggles, .arb, .agent, .body, .control, .lifts, .markers, .weigh, .zeros, .tags, .arbiter,
      .packer, .tailgate, .queue, .store, .clock, .payload, .billing, .table]) (new : BitVec 32)
    (s : State) : π (changedState new s) = π (heard new s) := by
  unfold changedState
  rw [settleToggles_keeps π hk.mono, announced_keeps hk.mono]

theorem heard_keeps {α : Type} {π : State → α} (hk : Keeps π [.scanner, .agent, .body, .control])
    (new : BitVec 32) (s : State) : π (heard new s) = π s := by
  rw [evaluated_keeps π hk, published_keeps π hk]

theorem published_scanner (new : BitVec 32) (s : State) : (published new s).scanner =
    { s.scanner with
      published := new, changeMap := s.scanner.changeMap ||| (s.scanner.published ^^^ new) } := by
  unfold published
  rw [recordChanges_scanner]
  rfl

theorem heard_scanner (new : BitVec 32) (s : State) : (heard new s).scanner = { s.scanner with
    published := new, changeMap := s.scanner.changeMap ||| (s.scanner.published ^^^ new)
    pairErrors := (published new s).pairsNow
    pairCounts := countPairs (begunNow (published new s)) s.scanner.pairCounts } := by
  rw [evaluated_scanner, published_scanner]

theorem changedState_scanner (new : BitVec 32) (s : State) :
    (changedState new s).scanner = (heard new s).scanner := changedState_keeps keeps_scanner.mono new s

/-- The pair errors that begin are those that the scanner holds after the event and not before. -/
theorem begun_eq (new : BitVec 32) (s : State) :
    (heard new s).scanner.pairErrors &&& ~~~ s.scanner.pairErrors = begunNow (published new s) := by
  rw [heard_scanner]
  unfold begunNow
  rw [published_scanner]

theorem countPairs_get (begun : BitVec 8) (v : Vector Nat 8) (j : Fin 8) :
    (countPairs begun v)[j] = if begun.getLsbD j then bump v[j] else v[j] := by
  simp [countPairs, hasBit]

/-- A pair whose inputs are read from the states now published (R40). -/
theorem pairsNow_read (hs : t.scanner.published = s.scanner.published) (hc : t.cfg = s.cfg)
    (j : Fin 8) : s.pairsNow.getLsbD j =
      (t.cfg.pairEnabled j && t.input (t.cfg.pairA j) && t.input (t.cfg.pairB j)) := by
  rw [show s.pairsNow.getLsbD j = s.pairsNow.getLsbD j.val from rfl, pairsNow_bit]
  unfold State.pairHolds State.input
  rw [hs, hc]

theorem changedState_notices (new : BitVec 32) (s : State) :
    (freshChanges new s ≠ 0 → s.noticed (changedState new s) 2) ∧
    (freshChanges new s = 0 → s.quiet (changedState new s) 2) ∧
    (begunNow (published new s) ≠ 0 → s.noticed (changedState new s) 3) ∧
    (begunNow (published new s) = 0 → s.quiet (changedState new s) 3) := by
  obtain ⟨h1, h2, h3, h4, h5⟩ := published_notices new s
  have d := announced_whole (changed := s.scanner.published ^^^ new)
    (begun := begunNow (published new s)) (stop := !s.eStop && (heard new s).eStop) (s := heard new s)
  have hr := ready_whole (heard new s)
  have keep : ∀ {b}, s.noticed (announced (s.scanner.published ^^^ new) (begunNow (published new s))
      (!s.eStop && (heard new s).eStop) (heard new s)) b → s.noticed (changedState new s) b :=
    fun h => noticed_congr (settleToggles_keeps _ keeps_cfg.mono _)
      (settleToggles_keeps _ keeps_agent.mono _) h
  have hush : ∀ {b}, s.quiet (heard new s) b → ¬ mayRaise whole b → s.quiet (changedState new s) b :=
    fun h hb e => h (d.quiet hr hb (settleToggles_keeps State.agent keeps_agent.mono _ ▸ e))
  exact ⟨fun h => keep (d.noticed hr h1 (h2 h)), fun h => hush (h3 h) not_mayRaise_change,
    fun h => keep (d.noticed hr h1 (h4 h)), fun h => hush (h5 h) not_mayRaise_sensor⟩

/-! ### The functions of an event that publishes changes (R41) -/

theorem heard_noStart (h : s.cfg.begunFor (begunNow (published new s)) (.station x) = true) :
    noStart x (heard new s) :=
  .inr (evaluated_pairErrorOf (by rw [published_keeps _ keeps_cfg.mono]; exact h))

theorem heard_noAuto (h : s.cfg.begunFor (begunNow (published new s)) .packer = true) :
    noAuto (heard new s) :=
  noAuto_begun (evaluated_pairErrorOf (by rw [published_keeps _ keeps_cfg.mono]; exact h))

theorem stopped_begun {c : Mem} {begun : BitVec 8} {r : Requester} (stop : Bool)
    (h : c.begunFor begun r = true) : stopped c begun stop r = true := barred_begun h

theorem stationMoving_congr (h : t.lifts = s.lifts) (x : Station) :
    t.stationMoving x = s.stationMoving x := by
  unfold State.stationMoving State.lift
  rw [h]

theorem packerMoving_congr (h : t.packer = s.packer) : t.packerMoving = s.packerMoving := by
  unfold State.packerMoving
  rw [h]

theorem tailgateMoving_congr (h : t.tailgate = s.tailgate) : t.tailgateMoving = s.tailgateMoving := by
  unfold State.tailgateMoving
  rw [h]

theorem settleToggles_lift (s : State) (x : Station) : (settleToggles s).lift x = s.lift x := rfl

theorem settleToggles_request (s : State) (r : Requester) : (settleToggles s).request r = s.request r :=
  rfl

/-- A station whose pair error begins (R41). -/
theorem changedState_station (hr : billingRests s.billing)
    (hb : s.cfg.begunFor (begunNow (published new s)) (.station x) = true) :
    (s.stationMoving x = true → ((changedState new s).lift x).state = .fault ∧
      ((changedState new s).lift x).lastFault = some .sensorError ∧
      ((changedState new s).lift x).faults = bump (s.lift x).faults ∧
      (changedState new s).request (.station x) = none) ∧
    (s.stationMoving x = false → ((changedState new s).lift x).state = (s.lift x).state) := by
  have hl : (heard new s).lifts = s.lifts := heard_keeps keeps_lifts.mono new s
  have hcfg : (heard new s).cfg = s.cfg := heard_keeps keeps_cfg.mono new s
  have hrv : billingRests (heard new s).billing := by
    rw [heard_keeps keeps_billing.mono]
    exact hr
  have hn := heard_noStart hb
  have hm := stationMoving_congr hl x
  have hx : (heard new s).lift x = s.lift x := congrArg (·.get x) hl
  have hc := stopped_begun (!s.eStop && (heard new s).eStop) (hcfg.symm ▸ hb)
  have hcause : haltCause (heard new s).cfg (begunNow (published new s)) x = .sensorError :=
    if_pos (hcfg.symm ▸ hb)
  unfold changedState
  rw [settleToggles_lift, settleToggles_request, ← hm, ← hx]
  generalize heard new s = v at *
  refine ⟨fun h => ?_, fun h => (announced_rests hrv hn hc h).state⟩
  obtain ⟨w, d, hf, k⟩ := announced_faults (changed := s.scanner.published ^^^ new) hrv hn hc h
  have hw := d.stands (ready_first _ hrv) (spares_othersFirst _).self
  rw [hcause] at hf k
  exact ⟨k.state.trans hf.state, k.lastFault.trans hf.cause,
    (k.faults.trans hf.faults).trans (congrArg bump hw.faults), k.request.trans hf.request⟩

/-- The packer when its pair error begins (R41, R166). -/
theorem changedState_packer (hb : s.cfg.begunFor (begunNow (published new s)) .packer = true) :
    (changedState new s).packer.packPending = false ∧
    (s.packerMoving = true → (changedState new s).packer.state = .fault ∧
      (changedState new s).packer.lastFault = some .sensorError ∧
      (changedState new s).request .packer = none) ∧
    (s.packerMoving = false → (changedState new s).packer.state = s.packer.state) := by
  have hp : (heard new s).packer = s.packer := heard_keeps keeps_packer.mono new s
  have hcfg : (heard new s).cfg = s.cfg := heard_keeps keeps_cfg.mono new s
  have hcause : packerCause (heard new s).cfg (begunNow (published new s)) = .sensorError :=
    if_pos (hcfg.symm ▸ hb)
  have h := announced_packer (changed := s.scanner.published ^^^ new) (heard_noAuto hb)
    (stopped_begun (!s.eStop && (heard new s).eStop) (hcfg.symm ▸ hb))
  rw [hcause, packerMoving_congr hp, hp] at h
  exact h

/-- The tailgate when its pair error begins (R41). -/
theorem changedState_tailgate (hr : billingRests s.billing)
    (hb : s.cfg.begunFor (begunNow (published new s)) .tailgate = true) :
    (s.tailgateMoving = true → (changedState new s).tailgate.state = .fault ∧
      (changedState new s).tailgate.lastFault = some .sensorError ∧
      (changedState new s).request .tailgate = none) ∧
    (s.tailgateMoving = false → (changedState new s).tailgate.state = s.tailgate.state) := by
  have hg : (heard new s).tailgate = s.tailgate := heard_keeps keeps_tailgate.mono new s
  have hcfg : (heard new s).cfg = s.cfg := heard_keeps keeps_cfg.mono new s
  have hrv : billingRests (heard new s).billing := by
    rw [heard_keeps keeps_billing.mono]
    exact hr
  have hcause : tailgateCause (heard new s).cfg (begunNow (published new s)) = .sensorError :=
    if_pos (hcfg.symm ▸ hb)
  have hP := spares_others .tailgate
  obtain ⟨h1, h2⟩ := announced_tailgate (changed := s.scanner.published ^^^ new) hrv
    (stopped_begun (!s.eStop && (heard new s).eStop) (hcfg.symm ▸ hb))
  rw [hcause, tailgateMoving_congr hg] at h1
  rw [tailgateMoving_congr hg] at h2
  refine ⟨fun h => ?_, fun h => ?_⟩
  · obtain ⟨v, d1, hv, d2⟩ := h1 h
    have hf := tailgateFault_faulted hv .sensorError
    have hready := tailgateFault_rests (s := v) hv .sensorError
    exact ⟨(d2.tailgateState hready hP.self).trans hf.state,
      (congrArg Tailgate.lastFault (d2.tailgateUnpaced hready hP.self)).trans hf.cause,
      (d2.request hready hP.self).trans hf.request⟩
  · exact ((h2 h).tailgateState (ready_tailgate hrv) hP.self).trans (congrArg Tailgate.state hg)

end

/-- Settles O23: a read that publishes nothing leaves all of it alone, and one that publishes changes is
announced before the functions act. -/
theorem changesPublished : Obligations.ChangesPublished := by
  unfold Obligations.ChangesPublished
  intro lines e s t hl hready hnext hr hex
  rw [exec_groupRead hl.1 hnext, afterSamples_ready ((sampled_unsampled lines e s).ready.trans hready)]
    at hex
  obtain ⟨-, hpub, hmap, herr, hcnt⟩ := sampled_unsampled lines e s
  have keep : ∀ {α : Type} {π : State → α}, Keeps π [.sys, .scanner] → π (sampled lines e s) = π s :=
    fun hk => sampled_keeps _ hk lines e s
  have hcfg : (sampled lines e s).cfg = s.cfg := keep keeps_cfg.mono
  have hagent : (sampled lines e s).agent = s.agent := keep keeps_agent.mono
  have hlifts : (sampled lines e s).lifts = s.lifts := keep keeps_lifts.mono
  have hpacker : (sampled lines e s).packer = s.packer := keep keeps_packer.mono
  have htail : (sampled lines e s).tailgate = s.tailgate := keep keeps_tailgate.mono
  have hbill : (sampled lines e s).billing = s.billing := keep keeps_billing.mono
  generalize sampled lines e s = u at *
  have hm := stationMoving_congr hlifts
  have hx : ∀ x, u.lift x = s.lift x := fun x => congrArg (·.get x) hlifts
  rw [← hbill] at hr
  simp only [← hpub, ← hmap, ← herr, ← hcnt, ← hcfg, ← hagent, ← hm, ← hx, ← hpacker, ← htail,
    ← packerMoving_congr hpacker, ← tailgateMoving_congr htail]
  injection hex with ht
  by_cases hc : u.scanner.published ^^^ u.scanner.filtered = 0
  · rw [publish_unchanged hc] at ht
    have hb : u.scanner.pairErrors &&& ~~~ u.scanner.pairErrors = 0 := BitVec.and_not_self _
    have none_begun : ∀ r, u.cfg.begunFor 0 r = false := fun r => by simp [Mem.begunFor, hasBit]
    subst ht
    refine ⟨?_, ?_, fun _ => id, fun _ => ⟨rfl, rfl⟩, fun h => absurd (BitVec.xor_self) h,
      fun h => absurd hb h, fun _ => id, fun st h => ?_, fun h => ?_, fun h => ?_⟩
    · show _ = _ ||| (u.scanner.published ^^^ u.scanner.published)
      rw [BitVec.xor_self, BitVec.or_zero]
      rfl
    · intro h
      rw [show (settleToggles u).scanner = u.scanner from rfl, BitVec.xor_self, BitVec.zero_and,
        BitVec.zero_and] at h
      exact absurd rfl h
    all_goals
      rw [show (settleToggles u).scanner = u.scanner from rfl, hb, none_begun] at h
      exact Bool.noConfusion h
  · rw [settled_publish hc] at ht
    subst ht
    generalize u.scanner.filtered = new at hc ⊢
    have hs := (changedState_scanner new u).trans (heard_scanner new u)
    have hp : (changedState new u).scanner.published = new := by rw [hs]
    have hcfg : (changedState new u).cfg = u.cfg :=
      (changedState_keeps keeps_cfg.mono new u).trans (heard_keeps keeps_cfg.mono new u)
    have hbegun : (changedState new u).scanner.pairErrors &&& ~~~ u.scanner.pairErrors =
        begunNow (published new u) := by rw [changedState_scanner]; exact begun_eq new u
    obtain ⟨n1, n2, n3, n4⟩ := changedState_notices new u
    have unfolded : ∀ {b}, u.noticed (changedState new u) b → _ := fun {b} h => by
      unfold State.noticed at h
      rw [hcfg] at h
      exact h
    rw [hp, hbegun]
    refine ⟨by rw [hs], fun h => unfolded (n1 h), n2, fun h => absurd h hc, fun _ j => ⟨?_, ?_⟩,
      fun h => unfolded (n3 h), n4, fun st h => changedState_station hr h,
      fun h => changedState_packer h, fun h => changedState_tailgate hr h⟩
    · rw [hs, ← hcfg]
      exact pairsNow_read (by rw [hp, published_scanner])
        ((changedState_keeps keeps_cfg.mono new u).trans (evaluated_keeps _ keeps_cfg.mono _)) j
    · simp only [hs]
      exact countPairs_get _ _ j

end Sys2Proof.Proofs

/-! An E-Stop that becomes active: what it leaves of each function, and of the requests of the lifts that it
aborts (R42, R65, R103). -/

namespace Sys2Proof.Proofs

open Sys2Proof Sys2Proof.Machine Sys2Proof.Laws

section

variable {P : Touch → Prop} {s t u : State} {n m : Nat} {x : Station} {changed : BitVec 32}
  {begun : BitVec 8} {stop : Bool}

/-! ### The tests that follow a stop find nothing -/

theorem retestBlade_idle (h : ¬ bladeWaits s x) : retestBlade s x = s := by
  unfold retestBlade
  rw [if_neg]
  simpa [bladeWaits] using h

theorem bladeTests_idle (h : ∀ x, ¬ bladeWaits s x) : bladeTests s = s := by
  have fold : ∀ l : List Station, l.foldl retestBlade s = s := fun l => by
    induction l with
    | nil => rfl
    | cons y l ih => rw [List.foldl_cons, retestBlade_idle (h y), ih]
  exact fold _

theorem servePack_idle (h : s.packer.packPending = false) : servePack s = s := by
  unfold servePack servePending
  rw [h]
  rfl

theorem haltTail_idle (old : State) (h : ∀ x, s.stationMoving x = false)
    (hp : s.packer.packPending = false) : haltTail old s = s := by
  have hb := bladeTests_idle fun x => not_waits_of_still (h x)
  unfold haltTail
  simp only [hb, servePack_idle hp, ite_self]

/-! ### The functions that an E-Stop stops -/

/-- The state that the Faults of an E-Stop leave (R42). -/
def allHalted (begun : BitVec 8) (s : State) : State :=
  haltAll (haltPairs begun (cancelled begun true s))

theorem allHalted_rests (hr : billingRests s.billing) (begun : BitVec 8) :
    billingRests (haltPairs begun (cancelled begun true s)).billing :=
  (haltPairs_ledger ((cancelled_ledger begun true).rests hr) begun).rests
    ((cancelled_ledger begun true).rests hr)

theorem haltAll_stills (hr : billingRests s.billing) (x : Station) :
    (haltAll s).stationMoving x = false := by
  have hP := spares_others (.station x)
  rw [haltAll_eq]
  cases hm : s.stationMoving x with
  | true =>
    obtain ⟨v, -, L, d, -⟩ := haltNamed_station (c := fun _ => true) rfl hm hr .eStop .eStop .eStop
    have hf := haltStation_faulted (x := x) (L.rests hr) .eStop
    have hready := ready_faulted hf ((haltStation_ledger (L.rests hr) .eStop).rests (L.rests hr))
    exact (d.stationMoving hready hP.self).trans (stationMoving_faulted hf)
  | false =>
    have d := haltNamed_does (.refl s) (c := fun _ => true) (hP.mayHalt_station fun _ => hm) .eStop
      .eStop .eStop
    exact (d.stationMoving (ready_station hr (not_waits_of_still hm)) hP.self).trans hm

/-- What an E-Stop leaves of the packer. -/
structure PackerStopped (c : PackerFault) (s t : State) : Prop where
  idle : t.packer.packPending = false
  moving : s.packerMoving = true → t.packer.state = .fault ∧ t.packer.lastFault = some c ∧
    t.packer.faults = bump s.packer.faults
  rests : s.packerMoving = false → t.packer.state = s.packer.state
  dumps : t.packer.dumps = s.packer.dumps
  cycles : t.packer.cycles = s.packer.cycles
  stroke : t.packer.stroke = s.packer.stroke

theorem still_dumps : ¬ still .dumps := fun h => h.2 rfl

theorem still_serve : still .serve := ⟨nofun, nofun⟩

/-- The items of the packer that no pause changes. -/
theorem packer_of_unpaced {p q : Packer} (h : q.unpaced = p.unpaced) : q.state = p.state ∧
    q.packPending = p.packPending ∧ q.dumps = p.dumps ∧ q.stroke = p.stroke ∧ q.cycles = p.cycles ∧
    q.faults = p.faults ∧ q.lastFault = p.lastFault := by
  unfold Packer.unpaced at h
  simp only [Packer.mk.injEq] at h
  simp only [h, and_self]

theorem allHalted_packer (begun : BitVec 8) (s : State) :
    PackerStopped (packerCause s.cfg begun) s (allHalted begun s) := by
  have hP := spares_still
  have hc : stopped s.cfg begun true .packer = true := rfl
  have hs : Ready still (cancelled begun true s) :=
    cancelled_ready hP still_serve (fun h => absurd h still_dumps) hc
  have hcfg : (cancelled begun true s).cfg = s.cfg := cancelled_keeps _ keeps_cfg.mono begun true s
  have hp : (cancelled begun true s).packer = { s.packer with packPending := false } := by
    rw [cancelled_named hc]
    rfl
  have hmoving : (cancelled begun true s).packerMoving = s.packerMoving := by
    unfold State.packerMoving
    rw [hp]
  unfold allHalted
  generalize cancelled begun true s = w at *
  cases hm : s.packerMoving with
  | false =>
    have hw := hmoving.trans hm
    have d1 := haltPairs_does (begun := begun) (.refl w) (hP.mayHalt_packer fun _ => hw)
    have d2 : Does still w (haltAll (haltPairs begun w)) := by
      rw [haltAll_eq]
      exact haltNamed_does d1 (hP.mayHalt_packer fun _ => (d1.packerMoving hs hP.self).trans hw) _ _ _
    obtain ⟨h1, h2, h3, h4, h5, -⟩ := packer_of_unpaced (d2.packerUnpaced hs hP.self still_dumps)
    rw [hp] at h1 h2 h3 h4 h5
    exact ⟨h2, fun h => absurd (hm.symm.trans h) (by decide), fun _ => h1, h3, h5, h4⟩
  | true =>
    obtain ⟨v, d1, d2⟩ := stopAll_packer hP still_serve hs (stop := true)
      (fun h => absurd h still_dumps) rfl (hmoving.trans hm)
    obtain ⟨-, -, h3, h4, h5, h6, -⟩ := packer_of_unpaced (d1.packerUnpaced hs hP.self still_dumps)
    rw [hp] at h3 h4 h5 h6
    have hf := haltPacker_faulted (packerCause w.cfg begun) v
    have hv := hP.ready still_serve hf.idle fun h => absurd h still_dumps
    obtain ⟨k1, k2, k3, k4, k5, k6, k7⟩ := packer_of_unpaced (d2.packerUnpaced hv hP.self still_dumps)
    rw [hcfg] at hf k1 k2 k3 k4 k5 k6 k7
    exact ⟨k2.trans hf.idle, fun _ => ⟨k1.trans hf.state, k7.trans hf.cause,
        (k6.trans hf.faults).trans (congrArg bump h6)⟩,
      fun h => absurd (hm.symm.trans h) (by decide), (k3.trans hf.dumps).trans h3,
      (k5.trans hf.cycles).trans h5, (k4.trans hf.stroke).trans h4⟩

/-- After the Faults of an E-Stop no Blade wait and no pack stands, so no test finds anything to do. -/
theorem haltFunctions_stop (hr : billingRests s.billing) (begun : BitVec 8) :
    haltFunctions begun true s = allHalted begun s := by
  rw [haltFunctions_eq]
  exact haltTail_idle s (haltAll_stills (allHalted_rests hr begun)) (allHalted_packer begun s).idle

/-- What an E-Stop leaves of the tailgate. -/
structure TailgateStopped (c : TailgateFault) (s t : State) : Prop where
  still : t.tailgateMoving = false
  moving : s.tailgateMoving = true → t.tailgate.state = .fault ∧ t.tailgate.lastFault = some c ∧
    t.tailgate.faults = bump s.tailgate.faults

/-- The items of the tailgate that no pause changes. -/
theorem tailgate_of_unpaced {p q : Tailgate} (h : q.unpaced = p.unpaced) : q.state = p.state ∧
    q.faults = p.faults ∧ q.lastFault = p.lastFault := by
  unfold Tailgate.unpaced at h
  simp only [Tailgate.mk.injEq] at h
  simp only [h, and_self]

theorem haltFunctions_tailgateStopped (hr : billingRests s.billing) (begun : BitVec 8) :
    TailgateStopped (tailgateCause s.cfg begun) s (haltFunctions begun true s) := by
  have hP := spares_others .tailgate
  cases hm : s.tailgateMoving with
  | true =>
    obtain ⟨v, d1, hv, d2⟩ := haltFunctions_tailgate hr (stop := true) (begun := begun) rfl hm
    have hf := tailgateFault_faulted hv (tailgateCause s.cfg begun)
    have h0 := (tailgate_of_unpaced (d1.tailgateUnpaced (ready_tailgate hr) hP.self)).2.1
    have hready := tailgateFault_rests hv (tailgateCause s.cfg begun)
    obtain ⟨h1, h2, h3⟩ := tailgate_of_unpaced (d2.tailgateUnpaced hready hP.self)
    exact ⟨(d2.tailgateMoving hready hP.self).trans (tailgateMoving_faulted hf),
      fun _ => ⟨h1.trans hf.state, h3.trans hf.cause, (h2.trans hf.faults).trans (congrArg bump h0)⟩⟩
  | false =>
    have d : Does (others .tailgate) s (haltFunctions begun true s) :=
      haltFunctions_does (.refl s) (others_dumps _) (others_serve _) (.inl (hP.function _ nofun))
        (hP.mayHalt_tailgate fun _ => hm)
    exact ⟨(d.tailgateMoving (ready_tailgate hr) hP.self).trans hm,
      fun h => absurd (hm.symm.trans h) (by decide)⟩

/-- What an E-Stop leaves of a station. -/
structure StationStopped (x : Station) (c : StationFault) (s t : State) : Prop where
  still : t.stationMoving x = false
  moving : s.stationMoving x = true → (t.lift x).state = .fault ∧ (t.lift x).lastFault = some c ∧
    (t.lift x).faults = bump (s.lift x).faults
  record : ∀ r, (t.lift x).record = some r →
    ∃ r', (s.lift x).record = some r' ∧ r.reachedDump = r'.reachedDump

theorem haltFunctions_stationStopped (hr : billingRests s.billing) (begun : BitVec 8) (x : Station) :
    StationStopped x (haltCause s.cfg begun x) s (haltFunctions begun true s) := by
  have hP := spares_others (.station x)
  cases hm : s.stationMoving x with
  | true =>
    obtain ⟨v, d1, L1, d2, -⟩ := haltFunctions_station hr (stop := true) (begun := begun) rfl hm
    obtain ⟨-, -, -, h1, -, h2, -⟩ :=
      (d1.stands (ready_first _ hr) (spares_othersFirst _).self).lift
    have hv := L1.rests hr
    have hf := haltStation_faulted (x := x) hv (haltCause s.cfg begun x)
    have hready := ready_faulted hf ((haltStation_ledger hv (haltCause s.cfg begun x)).rests hv)
    have k := d2.sidelined hready hP.self
    refine ⟨(d2.stationMoving hready hP.self).trans (stationMoving_faulted hf), fun _ =>
      ⟨k.state.trans hf.state, k.lastFault.trans hf.cause,
        (k.faults.trans hf.faults).trans (congrArg bump h2)⟩, fun r h => ?_⟩
    rw [← h1]
    exact hf.record r (k.record ▸ h)
  | false =>
    have d : Does (others (.station x)) s (haltFunctions begun true s) :=
      haltFunctions_does (.refl s) (others_dumps _) (others_serve _) (.inl (hP.function _ nofun))
        (hP.mayHalt_station fun _ => hm)
    have hs := ready_station hr (not_waits_of_still hm)
    exact ⟨(d.stationMoving hs hP.self).trans hm, fun h => absurd (hm.symm.trans h) (by decide),
      fun r h => ⟨r, (d.sidelined hs hP.self).record ▸ h, rfl⟩⟩

/-! ### The record of a lift that is aborted (R103, R136) -/

theorem readBytes_part {m : Mem} (a : Nat) {k n N : Nat} (h : k + n ≤ N) :
    ((m.readBytes a N).drop k).take n = m.readBytes (a + k) n := by
  induction k generalizing a N with
  | zero => exact readBytes_take a (by omega)
  | succ k ih =>
    cases N with
    | zero => omega
    | succ N =>
      rw [Mem.readBytes, List.drop_succ_cons, ih (a + 1) (by omega)]
      congr 1
      omega

/-- A byte of a stretch of a store. -/
theorem read_of_readBytes {m : Mem} (a : Nat) {k N : Nat} (h : k < N) {b : Byte}
    (hb : ((m.readBytes a N).drop k).take 1 = [b]) : m.read (a + k) = b := by
  rw [readBytes_part a (by omega)] at hb
  exact List.head_eq_of_cons_eq hb

/-- What the slot of a committed record reads (13). -/
theorem committed_reads {r : ChargeRecord} {v : State} (h : Committed s t (recordBytes r v)) :
    ∃ k, s.queue.count ≤ k ∧ k < t.queue.count ∧
      let slot := slotBase ((s.queue.head + k) % 256)
      t.store.read (slot + 11) = BitVec.ofNat 8 r.station ∧
      t.store.read (slot + 17) = BitVec.ofNat 8 r.outcome.code ∧
      ofLe (t.store.readBytes (slot + 20) 2) = r.gross % 65536 ∧
      ofLe (t.store.readBytes (slot + 22) 2) = r.tare % 65536 := by
  obtain ⟨k, h1, h2, h3⟩ := h
  refine ⟨k, h1, h2, read_of_readBytes _ (N := 32) (by decide) ?_,
    read_of_readBytes _ (N := 32) (by decide) ?_, ?_, ?_⟩
  · rw [h3]; rfl
  · rw [h3]; rfl
  · rw [← readBytes_part (k := 20) (N := 32) _ (by decide), h3]
    exact ofLe_leBytes 2 r.gross
  · rw [← readBytes_part (k := 22) (N := 32) _ (by decide), h3]
    exact ofLe_leBytes 2 r.tare

/-- The lift that an E-Stop aborts: its request waits, or its record is committed (R65, R103). -/
theorem haltFunctions_aborts (hr : billingRests s.billing) (hb : booksWell s) {r : LiftRecord}
    (hc : stopped s.cfg begun stop (.station x) = true) (hm : s.stationMoving x = true)
    (h : (s.lift x).record = some r) (hq : r.requested = false) (hd : r.reachedDump = false) :
    (⟨.station x, .fault r false⟩ : BillReq) ∈ (haltFunctions begun stop s).billing.list ∨
    ∃ k, s.queue.count ≤ k ∧ k < (haltFunctions begun stop s).queue.count ∧
      let slot := slotBase ((s.queue.head + k) % 256)
      ((haltFunctions begun stop s).store.read (slot + 11)).toNat = x.num ∧
      (haltFunctions begun stop s).store.read (slot + 17) = 5 ∧
      ofLe ((haltFunctions begun stop s).store.readBytes (slot + 20) 2) = r.gross.getD 0 % 65536 := by
  obtain ⟨v, d1, L1, d2, L2⟩ := haltFunctions_station hr hc hm
  have hrec := (d1.stands (ready_first _ hr) (spares_othersFirst _).self).record
  have hv := L1.rests hr
  have L12 := L1.trans (haltStation_ledger (x := x) hv (haltCause s.cfg begun x))
  rcases haltStation_aborts hv (haltCause s.cfg begun x) (hrec.trans h) hq (L1.books hb) with
    ⟨h1, h2⟩ | ⟨a, y, w, h1⟩
  · exact .inl (hd ▸ (L2.waits h2).2 _ h1)
  · rw [hd] at h1
    have h2 := (h1.since L1.grows L1.head).later L2 (L12.books hb) L12.head (by
      have := (L12.trans L2).bound
      omega)
    obtain ⟨k, k1, k2, k3, k4, k5, -⟩ := committed_reads h2
    refine .inr ⟨k, k1, k2, ?_, k4, k5⟩
    have hk := congrArg BitVec.toNat k3
    have hnum : x.num % 256 = x.num := by cases x <;> rfl
    exact hk.trans hnum

end

end Sys2Proof.Proofs

/-! O24: a group read that finds E-Stop active (R42). -/

namespace Sys2Proof.Proofs

open Sys2Proof Sys2Proof.Machine Sys2Proof.Laws

section

variable {s t u v : State} {x : Station} {changed : BitVec 32} {begun : BitVec 8} {new : BitVec 32}

/-! ### What follows an E-Stop's Faults -/

/-- What the rest of an event leaves once an E-Stop has stopped the functions: Cycle Starts are refused, and
at Scan Ready the packer takes its start state (R47, R176). -/
structure StopFollowed (s t : State) : Prop where
  lift : ∀ x, Sidelined x s t
  packer : t.packer = s.packer ∨ t.packer = { s.packer with state := .fault, packPending := false }
  tailgate : t.tailgate = s.tailgate
  billing : t.billing = s.billing
  queue : t.queue = s.queue
  store : t.store = s.store

theorem StopFollowed.trans_same (h : StopFollowed s t) (k : ∀ x, Sidelined x t u)
    (hp : u.packer = t.packer) (hg : u.tailgate = t.tailgate) (hb : u.billing = t.billing)
    (hq : u.queue = t.queue) (hm : u.store = t.store) : StopFollowed s u :=
  ⟨fun x => (h.lift x).trans (k x), hp ▸ h.packer, hg.trans h.tailgate, hb.trans h.billing,
    hq.trans h.queue, hm.trans h.store⟩

theorem StopFollowed.refl (s : State) : StopFollowed s s :=
  ⟨fun _ => ⟨rfl, rfl, rfl, rfl, rfl⟩, .inl rfl, rfl, rfl, rfl, rfl⟩

theorem StopFollowed.rebuffed (h : StopFollowed s t) (k : Rebuffed x t u) : StopFollowed s u :=
  h.trans_same k.sidelined (k.keeps _ keeps_packer.mono) (k.keeps _ keeps_tailgate.mono)
    (k.keeps _ keeps_billing.mono) (k.keeps _ keeps_queue.mono) (k.keeps _ keeps_store.mono)

theorem StopFollowed.settled (h : StopFollowed s t) : StopFollowed s (settleToggles t) :=
  h.trans_same (fun _ => ⟨rfl, rfl, rfl, rfl, rfl⟩) rfl rfl rfl rfl rfl

/-- An E-Stop bars every function, so the owners take no more from the event than refused Cycle Starts. -/
theorem owners_stop (hn : s.eStop = true) : StopFollowed s (owners changed begun true s) := by
  have fold : ∀ (l : List Station) (w : State), StopFollowed s w → w.eStop = true →
      StopFollowed s (l.foldl (stationEvent changed begun true) w) := by
    intro l
    induction l with
    | nil => exact fun _ h _ => h
    | cons y l ih =>
      intro w h hw
      have k : Rebuffed y w (stationEvent changed begun true w y) :=
        stationEvent_barred (noStart_stop hw y) rfl
      exact ih _ (h.rebuffed k)
        ((eStop_congr (k.keeps _ keeps_scanner.mono) k.cfg).trans hw)
  have h := fold stations s (.refl s) hn
  simp only [owners, barred, Bool.true_or, Bool.not_true, Bool.and_false, Bool.false_eq_true, if_false]
  exact h

theorem packerStart_keeps {α : Type} {π : State → α} (hk : Keeps π [.agent, .body, .control, .packer])
    (s : State) : π (packerStart s) = π s := by
  unfold packerStart
  split
  · rw [raiseNotice_keeps π hk.mono, hk.packer]
  · rfl

theorem packerStart_follows (s : State) : StopFollowed s (packerStart s) := by
  have hl : ∀ x, (packerStart s).lift x = s.lift x := fun x =>
    congrArg (·.get x) (packerStart_keeps keeps_lifts.mono s)
  refine ⟨fun x => ⟨?_, ?_, ?_, ?_, requests_congr (packerStart_keeps keeps_arbiter.mono s) _⟩, ?_,
    packerStart_keeps keeps_tailgate.mono s, packerStart_keeps keeps_billing.mono s,
    packerStart_keeps keeps_queue.mono s, packerStart_keeps keeps_store.mono s⟩
  iterate 4 rw [hl]
  unfold packerStart
  split
  · refine .inr ?_
    rw [raiseNotice_keeps _ keeps_packer.mono]
    rfl
  · exact .inl rfl

/-! ### The group read that finds the E-Stop -/

/-- A group read that finds E-Stop active stops the functions once, and nothing acts after that. -/
structure EStopFound (begun : BitVec 8) (s v t : State) : Prop where
  keeps : ∀ {α : Type} {π : State → α}, Keeps π [.sys, .scanner, .agent, .body, .control] → π v = π s
  follows : StopFollowed (haltFunctions begun true v) t
  begun : t.scanner.pairErrors &&& ~~~ s.scanner.pairErrors = begun

theorem readied_keeps {α : Type} {π : State → α} (hk : Keeps π [.scanner, .agent, .body, .control])
    (s : State) : π (evaluated (readied s)) = π s := by
  rw [evaluated_keeps π hk, readied, hk.scanner]

theorem changedState_eStop (new : BitVec 32) (s : State) :
    (changedState new s).eStop = (heard new s).eStop :=
  eStop_congr (changedState_keeps keeps_scanner.mono new s) (changedState_keeps keeps_cfg.mono new s)

theorem settled_packerStart_scanner (s : State) :
    (settleToggles (packerStart s)).scanner = s.scanner := packerStart_keeps keeps_scanner.mono s

theorem settled_packerStart_cfg (s : State) : (settleToggles (packerStart s)).cfg = s.cfg :=
  packerStart_keeps keeps_cfg.mono s

theorem afterSamples_eStop {full : Bool} (hs : u.eStop = false)
    (ht : (settleToggles (afterSamples full u)).eStop = true) :
    ∃ begun v, EStopFound begun u v (settleToggles (afterSamples full u)) := by
  have unchanged : (settleToggles u).eStop = u.eStop := eStop_congr rfl rfl
  unfold afterSamples at ht ⊢
  by_cases hr : u.scanner.ready = true
  · rw [if_pos hr] at ht ⊢
    by_cases hc : u.scanner.published ^^^ u.scanner.filtered = 0
    · rw [publish_unchanged hc, unchanged, hs] at ht
      exact absurd ht (by decide)
    · rw [settled_publish hc] at ht ⊢
      rw [changedState_eStop] at ht
      have hbegun := begun_eq u.scanner.filtered u
      rw [← changedState_scanner] at hbegun
      refine ⟨_, heard u.scanner.filtered u, fun hk => heard_keeps hk.mono _ u, ?_, hbegun⟩
      unfold changedState
      rw [hs, ht]
      refine (owners_stop ?_).settled
      rw [eStop_congr (haltFunctions_keeps_of keeps_scanner.mono) (haltFunctions_keeps_of keeps_cfg.mono)]
      exact ht
  · rw [if_neg hr] at ht ⊢
    by_cases hf : (full && decide (u.cfg.debounceCount ≤ u.scanner.scans)) = true
    · rw [if_pos hf, becomeReady_eq] at ht ⊢
      have hscan : ∀ stop, (settleToggles (packerStart (haltFunctions (begunNow (readied u)) stop
          (evaluated (readied u))))).scanner = (evaluated (readied u)).scanner := fun stop =>
        (settled_packerStart_scanner _).trans (haltFunctions_keeps_of keeps_scanner.mono)
      have hcfg : ∀ stop, (settleToggles (packerStart (haltFunctions (begunNow (readied u)) stop
          (evaluated (readied u))))).cfg = (evaluated (readied u)).cfg := fun stop =>
        (settled_packerStart_cfg _).trans (haltFunctions_keeps_of keeps_cfg.mono)
      rw [eStop_congr (hscan _) (hcfg _)] at ht
      rw [ht]
      refine ⟨_, _, fun hk => readied_keeps hk.mono u, (packerStart_follows _).settled, ?_⟩
      rw [hscan, evaluated_scanner]
      rfl
    · rw [if_neg hf, unchanged, hs] at ht
      exact absurd ht (by decide)

theorem station_of_still (h : s.stationMoving x = false) :
    (s.lift x).state = .idle ∨ (s.lift x).state = .fault := by
  unfold State.stationMoving at h
  split at h
  · exact .inl ‹_›
  · exact .inr ‹_›
  · exact Bool.noConfusion h

theorem packer_of_still (h : s.packerMoving = false) :
    s.packer.state = .parked ∨ s.packer.state = .fault := by
  unfold State.packerMoving at h
  cases hp : s.packer.state <;> simp_all

theorem tailgate_of_still (h : s.tailgateMoving = false) :
    s.tailgate.state = .closed ∨ s.tailgate.state = .fault := by
  unfold State.tailgateMoving at h
  cases hp : s.tailgate.state <;> simp_all

/-- The packer after a stop that is followed. -/
theorem PackerStopped.followed {c : PackerFault} (h : PackerStopped c v s) (k : StopFollowed s t) :
    (t.packer.state = .parked ∨ t.packer.state = .fault) ∧ t.packer.packPending = false ∧
    (v.packerMoving = true → t.packer.state = .fault ∧ t.packer.lastFault = some c ∧
      t.packer.faults = bump v.packer.faults) ∧
    t.packer.dumps = v.packer.dumps ∧ t.packer.cycles = v.packer.cycles ∧
    t.packer.stroke = v.packer.stroke := by
  rcases k.packer with e | e <;> rw [e]
  · refine ⟨?_, h.idle, h.moving, h.dumps, h.cycles, h.stroke⟩
    cases hm : v.packerMoving with
    | true => exact .inr (h.moving hm).1
    | false => rw [h.rests hm]; exact packer_of_still hm
  · exact ⟨.inr rfl, rfl, fun hm => ⟨rfl, (h.moving hm).2⟩, h.dumps, h.cycles, h.stroke⟩

end

/-- Settles O24: the stop leaves every function at rest, and what follows it moves none of them. -/
theorem eStopHalts : Obligations.EStopHalts := by
  unfold Obligations.EStopHalts
  intro lines e s t hl hnext _ hr he hex ht
  rw [exec_groupRead hl.1 hnext] at hex
  injection hex with hex
  have hsu : (sampled lines e s).eStop = false := by
    have hp := (sampled_unsampled lines e s).published
    unfold State.eStop State.role State.input at he ⊢
    rw [hp]
    exact he
  obtain ⟨begun, v, hv⟩ := afterSamples_eStop (full := s.scanner.pointer == 3) hsu (hex ▸ ht)
  rw [hex] at hv
  obtain ⟨keeps, hf, hbegun⟩ := hv
  rw [(sampled_unsampled lines e s).pairErrors] at hbegun
  have keep : ∀ {α : Type} {π : State → α}, Keeps π [.sys, .scanner, .agent, .body, .control] →
      π v = π s := fun hk => (keeps hk).trans (sampled_keeps _ hk.mono lines e s)
  have hlifts := keep keeps_lifts.mono
  have hpacker := keep keeps_packer.mono
  have htail := keep keeps_tailgate.mono
  have hbill := keep keeps_billing.mono
  have hcfg := keep keeps_cfg.mono
  have hqueue := keep keeps_queue.mono
  have hstore := keep keeps_store.mono
  have htable := keep keeps_table.mono
  have hm := stationMoving_congr hlifts
  have hx : ∀ x, v.lift x = s.lift x := fun x => congrArg (·.get x) hlifts
  rw [← hbill] at hr
  simp only [hbegun, storesWell, ← hm, ← hx, ← hpacker, ← htail, ← hcfg, ← hqueue, ← hstore, ← htable,
    ← packerMoving_congr hpacker, ← tailgateMoving_congr htail]
  have hst := haltFunctions_stationStopped (s := v) hr begun
  obtain ⟨p1, p2, p3, p4, p5, p6⟩ := ((haltFunctions_stop hr begun) ▸ allHalted_packer begun v).followed hf
  have hg := haltFunctions_tailgateStopped (s := v) hr begun
  refine ⟨fun x => ?_, p1, ?_, p2, fun x h => ?_, p3, fun h => hf.tailgate ▸ hg.moving h, p4, p5, p6,
    fun x h r hrec => ?_, fun x r hw hc h hrec hq hd => ?_⟩
  · rw [(hf.lift x).state]
    exact station_of_still (hst x).still
  · rw [hf.tailgate]
    exact tailgate_of_still hg.still
  · rw [(hf.lift x).state, (hf.lift x).lastFault, (hf.lift x).faults]
    exact (hst x).moving h
  · rw [(hf.lift x).record] at hrec
    obtain ⟨r', h1, h2⟩ := (hst x).record r hrec
    exact h2.trans (h r' h1)
  · rw [hf.billing, hf.queue, hf.store]
    exact haltFunctions_aborts hr ⟨hw.1, hc⟩ rfl h hrec hq hd

end Sys2Proof.Proofs

/-! The samples of a group read: the lines of the driven group, the filter of R33, and the scan count
(R32 to R34). -/

namespace Sys2Proof.Proofs

open Sys2Proof Sys2Proof.Machine Sys2Proof.Laws

section

variable {c : Mem} {lines : Byte} {x y z : Scanner} {i j : Fin 32} {l : List (Fin 32)}

/-! ### One input -/

/-- An input reads the same in two scanners. -/
structure SameInput (i : Fin 32) (x y : Scanner) : Prop where
  raw : y.raw.getLsbD i = x.raw.getLsbD i
  logical : y.logical.getLsbD i = x.logical.getLsbD i
  filtered : y.filtered.getLsbD i = x.filtered.getLsbD i
  disagree : y.disagree[i] = x.disagree[i]

theorem SameInput.trans (h : SameInput i x y) (k : SameInput i y z) : SameInput i x z :=
  ⟨k.raw.trans h.raw, k.logical.trans h.logical, k.filtered.trans h.filtered,
    k.disagree.trans h.disagree⟩

/-- The logical sample of an input in a group read (R32). -/
def sampleOf (c : Mem) (lines : Byte) (i : Fin 32) : Bool := c.logicalOf i (lines.getLsbD (i.val % 8))

/-- The filter step of an input in a group read (R33). -/
def filterOf (c : Mem) (lines : Byte) (x : Scanner) (i : Fin 32) : Bool × Nat :=
  filterStep (c.effectiveCount i.val) (x.filtered.getLsbD i) (sampleOf c lines i) x.disagree[i]

/-- An input is sampled and filtered (R32, R33). -/
structure SampledInput (c : Mem) (lines : Byte) (i : Fin 32) (x y : Scanner) : Prop where
  raw : y.raw.getLsbD i = lines.getLsbD (i.val % 8)
  logical : y.logical.getLsbD i = sampleOf c lines i
  filtered : y.filtered.getLsbD i = (filterOf c lines x i).1
  disagree : y.disagree[i] = (filterOf c lines x i).2

theorem sampleInput_other (h : j ≠ i) : SameInput i x (sampleInput c lines x j) := by
  have hv : i.val ≠ j.val := fun e => h (Fin.ext e.symm)
  refine ⟨putBit_other hv, putBit_other hv, putBit_other hv, ?_⟩
  exact Vector.getElem_set_ne j.isLt i.isLt fun e => hv e.symm

theorem sampleInput_self (c : Mem) (lines : Byte) (x : Scanner) (i : Fin 32) :
    SampledInput c lines i x (sampleInput c lines x i) := by
  have put : ∀ (m : BitVec 32) v, (putBit m i.val v).getLsbD i.val = v := fun m v => by
    rw [putBit_getLsbD, if_pos rfl, decide_eq_true i.isLt, Bool.true_and]
  exact ⟨put _ _, put _ _, put _ _, Vector.getElem_set_self _⟩

theorem foldl_sampleInput_other (h : i ∉ l) : SameInput i x (l.foldl (sampleInput c lines) x) := by
  induction l generalizing x with
  | nil => exact ⟨rfl, rfl, rfl, rfl⟩
  | cons j l ih =>
    obtain ⟨h1, h2⟩ := not_or.mp (fun e => h (List.mem_cons.mpr e))
    exact (sampleInput_other (fun e => h1 e.symm)).trans (ih h2)

theorem SampledInput.then_same (h : SampledInput c lines i x y) (k : SameInput i y z) :
    SampledInput c lines i x z :=
  ⟨k.raw.trans h.raw, k.logical.trans h.logical, k.filtered.trans h.filtered,
    k.disagree.trans h.disagree⟩

theorem SampledInput.after_same (h : SampledInput c lines i y z) (k : SameInput i x y) :
    SampledInput c lines i x z := by
  have hf : filterOf c lines y i = filterOf c lines x i := by
    unfold filterOf
    rw [k.filtered, k.disagree]
  exact ⟨h.raw, h.logical, hf ▸ h.filtered, hf ▸ h.disagree⟩

theorem foldl_sampleInput_mem (hl : l.Nodup) (h : i ∈ l) :
    SampledInput c lines i x (l.foldl (sampleInput c lines) x) := by
  induction l generalizing x with
  | nil => exact absurd h List.not_mem_nil
  | cons j l ih =>
    obtain ⟨hj, hl⟩ := List.nodup_cons.mp hl
    rw [List.foldl_cons]
    by_cases he : i = j
    · subst he
      exact (sampleInput_self c lines x i).then_same (foldl_sampleInput_other hj)
    · exact (ih hl ((List.mem_cons.mp h).resolve_left he)).after_same
        (sampleInput_other fun e => he e.symm)

/-! ### One group -/

theorem groupInputs_nodup (g : Nat) : (groupInputs g).Nodup := (List.nodup_finRange 32).filter _

theorem mem_groupInputs (g : Nat) (i : Fin 32) : i ∈ groupInputs g ↔ i.val / 8 = g := by
  simp only [groupInputs, groupOf, fins, List.mem_filter, List.mem_finRange, true_and]
  exact decide_eq_true_iff

theorem foldl_sampleInput_pointer (l : List (Fin 32)) (x : Scanner) :
    (l.foldl (sampleInput c lines) x).pointer = x.pointer ∧
      (l.foldl (sampleInput c lines) x).scans = x.scans := by
  induction l generalizing x with
  | nil => exact ⟨rfl, rfl⟩
  | cons j l ih => exact ih _

theorem sampleGroup_pointer (c : Mem) (lines : Byte) (x : Scanner) :
    (sampleGroup c lines x).pointer = (x.pointer + 1) % 4 := by
  unfold sampleGroup
  dsimp only
  rw [(foldl_sampleInput_pointer _ _).1]

theorem sampleGroup_scans (c : Mem) (lines : Byte) (x : Scanner) :
    (sampleGroup c lines x).scans =
      if x.pointer = 3 ∧ x.scans < c.debounceCount then x.scans + 1 else x.scans := by
  unfold sampleGroup
  dsimp only
  rw [(foldl_sampleInput_pointer _ _).1, (foldl_sampleInput_pointer _ _).2]
  simp only [Bool.and_eq_true, beq_iff_eq, decide_eq_true_eq]

theorem sampleGroup_other (c : Mem) (lines : Byte) (x : Scanner) {i : Fin 32}
    (h : i.val / 8 ≠ x.pointer) : SameInput i x (sampleGroup c lines x) := by
  obtain ⟨h1, h2, h3, h4⟩ := foldl_sampleInput_other (c := c) (lines := lines) (x := x)
    fun e => h ((mem_groupInputs x.pointer i).mp e)
  exact ⟨h1, h2, h3, h4⟩

theorem sampleGroup_driven (c : Mem) (lines : Byte) (x : Scanner) {i : Fin 32}
    (h : i.val / 8 = x.pointer) : SampledInput c lines i x (sampleGroup c lines x) := by
  obtain ⟨h1, h2, h3, h4⟩ := foldl_sampleInput_mem (c := c) (lines := lines) (x := x)
    (groupInputs_nodup x.pointer) ((mem_groupInputs x.pointer i).mpr h)
  exact ⟨h1, h2, h3, h4⟩

/-- The three cases of the filter (R33). -/
theorem SampledInput.filters (h : SampledInput c lines i x y) :
    (y.logical.getLsbD i = x.filtered.getLsbD i →
      y.filtered.getLsbD i = x.filtered.getLsbD i ∧ y.disagree[i] = 0) ∧
    (y.logical.getLsbD i ≠ x.filtered.getLsbD i →
      (c.effectiveCount i.val ≤ x.disagree[i] + 1 →
        y.filtered.getLsbD i = y.logical.getLsbD i ∧ y.disagree[i] = 0) ∧
      (x.disagree[i] + 1 < c.effectiveCount i.val →
        y.filtered.getLsbD i = x.filtered.getLsbD i ∧ y.disagree[i] = x.disagree[i] + 1)) := by
  obtain ⟨-, h2, h3, h4⟩ := h
  rw [h2, h3, h4]
  unfold filterOf filterStep
  refine ⟨fun h => ?_, fun h => ⟨fun k => ?_, fun k => ?_⟩⟩
  · rw [if_pos h]
    exact ⟨rfl, rfl⟩
  · rw [if_neg h, if_pos k]
    exact ⟨rfl, rfl⟩
  · rw [if_neg h, if_neg (Nat.not_le.mpr k)]
    exact ⟨rfl, rfl⟩

/-! ### The lines that are driven -/

/-- The contacts with the lines of the driven group in place. -/
theorem driven_contacts (lines : Byte) (s : State) (i : Fin 32) :
    (driven lines s).sys.contacts.getLsbD i =
      if i.val / 8 = s.scanner.pointer then lines.getLsbD (i.val % 8)
      else s.sys.contacts.getLsbD i := by
  unfold driven
  have hi := i.isLt
  have hb : lines.toNat < 256 := lines.isLt
  have mask : (0xFF : Nat) = 2 ^ 8 - 1 := rfl
  rw [setSys_sys]
  simp only [BitVec.getLsbD_or, BitVec.getLsbD_and, BitVec.getLsbD_not, BitVec.getLsbD_ofNat, hi,
    decide_true, Bool.true_and, Nat.testBit_mul_two_pow, mask, Nat.testBit_two_pow_sub_one]
  generalize s.scanner.pointer = p
  by_cases h : i.val / 8 = p
  · have h1 : 8 * p ≤ i.val := by omega
    have h2 : i.val - 8 * p < 8 := by omega
    have h3 : i.val - 8 * p = i.val % 8 := by omega
    rw [if_pos h]
    simp only [h1, h2, decide_true, Bool.and_self, Bool.not_true, Bool.and_false, Bool.false_or,
      Bool.true_and]
    rw [h3]
    rfl
  · rw [if_neg h]
    by_cases h1 : 8 * p ≤ i.val
    · have h2 : ¬ i.val - 8 * p < 8 := by omega
      have h3 : lines.toNat.testBit (i.val - 8 * p) = false :=
        Nat.testBit_lt_two_pow (lt_of_lt_of_le hb (Nat.pow_le_pow_right (n := 2) (by decide)
          (by omega : 8 ≤ i.val - 8 * p)))
      simp only [h1, h2, h3, decide_true, decide_false, Bool.and_false, Bool.not_false, Bool.and_true,
        Bool.or_false]
    · simp only [h1, decide_false, Bool.false_and, Bool.not_false, Bool.and_true, Bool.or_false]

end

end Sys2Proof.Proofs

/-! Scan Ready (R34): the pair errors that hold begin, an active E-Stop acts, and the packer takes its start
state (R40, R42, R176). -/

namespace Sys2Proof.Proofs

open Sys2Proof Sys2Proof.Machine Sys2Proof.Laws

section

variable {P : Touch → Prop} {s t u : State} {x : Station} {begun : BitVec 8} {stop : Bool}

/-! ### The states of Scan Ready -/

/-- The state that the functions find at Scan Ready. -/
abbrev wakened (s : State) : State := evaluated (readied s)

/-- The functions that Scan Ready stops. -/
abbrev wakenedHalted (s : State) : State :=
  haltFunctions (begunNow (readied s)) (wakened s).eStop (wakened s)

/-- The state that Scan Ready leaves. -/
def readyState (s : State) : State := settleToggles (becomeReady s)

theorem readyState_eq (s : State) : readyState s = settleToggles (packerStart (wakenedHalted s)) := by
  rw [readyState, becomeReady_eq]

theorem readyState_keeps {α : Type} {π : State → α}
    (hk : Keeps π [.toggles, .arb, .agent, .body, .control, .lifts, .markers, .weigh, .zeros, .tags,
      .arbiter, .packer, .tailgate, .queue, .store, .clock, .payload, .billing, .table]) (s : State) :
    π (readyState s) = π (wakened s) := by
  rw [readyState_eq, settleToggles_keeps π hk.mono, packerStart_keeps hk.mono]
  exact haltFunctions_keeps_of hk.mono

theorem wakened_scanner (s : State) : (wakened s).scanner = { s.scanner with
    published := s.scanner.filtered, ready := true, pairErrors := (readied s).pairsNow
    pairCounts := countPairs (begunNow (readied s)) s.scanner.pairCounts } := by
  rw [evaluated_scanner]
  rfl

theorem readyState_scanner (s : State) : (readyState s).scanner = (wakened s).scanner :=
  readyState_keeps keeps_scanner.mono s

/-! ### What Scan Ready leaves of the stations -/

/-- All parts but the counts of refused Cycle Starts. -/
def unstarted : Touch → Prop := fun c => c ≠ .start

theorem ready_unstarted (s : State) : Ready unstarted s where
  blade _ _ := .inl nofun
  bills := .inr ⟨fun _ _ => nofun, nofun, nofun⟩
  packs _ := .inl ⟨nofun, nofun⟩
  group := .inl nofun

theorem readyState_startRefusals (s : State) (x : Station) :
    ((readyState s).lift x).startRefusals = (s.lift x).startRefusals := by
  have d : Does unstarted (wakened s) (wakenedHalted s) :=
    haltFunctions_does (.refl _) nofun nofun (.inl nofun)
      ⟨fun _ _ _ => nofun, fun _ _ => nofun, fun _ _ => nofun⟩
  rw [readyState_eq, settleToggles_lift,
    show (packerStart (wakenedHalted s)).lift x = (wakenedHalted s).lift x from
      congrArg (·.get x) (packerStart_keeps keeps_lifts.mono _),
    d.startRefusals (ready_unstarted _) (fun h => h rfl)]
  exact congrArg (fun l : Tri Lift => (l.get x).startRefusals) (readied_keeps keeps_lifts.mono s)

theorem readyState_rests (hr : billingRests s.billing) (hm : s.stationMoving x = false) :
    ((readyState s).lift x).state = (s.lift x).state := by
  have hl : (wakened s).lifts = s.lifts := readied_keeps keeps_lifts.mono s
  have hb : (wakened s).billing = s.billing := readied_keeps keeps_billing.mono s
  have hw := (stationMoving_congr hl x).trans hm
  have hP := spares_others (.station x)
  have d : Does (others (.station x)) (wakened s) (wakenedHalted s) :=
    haltFunctions_does (.refl _) (others_dumps _) (others_serve _) (.inl (hP.function _ nofun))
      (hP.mayHalt_station fun _ => hw)
  have hs := ready_station (s := wakened s) (by rw [hb]; exact hr) (not_waits_of_still hw)
  rw [readyState_eq, settleToggles_lift,
    show (packerStart (wakenedHalted s)).lift x = (wakenedHalted s).lift x from
      congrArg (·.get x) (packerStart_keeps keeps_lifts.mono _), (d.stays hs hP.self).1]
  exact congrArg (fun l : Tri Lift => (l.get x).state) hl

/-! ### The notices of Scan Ready -/

theorem evaluated_quiet {b : Nat} (hb : b ≠ 3) (s : State) : s.quiet (evaluated s) b := by
  unfold evaluated evaluatePairs
  dsimp only
  split
  · exact id
  · exact raiseNotice_quiet (k := .sensorError) hb

theorem readied_spaced (s : State) : Spaced s (wakened s) :=
  (Spaced.of_eq (s := s) (t := readied s) rfl rfl).trans (evaluated_notices (readied s)).1

theorem packerStart_quiet {b : Nat} (hb : b ≠ 5) (s : State) : s.quiet (packerStart s) b := by
  unfold packerStart
  split
  · exact raiseNotice_quiet (k := .packerFault) (s := s.setPacker { s.packer with
      state := .fault, packPending := false }) hb
  · exact id

theorem packerStart_noticed {b : Nat} (hs : Spaced s t) (h : s.noticed t b) :
    s.noticed (packerStart t) b := by
  unfold packerStart
  split
  · have ht : Spaced s (t.setPacker { t.packer with state := .fault, packPending := false }) :=
      hs.trans (.of_eq rfl rfl)
    exact noticed_raise ht (noticed_congr (s := t) rfl rfl h) .packerFault
  · exact h

theorem wakened_does (s : State) : Does whole (wakened s) (wakenedHalted s) :=
  haltFunctions_does (.refl _) trivial trivial (.inl trivial) (mayHalt_whole _ _)

theorem readyState_quiet {b : Nat} (h5 : b ≠ 5) (h : s.quiet (wakened s) b) (hb : ¬ mayRaise whole b) :
    s.quiet (readyState s) b := fun e =>
  h ((wakened_does s).quiet (ready_whole _) hb (packerStart_quiet h5 _ (by
    rw [readyState_eq, settleToggles_keeps _ keeps_agent.mono] at e
    exact e)))

theorem readyState_change (s : State) : s.quiet (readyState s) 2 :=
  readyState_quiet (by decide) (evaluated_quiet (by decide) (readied s)) not_mayRaise_change

theorem readyState_sensor (s : State) :
    (begunNow (readied s) ≠ 0 → s.noticed (readyState s) 3) ∧
    (begunNow (readied s) = 0 → s.quiet (readyState s) 3) := by
  obtain ⟨-, h1, h2, -⟩ := evaluated_notices (readied s)
  have hs := readied_spaced s
  refine ⟨fun h => ?_, fun h => readyState_quiet (by decide) (h2 h) not_mayRaise_sensor⟩
  have d := wakened_does s
  have hn := d.noticed (ready_whole _) hs (h1 s (.of_eq rfl rfl) h)
  rw [readyState_eq]
  exact noticed_congr (settleToggles_keeps _ keeps_cfg.mono _) (settleToggles_keeps _ keeps_agent.mono _)
    (packerStart_noticed (hs.trans (d.spaced (ready_whole _))) hn)

/-! ### The packer at Scan Ready (R176) -/

/-- The tests that follow a stop, for a packer that keeps its state in it. -/
theorem haltTail_does_kept (d : Does P s t) (he : P .serve) {old : State}
    (h : t.packer.state = old.packer.state) : Does P s (haltTail old t) := by
  unfold haltTail
  rw [h, bne_self_eq_false, if_neg Bool.false_ne_true]
  exact .ite (fun _ => servePack_does d he) fun _ => d

/-- A packer at rest with no pack pending stays as it is in a stop. -/
theorem haltFunctions_still (hp : s.packer.packPending = false) (hm : s.packerMoving = false) :
    Does still s (haltFunctions begun stop s) ∧ Ready still s := by
  have hP := spares_still
  have hs : Ready still s := hP.ready still_serve hp fun h => absurd h still_dumps
  have d : Does still s (stopAll stop (haltPairs begun (cancelled begun stop s))) :=
    halts_does (.refl s) (.inr hp) (hP.mayHalt_packer fun _ => hm)
  rw [haltFunctions_eq]
  exact ⟨haltTail_does_kept d still_serve (d.packerState hs hP.self), hs⟩

theorem not_mayRaise_packer : ¬ mayRaise still 5 := by
  rintro ⟨n, hn, -, -, h⟩
  cases n <;> first | exact (h rfl).1 rfl | exact absurd hn (by decide)

/-- Whether the packer starts in Fault (R176). -/
def packerAway (s : State) : Prop :=
  s.role .packerHome = false ∧ s.configured = true ∧ s.tailgate.marker = .clear

theorem packerStart_test (s : State) :
    (!s.role .packerHome && s.configured && s.tailgate.marker == .clear) = true ↔ packerAway s := by
  unfold packerAway
  simp only [Bool.and_eq_true, Bool.not_eq_true', beq_iff_eq, and_assoc]

/-- The start test reads the same once the packer has taken its start state. -/
theorem packerAway_congr (hs : t.scanner = s.scanner) (hc : t.cfg = s.cfg) (hm : t.mode = s.mode)
    (hy : t.sys = s.sys) (hg : t.tailgate = s.tailgate) : packerAway t = packerAway s := by
  unfold packerAway State.role State.input State.configured
  rw [hs, hc, hm, hy, hg]

theorem packerAway_started (s : State) :
    packerAway (settleToggles (packerStart s)) = packerAway s := by
  have h : packerAway (settleToggles (packerStart s)) = packerAway (packerStart s) :=
    packerAway_congr rfl rfl rfl rfl rfl
  exact h.trans (packerAway_congr (packerStart_keeps keeps_scanner.mono s)
    (packerStart_keeps keeps_cfg.mono s) (packerStart_keeps keeps_mode.mono s)
    (packerStart_keeps keeps_sys.mono s) (packerStart_keeps keeps_tailgate.mono s))

/-- A packer that is away from home starts in Fault, and raises the notice. -/
theorem packerStart_away (hs : Spaced s t) (h : packerAway t) :
    (packerStart t).packer = { t.packer with state := .fault, packPending := false } ∧
    s.noticed (packerStart t) 5 := by
  have he : packerStart t = raiseNotice .packerFault (t.setPacker { t.packer with
      state := .fault, packPending := false }) := if_pos ((packerStart_test t).mpr h)
  have ht : Spaced t (t.setPacker { t.packer with state := .fault, packPending := false }) :=
    .of_eq rfl rfl
  rw [he, raiseNotice_keeps _ keeps_packer.mono]
  exact ⟨rfl, raiseNotice_noticed_after (hs.trans ht) .packerFault⟩

theorem packerStart_home (h : ¬ packerAway t) : packerStart t = t :=
  if_neg fun k => h ((packerStart_test t).mp k)

/-- Scan Ready finds the packer Parked, and leaves it Parked or in Fault (R176). -/
theorem readyState_packer (hstate : s.packer.state = .parked) (hp : s.packer.packPending = false)
    (hq : s.request .packer = none) :
    (readyState s).packer.packPending = false ∧ (readyState s).request .packer = none ∧
    (readyState s).packer.faults = s.packer.faults ∧
    (readyState s).packer.lastFault = s.packer.lastFault ∧
    (packerAway (readyState s) → (readyState s).packer.state = .fault ∧ s.noticed (readyState s) 5) ∧
    (¬ packerAway (readyState s) → (readyState s).packer.state = .parked ∧
      s.quiet (readyState s) 5) := by
  have hpk : (wakened s).packer = s.packer := readied_keeps keeps_packer.mono s
  have harb : (wakened s).arbiter = s.arbiter := readied_keeps keeps_arbiter.mono s
  have hmove : (wakened s).packerMoving = false := by
    unfold State.packerMoving
    rw [hpk, hstate]
  have hP := spares_still
  obtain ⟨d, hs⟩ : Does still (wakened s) (wakenedHalted s) ∧ Ready still (wakened s) :=
    haltFunctions_still (hpk ▸ hp) hmove
  obtain ⟨h1, h2, -, -, -, h6, h7⟩ := packer_of_unpaced (d.packerUnpaced hs hP.self still_dumps)
  rw [hpk] at h1 h2 h6 h7
  have hreq : (wakenedHalted s).request .packer = none :=
    (d.request hs hP.self).trans ((requests_congr harb _).trans hq)
  have hquiet : s.quiet (wakenedHalted s) 5 := fun e =>
    evaluated_quiet (by decide) (readied s) (d.quiet hs not_mayRaise_packer e)
  have hspaced : Spaced s (wakenedHalted s) := (readied_spaced s).trans (d.spaced hs)
  have haway : packerAway (readyState s) = packerAway (wakenedHalted s) := by
    rw [readyState_eq, packerAway_started]
  have hpost : ∀ v : State, (settleToggles v).packer = v.packer ∧
      (settleToggles v).request .packer = v.request .packer := fun _ => ⟨rfl, rfl⟩
  rw [haway, readyState_eq]
  generalize wakenedHalted s = E at *
  rw [(hpost _).1, (hpost _).2, requests_congr (packerStart_keeps keeps_arbiter.mono E)]
  by_cases ha : packerAway E
  · obtain ⟨hp, hn⟩ := packerStart_away hspaced ha
    rw [hp]
    exact ⟨rfl, hreq, h6, h7, fun _ => ⟨rfl, noticed_congr (settleToggles_keeps _ keeps_cfg.mono _)
      (settleToggles_keeps _ keeps_agent.mono _) hn⟩, fun h => absurd ha h⟩
  · rw [packerStart_home ha]
    exact ⟨h2.trans hp, hreq, h6, h7, fun h => absurd h ha, fun _ => ⟨h1.trans hstate, hquiet⟩⟩

end

end Sys2Proof.Proofs

/-! O22: a group read samples, filters and publishes (R32 to R34, R40, R176). -/

namespace Sys2Proof.Proofs

open Sys2Proof Sys2Proof.Machine Sys2Proof.Laws

section

variable {s t u : State} {lines : Byte} {e : Nat}

/-! ### The three outcomes of a group read -/

/-- A read publishes nothing, publishes changes, or makes Scan Ready true (R34). -/
theorem afterSamples_cases (full : Bool) (u : State) :
    (settleToggles (afterSamples full u) = settleToggles u ∧
      ((u.scanner.ready = true ∧ u.scanner.published = u.scanner.filtered) ∨
        (u.scanner.ready = false ∧ ¬ (full = true ∧ u.cfg.debounceCount ≤ u.scanner.scans)))) ∨
    (settleToggles (afterSamples full u) = changedState u.scanner.filtered u ∧
      u.scanner.ready = true ∧ u.scanner.published ≠ u.scanner.filtered) ∨
    (settleToggles (afterSamples full u) = readyState u ∧ u.scanner.ready = false ∧
      full = true ∧ u.cfg.debounceCount ≤ u.scanner.scans) := by
  unfold afterSamples
  cases hr : u.scanner.ready with
  | true =>
    rw [if_pos rfl]
    by_cases hc : u.scanner.published ^^^ u.scanner.filtered = 0
    · rw [publish_unchanged hc]
      exact .inl ⟨rfl, .inl ⟨rfl, BitVec.xor_eq_zero_iff.mp hc⟩⟩
    · rw [settled_publish hc]
      exact .inr (.inl ⟨rfl, rfl, fun h => hc (BitVec.xor_eq_zero_iff.mpr h)⟩)
  | false =>
    rw [if_neg Bool.false_ne_true]
    by_cases hf : full = true ∧ u.cfg.debounceCount ≤ u.scanner.scans
    · rw [if_pos (by simp [hf])]
      exact .inr (.inr ⟨rfl, rfl, hf⟩)
    · rw [if_neg (by simpa using hf)]
      exact .inl ⟨rfl, .inr ⟨rfl, hf⟩⟩

theorem settleToggles_sampled (h : settled s) :
    settleToggles (sampled lines e s) = sampled lines e s := settleToggles_same h.1 h.2

/-- The scanner's share that no announcement changes. -/
structure Announced (x y : Scanner) : Prop where
  pointer : y.pointer = x.pointer
  nextRead : y.nextRead = x.nextRead
  scans : y.scans = x.scans
  raw : y.raw = x.raw
  logical : y.logical = x.logical
  filtered : y.filtered = x.filtered
  disagree : y.disagree = x.disagree

theorem afterSamples_announced (full : Bool) (u : State) :
    Announced u.scanner (settleToggles (afterSamples full u)).scanner := by
  rcases afterSamples_cases full u with ⟨h, -⟩ | ⟨h, -⟩ | ⟨h, -⟩ <;> rw [h]
  · exact ⟨rfl, rfl, rfl, rfl, rfl, rfl, rfl⟩
  · rw [changedState_scanner, heard_scanner]
    exact ⟨rfl, rfl, rfl, rfl, rfl, rfl, rfl⟩
  · rw [readyState_scanner, wakened_scanner]
    exact ⟨rfl, rfl, rfl, rfl, rfl, rfl, rfl⟩

theorem afterSamples_keeps {α : Type} {π : State → α}
    (hk : Keeps π [.toggles, .scanner, .arb, .agent, .body, .control, .lifts, .markers, .weigh, .zeros,
      .tags, .arbiter, .packer, .tailgate, .queue, .store, .clock, .payload, .billing, .table])
    (full : Bool) (u : State) : π (settleToggles (afterSamples full u)) = π u := by
  rcases afterSamples_cases full u with ⟨h, -⟩ | ⟨h, -⟩ | ⟨h, -⟩ <;> rw [h]
  · exact settleToggles_keeps π hk.mono u
  · rw [changedState_keeps hk.mono, heard_keeps hk.mono]
  · rw [readyState_keeps hk.mono, readied_keeps hk.mono]

/-! ### The frame of a group read -/

/-- A state with all that a group read's handling may change as `t` has it. -/
def handled (t v : State) : State := { v.rebill t with scanner := t.scanner, zeros := t.zeros }

theorem keeps_handled (t : State) : Keeps (handled t) [.toggles, .scanner, .arb, .agent, .body, .control,
    .lifts, .markers, .weigh, .zeros, .tags, .arbiter, .packer, .tailgate, .queue, .store, .clock,
    .payload, .billing, .table] := by
  intro f hf
  cases f with
  | arb => exact fun s => (congrArg (handled t) (arbitrate_reflow s)).trans rfl
  | _ => first | exact fun _ _ => rfl | exact absurd hf (by decide)

theorem sampled_eq (lines : Byte) (e : Nat) (s : State) : sampled lines e s = { s.reach e with
    scanner := (sampled lines e s).scanner, sys := (sampled lines e s).sys } := rfl

theorem sampled_sys (lines : Byte) (e : Nat) (s : State) : (sampled lines e s).sys =
    { (s.reach e).sys with contacts := (sampled lines e s).sys.contacts } := rfl

theorem handled_self (t : State) : handled t t = t := by
  cases t
  rfl

theorem handled_replaced (t v : State) (x : Scanner) (y : Sys) :
    handled t { v with scanner := x, sys := y } =
      { (v.rebill t) with scanner := t.scanner, zeros := t.zeros, sys := y } := rfl

/-- A group read changes nothing but the scanner, the contacts and what its handling may change. -/
theorem afterSamples_frame (full : Bool) (ht : t = settleToggles (afterSamples full (sampled lines e s))) :
    t = { ((s.reach e).rebill t) with
      scanner := t.scanner, zeros := t.zeros
      sys := { (s.reach e).sys with contacts := t.sys.contacts } } := by
  have hsys : t.sys = (sampled lines e s).sys := by
    rw [ht]
    exact afterSamples_keeps keeps_sys.mono full _
  have h : handled t t = handled t (sampled lines e s) :=
    (congrArg (handled t) ht).trans (afterSamples_keeps (keeps_handled t) full _)
  rw [hsys, ← sampled_sys]
  rw [sampled_eq, handled_self, handled_replaced] at h
  exact h

/-- A read that publishes nothing touches nothing but the scanner and the contacts (R34). -/
theorem sampled_frame (lines : Byte) (e : Nat) (s : State) : sampled lines e s = { s.reach e with
    scanner := { (sampled lines e s).scanner with
      published := s.scanner.published, changeMap := s.scanner.changeMap
      pairErrors := s.scanner.pairErrors, pairCounts := s.scanner.pairCounts }
    sys := { (s.reach e).sys with contacts := (sampled lines e s).sys.contacts } } := by
  obtain ⟨-, h1, h2, h3, h4⟩ := sampled_unsampled lines e s
  rw [← h1, ← h2, ← h3, ← h4]
  rfl

theorem packerOrderly_sampled (lines : Byte) (e : Nat) (s : State) :
    packerOrderly (sampled lines e s) = packerOrderly s := by
  unfold packerOrderly State.request
  rw [(sampled_unsampled lines e s).ready]
  rfl

theorem begunNow_readied (s : State) :
    (readyState s).scanner.pairErrors &&& ~~~ s.scanner.pairErrors = begunNow (readied s) := by
  rw [readyState_scanner, wakened_scanner]
  rfl

/-- What Scan Ready publishes, and what follows from it (R34, R40, R176). -/
theorem readyState_publishes (h : s.scanner.ready = false) :
    let t := readyState s
    let begun := t.scanner.pairErrors &&& ~~~ s.scanner.pairErrors
    t.scanner.published = t.scanner.filtered ∧
    t.scanner.changeMap = s.scanner.changeMap ∧ s.quiet t 2 ∧
    (∀ j : Fin 8, t.scanner.pairErrors.getLsbD j =
      (s.cfg.pairEnabled j && t.input (s.cfg.pairA j) && t.input (s.cfg.pairB j)) ∧
      t.scanner.pairCounts[j] =
        if begun.getLsbD j then bump s.scanner.pairCounts[j] else s.scanner.pairCounts[j]) ∧
    (begun ≠ 0 → s.noticed t 3) ∧ (begun = 0 → s.quiet t 3) ∧
    (∀ st : Station, (t.lift st).startRefusals = (s.lift st).startRefusals ∧
      ((s.billing.waiting = none → s.billing.list = []) → s.stationMoving st = false →
        (t.lift st).state = (s.lift st).state)) ∧
    (packerOrderly s →
      t.packer.packPending = false ∧ t.request .packer = none ∧
      t.packer.faults = s.packer.faults ∧ t.packer.lastFault = s.packer.lastFault ∧
      if t.role .packerHome = false ∧ t.configured = true ∧ t.tailgate.marker = .clear then
        t.packer.state = .fault ∧ s.noticed t 5
      else t.packer.state = .parked ∧ s.quiet t 5) := by
  intro t begun
  have hs := (readyState_scanner s).trans (wakened_scanner s)
  have hcfg : t.cfg = s.cfg := (readyState_keeps keeps_cfg.mono s).trans (readied_keeps keeps_cfg.mono s)
  have hb : begun = begunNow (readied s) := begunNow_readied s
  obtain ⟨n1, n2⟩ := readyState_sensor s
  refine ⟨?_, ?_, readyState_change s, fun j => ⟨?_, ?_⟩, hb ▸ n1, hb ▸ n2,
    fun st => ⟨readyState_startRefusals s st, readyState_rests⟩, fun ho => ?_⟩
  · simp only [t, hs]
  · simp only [t, hs]
  · rw [← hcfg]
    refine (congrArg (fun x : Scanner => x.pairErrors.getLsbD j) hs).trans ?_
    exact pairsNow_read (s := readied s) (by rw [hs]; rfl) hcfg j
  · rw [hb]
    refine (congrArg (fun x : Scanner => x.pairCounts[j]) hs).trans ?_
    exact countPairs_get _ _ j
  · obtain ⟨-, -, -, hp⟩ := ho
    obtain ⟨h1, h2, -, -, -, -, h3⟩ := hp h
    obtain ⟨k1, k2, k3, k4, k5, k6⟩ := readyState_packer h1 h2 h3
    refine ⟨k1, k2, k3, k4, ?_⟩
    split
    · exact k5 ‹_›
    · exact k6 ‹_›

end

/-- Settles O22: the samples first, then each outcome of the read. -/
theorem groupRead : Obligations.GroupRead := by
  unfold Obligations.GroupRead
  intro lines e s hl hnext _
  refine ⟨_, exec_groupRead hl.1 hnext, ?_⟩
  have hcases := afterSamples_cases (s.scanner.pointer == 3) (sampled lines e s)
  obtain ⟨a1, a2, a3, a4, a5, a6, a7⟩ :=
    afterSamples_announced (s.scanner.pointer == 3) (sampled lines e s)
  have hsys := afterSamples_keeps keeps_sys.mono (s.scanner.pointer == 3) (sampled lines e s)
  have hframe := afterSamples_frame (s := s) (lines := lines) (e := e) (s.scanner.pointer == 3) rfl
  generalize settleToggles (afterSamples (s.scanner.pointer == 3) (sampled lines e s)) = t at *
  have hu := sampled_unsampled lines e s
  have hcfg : (sampled lines e s).cfg = s.cfg := sampled_keeps _ keeps_cfg.mono lines e s
  have hscans : t.scanner.scans = if s.scanner.pointer = 3 ∧ s.scanner.scans < s.cfg.debounceCount then
      s.scanner.scans + 1 else s.scanner.scans := a3.trans (sampleGroup_scans _ _ _)
  refine ⟨a1.trans (sampleGroup_pointer _ _ _), a2, fun i hi => ?_, fun i hi => ?_, ?_, hscans, ?_, ?_, ?_,
    fun i => ?_, hframe⟩
  · have h := sampleGroup_other s.cfg lines s.scanner hi
    rw [a4, a5, a6, a7]
    exact ⟨h.raw, h.logical, h.filtered, h.disagree⟩
  · have h := sampleGroup_driven s.cfg lines s.scanner hi
    rw [a4, a5, a6, a7]
    exact ⟨h.raw, h.logical, h.filters⟩
  · intro hr
    rw [a6]
    rcases hcases with ⟨h, ⟨-, hp⟩ | ⟨h0, -⟩⟩ | ⟨h, -⟩ | ⟨-, h0, -⟩
    · rw [h]
      exact hp
    · exact absurd (h0.symm.trans (hu.ready.trans hr)) (by decide)
    · rw [h, changedState_scanner, heard_scanner]
    · exact absurd (h0.symm.trans (hu.ready.trans hr)) (by decide)
  · rw [a3, ← hu.ready, ← hcfg]
    rcases hcases with ⟨h, ⟨h0, -⟩ | ⟨h0, hn⟩⟩ | ⟨h, h0, -⟩ | ⟨h, h0, h1, h2⟩ <;> rw [h, h0]
    · exact ⟨fun _ => .inl rfl, fun _ => h0⟩
    · refine ⟨fun k => absurd (h0.symm.trans k) (by decide), fun k => ?_⟩
      exact absurd (k.resolve_left (by decide)) (by simpa using hn)
    · refine ⟨fun _ => .inl rfl, fun _ => ?_⟩
      rw [changedState_scanner, heard_scanner]
      exact h0
    · refine ⟨fun _ => .inr ⟨by simpa using h1, h2⟩, fun _ => ?_⟩
      rw [readyState_scanner, wakened_scanner]
  · intro hq
    have hsame : t = sampled lines e s := by
      rcases hcases with ⟨h, -⟩ | ⟨h, h0, hne⟩ | ⟨h, h0, -⟩
      · exact h.trans (settleToggles_sampled hl.2)
      · refine absurd ?_ hne
        have hp : t.scanner.published = (sampled lines e s).scanner.filtered := by
          rw [h, changedState_scanner, heard_scanner]
        rcases hq with k | ⟨-, k⟩
        · rw [h, changedState_scanner, heard_scanner] at k
          exact absurd (h0.symm.trans k) (by decide)
        · exact hu.published.trans (k.symm.trans hp)
      · rcases hq with k | ⟨k, -⟩
        · rw [h, readyState_scanner, wakened_scanner] at k
          exact Bool.noConfusion k
        · exact absurd ((h0.symm.trans hu.ready).trans k) (by decide)
    rw [hsame]
    exact sampled_frame lines e s
  · intro h0 h1
    have ht : t = readyState (sampled lines e s) := by
      rcases hcases with ⟨h, -⟩ | ⟨-, k, -⟩ | ⟨h, -⟩
      · exact absurd ((h ▸ h1).symm.trans (hu.ready.trans h0)) (by decide)
      · exact absurd (k.symm.trans (hu.ready.trans h0)) (by decide)
      · exact h
    have hpub := readyState_publishes (hu.ready.trans h0)
    rw [← ht] at hpub
    have hl : (sampled lines e s).lifts = s.lifts := sampled_keeps _ keeps_lifts.mono lines e s
    have hx : ∀ x, (sampled lines e s).lift x = s.lift x := fun x => congrArg (·.get x) hl
    have hagent : (sampled lines e s).agent = s.agent := sampled_keeps _ keeps_agent.mono lines e s
    have hbill : (sampled lines e s).billing = s.billing := sampled_keeps _ keeps_billing.mono lines e s
    have hpk : (sampled lines e s).packer = s.packer := sampled_keeps _ keeps_packer.mono lines e s
    simp only [State.quiet, State.noticed, ← hu.changeMap, ← hu.pairErrors, ← hu.pairCounts, ← hcfg,
      ← hagent, ← hx, ← hbill, ← stationMoving_congr hl, ← hpk, ← packerOrderly_sampled lines e s]
    exact hpub
  · rw [hsys]
    exact driven_contacts lines s i

end Sys2Proof.Proofs

/-! The turn of a station in an event that does not bar it: what the others do before it, its own handling, and
what the others do after it (R36). -/

namespace Sys2Proof.Proofs

open Sys2Proof Sys2Proof.Machine Sys2Proof.Laws

section

variable {P : Touch → Prop} {s t u v z : State} {n : Nat} {x : Station} {changed : BitVec 32}
  {begun : BitVec 8} {stop : Bool} {new : BitVec 32} {l : List Station}

/-! ### The inputs of a station -/

/-- The roles that an input has for one station. -/
def Role.ofStation (r : Role) : Prop := 1 ≤ r.code ∧ r.code ≤ 5

theorem roleOwner_station {c : Mem} {r : Role} {i : Nat} (hr : Role.ofStation r)
    (h : c.hasStationRole r x i = true) : c.roleOwner i = some (.station x) := by
  obtain ⟨h1, h2⟩ := Bool.and_eq_true_iff.mp h
  have h1 : c.roleCode i = r.code := of_decide_eq_true h1
  have h2 : c.roleStation i = x.num := of_decide_eq_true h2
  have hn : Station.ofNum x.num = some x := by cases x <;> rfl
  unfold Mem.roleOwner
  rw [h1, h2, hn]
  obtain ⟨h3, h4⟩ := hr
  generalize r.code = k at h3 h4
  interval_cases k <;> rfl

/-- A change of a station's role is a change of one of its inputs. -/
theorem touches_of_role {r : Role} (hr : Role.ofStation r) (hc : t.cfg = s.cfg)
    (h : t.stationRole r x ≠ s.stationRole r x) :
    s.cfg.touches (s.scanner.published ^^^ t.scanner.published) (.station x) = true := by
  by_contra hn
  refine h ?_
  unfold Mem.touches at hn
  rw [Bool.not_eq_true, List.any_eq_false] at hn
  unfold State.stationRole
  rw [hc, Bool.eq_iff_iff, List.any_eq_true, List.any_eq_true]
  refine exists_congr fun i => and_congr_right fun hi => ?_
  have h1 := hn i hi
  by_cases hs : s.cfg.hasStationRole r x i = true
  · rw [roleOwner_station hr hs] at h1
    have h2 : hasBit s.scanner.published i = hasBit t.scanner.published i := by
      simpa [hasBit] using h1
    unfold State.input
    rw [h2]
  · simp [hs]

/-! ### The turn -/

/-- A station's own handling of an event that touches it and does not bar it. -/
def turned (changed : BitVec 32) (x : Station) (s : State) : State :=
  if s.cfg.roleChanged changed .bladeClear then retestBlade (stationInputs x s) x else stationInputs x s

theorem stationInputs_whole (x : Station) (s : State) : Does whole s (stationInputs x s) :=
  stationInputs_does (.refl s) trivial trivial

theorem stationEvent_turn (hi : (s.lift x).state ≠ .idle)
    (hb : barred begun stop s.cfg (.station x) = false) (ht : s.cfg.touches changed (.station x) = true) :
    stationEvent changed begun stop s x = turned changed x s := by
  have h1 : (if s.startPressed changed x then (cycleStart x s).2 else s) = s := by
    split
    · unfold cycleStart
      rw [if_pos (by simpa using hi)]
    · rfl
  have hcfg : (stationInputs x s).cfg = s.cfg :=
    (stationInputs_whole x s).keeps (ready_whole s) keeps_cfg.mono
  unfold stationEvent turned
  simp only [h1, ht, hb, hcfg, Bool.not_false, Bool.and_true, if_true]

/-- A state in which a station is neither at rest nor waiting for the blade. -/
def busyState (s : State) (x : Station) : Prop := (s.lift x).state ≠ .idle ∧ (s.lift x).state ≠ .hold

theorem busyState.not_waits (h : busyState s x) : ¬ bladeWaits s x := fun hw => h.2 hw.1

/-- The parts that the turn of one station leaves to the others: those of `P`, which holds all functions but
the station's. -/
structure Around (x : Station) (P : Touch → Prop) : Prop where
  function : ∀ q, q ≠ .station x → P (.function q)
  self : ¬ P (.function (.station x))
  dumps : P .dumps
  start : P .start
  serve : P .serve

theorem around_others (x : Station) : Around x (others (.station x)) :=
  ⟨(spares_others _).function, (spares_others _).self, others_dumps _, others_start _, others_serve _⟩

theorem Around.laterOwners (h : Around x P) (hx : x ∉ l) (s : State) :
    Does P s (laterOwners changed begun stop l s) :=
  laterOwners_does (.refl s) (fun _ hy => h.function _ fun e => hx (by cases e; exact hy)) h.dumps
    h.start h.serve (.inl (h.function _ nofun)) (.inl (h.function _ nofun))

theorem Around.mayHalt (h : Around x P) {c : Requester → Bool} (hc : c (.station x) = false)
    (s : State) : MayHalt P c s where
  station y hy _ := h.function _ fun e => by
    rw [e, hc] at hy
    exact Bool.noConfusion hy
  packer _ _ := h.function _ nofun
  tailgate _ _ := h.function _ nofun

/-- An event up to the turn of a station and from it. -/
theorem announced_turn (hP : Around x P) (hs : Ready P s) (hi : (s.lift x).state ≠ .idle)
    (hb : stopped s.cfg begun stop (.station x) = false)
    (ht : s.cfg.touches changed (.station x) = true) :
    ∃ v l, x ∉ l ∧ l.length ≤ 2 ∧ Does P s v ∧ (billingRests s.billing → Ledger 10 s v) ∧
      announced changed begun stop s = laterOwners changed begun stop l (turned changed x v) := by
  have d1 : Does P s (haltFunctions begun stop s) :=
    haltFunctions_does (.refl s) hP.dumps hP.serve (.inl (hP.function _ nofun)) (hP.mayHalt hb s)
  obtain ⟨l, r, h1, h2, h3, h4, hsplit⟩ :=
    owners_split x changed begun stop (haltFunctions begun stop s)
  have d2 : Does P (haltFunctions begun stop s)
      (l.foldl (stationEvent changed begun stop) (haltFunctions begun stop s)) :=
    stationEvents_does (fun _ hy => hP.function _ fun e => h1 (by cases e; exact hy)) hP.dumps hP.start _
  have d := d1.trans d2
  have L : billingRests s.billing → Ledger 10 s
      (l.foldl (stationEvent changed begun stop) (haltFunctions begun stop s)) := fun hr => by
    have L1 := haltFunctions_ledger hr begun stop
    exact (L1.trans (stationEvents_ledger (L1.rests hr) l changed begun stop)).mono (by omega)
  rw [announced, hsplit]
  generalize l.foldl (stationEvent changed begun stop) (haltFunctions begun stop s) = v at *
  have hcfg : v.cfg = s.cfg := d.keeps hs keeps_cfg.mono
  refine ⟨v, r, h2, h3, d, L, ?_⟩
  rw [stationEvent_turn (by rw [(d.stays hs hP.self).1]; exact hi) (hcfg ▸ hb) (hcfg ▸ ht)]

/-! ### The weigh node's attitude, which no handling of an event changes (R97) -/

/-- The attitude that a conversion reads. -/
def attitude (s : State) : Bool × Int := (s.weigh.fresh, s.weigh.pitch)

theorem tilt_congr (h : attitude t = attitude s) (hc : t.cfg = s.cfg) : t.tilt = s.tilt := by
  obtain ⟨h1, h2⟩ := Prod.mk.inj h
  unfold State.tilt
  rw [h1, h2, hc]

theorem paceLift_attitude (s : State) (y : Station) : attitude (paceLift s y) = attitude s := by
  unfold paceLift endRun
  dsimp only
  split <;> rfl

theorem arbitrate_attitude (s : State) : attitude (arbitrate s) = attitude s := by
  have pace : ∀ (l : List Station) (w : State), attitude (l.foldl paceLift w) = attitude w := by
    intro l
    induction l with
    | nil => exact fun _ => rfl
    | cons y l ih => exact fun w => (ih _).trans (paceLift_attitude w y)
  have post : ∀ w, attitude (paceTailgate (pacePacker w)) = attitude w := fun _ => rfl
  have pre : ∀ a, attitude (refreshValves (s.setArbiter a)) = attitude s := fun _ => rfl
  unfold arbitrate
  rw [post, pace, pre]

theorem Touches.attitude (h : Touches P s t) : attitude t = attitude s := by
  have same : t.weigh = s.weigh → Proofs.attitude t = Proofs.attitude s := fun e => by
    unfold Proofs.attitude
    rw [e]
  cases h with
  | notice k => exact same (raiseNotice_keeps _ keeps_weigh.mono _ _)
  | dump => exact same (countDump_keeps _ keeps_weigh.mono _)
  | flow r a => exact arbitrate_attitude _
  | group g => exact arbitrate_attitude _
  | _ => rfl

theorem Does.tilt (d : Does P s t) (hs : Ready P s) : t.tilt = s.tilt :=
  tilt_congr (d.of_touches hs (I := fun w => attitude w = attitude s) rfl fun _ _ h e =>
    h.attitude.trans e) (d.keeps hs keeps_cfg.mono)

/-! ### A group read up to the turn of a station -/

/-- A station's turn in a group read that publishes changes, and its state when the turn comes. -/
structure TurnCome (x : Station) (u t v : State) : Prop where
  stands : Stands x u v
  ledger : Ledger 10 u v
  cfg : v.cfg = u.cfg
  sys : v.sys = u.sys
  scanner : t.scanner = v.scanner
  tilt : v.tilt = u.tilt

theorem heard_stands (new : BitVec 32) (s : State) (x : Station) : Stands x s (heard new s) :=
  .of_fields (heard_keeps keeps_lifts.mono new s) (heard_keeps keeps_weigh.mono new s)
    (heard_keeps keeps_markers.mono new s) (heard_keeps keeps_zeros.mono new s)
    (heard_keeps keeps_tags.mono new s) (heard_keeps keeps_queue.mono new s)
    (heard_keeps keeps_arbiter.mono new s) (heard_keeps keeps_cfg.mono new s)
    (heard_keeps keeps_sys.mono new s)

theorem heard_ledger (new : BitVec 32) (s : State) : Ledger 0 s (heard new s) :=
  .of_same (heard_keeps keeps_billing.mono new s) (heard_keeps keeps_table.mono new s)
    (heard_keeps keeps_queue.mono new s) (heard_keeps keeps_store.mono new s)

theorem heard_tilt (new : BitVec 32) (s : State) : (heard new s).tilt = s.tilt := by
  have h : (heard new s).weigh = s.weigh := heard_keeps keeps_weigh.mono new s
  refine tilt_congr ?_ (heard_keeps keeps_cfg.mono new s)
  unfold attitude
  rw [h]

theorem settleToggles_stands (x : Station) (s : State) : Stands x s (settleToggles s) :=
  .of_fields rfl rfl rfl rfl rfl rfl rfl rfl rfl

theorem settleToggles_ledger (s : State) : Ledger 0 s (settleToggles s) := .of_same rfl rfl rfl rfl

/-- What a group read does before, in and after the turn of a station that it does not stop. -/
theorem changedState_turn (hr : billingRests u.billing) (hbusy : busyState u x)
    (hstop : (!u.eStop && (heard new u).eStop) = false)
    (hb : u.cfg.begunFor (begunNow (published new u)) (.station x) = false)
    (ht : u.cfg.touches (u.scanner.published ^^^ new) (.station x) = true) :
    ∃ v l, TurnCome x u (changedState new u) v ∧ x ∉ l ∧ l.length ≤ 2 ∧
      changedState new u = settleToggles (laterOwners (u.scanner.published ^^^ new)
        (begunNow (published new u)) false l (turned (u.scanner.published ^^^ new) x v)) := by
  have hst := heard_stands new u x
  have hcfg : (heard new u).cfg = u.cfg := heard_keeps keeps_cfg.mono new u
  have hL := heard_ledger new u
  have hw : ¬ bladeWaits (heard new u) x := fun hw => hbusy.not_waits
    ⟨hst.state ▸ hw.1, hst.wait ▸ hw.2⟩
  have hP := around_others x
  have hs := ready_station (hL.rests hr) hw
  obtain ⟨v, l, h1, h2, d, L, h3⟩ := announced_turn (changed := u.scanner.published ^^^ new)
    (begun := begunNow (published new u)) (stop := false) hP hs (hst.state ▸ hbusy.1)
    (by rw [hcfg]; exact hb) (by rw [hcfg]; exact ht)
  refine ⟨v, l, ⟨hst.trans (d.stands hs hP.self), (hL.trans (L (hL.rests hr))).mono (by omega),
    (d.keeps hs keeps_cfg.mono).trans hcfg,
    (d.keeps hs keeps_sys.mono).trans (heard_keeps keeps_sys.mono new u), ?_,
    (d.tilt hs).trans (heard_tilt new u)⟩, h1, h2, ?_⟩
  · rw [changedState_scanner, d.keeps hs keeps_scanner.mono]
  · rw [changedState, hstop, h3]

/-- What follows the turn of a station leaves it standing. -/
theorem afterTurn (hx : x ∉ l) (hl : l.length ≤ 2) (hr : billingRests z.billing)
    (hw : ¬ bladeWaits z x) :
    Stands x z (settleToggles (laterOwners changed begun stop l z)) ∧
    Ledger 2 z (settleToggles (laterOwners changed begun stop l z)) := by
  have hP := around_others x
  have hs := ready_station hr hw
  have d := hP.laterOwners (changed := changed) (begun := begun) (stop := stop) hx z
  exact ⟨(d.stands hs hP.self).trans (settleToggles_stands x _),
    ((laterOwners_ledger hr l changed begun stop).trans (settleToggles_ledger _)).mono hl⟩

end

end Sys2Proof.Proofs

/-! The ends of Release and of Homing in a group read (R64, R66). -/

namespace Sys2Proof.Proofs

open Sys2Proof Sys2Proof.Machine Sys2Proof.Laws

section

variable {P : Touch → Prop} {s t u v : State} {x : Station} {new : BitVec 32} {r : Requester}

/-! ### Timers and the group in an arbitration -/

theorem arbitrate_stopped (h : (s.lift x).phaseTimer = .stopped) :
    ((arbitrate s).lift x).phaseTimer = .stopped := by
  rw [arbitrate_lift_paced]
  exact paced_stopped h

theorem releaseRequest_stopped (h : (s.lift x).phaseTimer = .stopped) (r : Requester) :
    ((releaseRequest r s).lift x).phaseTimer = .stopped := by
  unfold releaseRequest
  split
  · exact arbitrate_stopped (s := s.setArbiter _) h
  · exact h

theorem releaseRequest_group (r : Requester) (s : State) :
    (releaseRequest r s).arbiter.group = s.arbiter.group := by
  unfold releaseRequest
  split
  · rw [arbitrate_arbiter, run_group]
    rfl
  · rfl

theorem setGroupLowest_group (x : Station) (s : State) :
    (setGroupLowest x s).arbiter.group = moveLowest x s.arbiter.group := by
  unfold setGroupLowest setGroup
  split
  · rename_i h
    exact h.symm
  · rw [arbitrate_arbiter, run_group]
    rfl

theorem setGroupLowest_stopped (h : (s.lift x).phaseTimer = .stopped) (y : Station) :
    ((setGroupLowest y s).lift x).phaseTimer = .stopped := by
  unfold setGroupLowest setGroup
  split
  · exact h
  · exact arbitrate_stopped (s := s.setArbiter _) h

theorem setGroupLowest_request (y : Station) (s : State) (r : Requester) :
    (setGroupLowest y s).request r = s.request r := by
  unfold setGroupLowest setGroup
  split
  · rfl
  · exact arbitrate_request _ _

/-! ### The ends themselves -/

/-- A station at rest after a phase that has ended. -/
structure Ended (x : Station) (s : State) : Prop where
  state : (s.lift x).state = .idle
  request : s.request (.station x) = none
  timer : (s.lift x).phaseTimer = .stopped

theorem endRelease_ended (x : Station) (s : State) : Ended x (endRelease x s) ∧
    (endRelease x s).arbiter.group =
      if s.cfg.rotating then moveLowest x s.arbiter.group else s.arbiter.group := by
  unfold endRelease
  have h1 : ((releaseRequest (.station x) (s.setLift x
      { s.lift x with phaseTimer := .stopped })).lift x).phaseTimer = .stopped :=
    releaseRequest_stopped (by rw [lift_setLift_self]) _
  have h2 := releaseRequest_request (.station x) (s.setLift x { s.lift x with phaseTimer := .stopped })
  have h3 : (releaseRequest (.station x) (s.setLift x
      { s.lift x with phaseTimer := .stopped })).arbiter.group = s.arbiter.group :=
    releaseRequest_group _ _
  have h4 : (releaseRequest (.station x) (s.setLift x
      { s.lift x with phaseTimer := .stopped })).cfg = s.cfg := releaseRequest_keeps _ keeps_cfg.mono _ _
  dsimp only
  generalize releaseRequest (.station x) (s.setLift x { s.lift x with phaseTimer := .stopped }) = w at *
  rw [h4]
  by_cases hc : s.cfg.rotating = true
  · simp only [hc, if_true]
    have k1 := setGroupLowest_stopped h1 x
    have k2 := (setGroupLowest_request x w (.station x)).trans h2
    have k3 := (setGroupLowest_group x w).trans (congrArg (moveLowest x) h3)
    generalize setGroupLowest x w = z at *
    exact ⟨⟨by rw [lift_setLift_self], k2, by rw [lift_setLift_self]; exact k1⟩, k3⟩
  · simp only [hc, if_false, Bool.false_eq_true]
    exact ⟨⟨by rw [lift_setLift_self], h2, by rw [lift_setLift_self]; exact h1⟩, h3⟩

theorem endHoming_ended (x : Station) (s : State) : Ended x (endHoming x s) := by
  unfold endHoming
  have h1 : ((releaseRequest (.station x) (s.setLift x
      { s.lift x with phaseTimer := .stopped })).lift x).phaseTimer = .stopped :=
    releaseRequest_stopped (by rw [lift_setLift_self]) _
  have h2 := releaseRequest_request (.station x) (s.setLift x { s.lift x with phaseTimer := .stopped })
  dsimp only
  generalize releaseRequest (.station x) (s.setLift x { s.lift x with phaseTimer := .stopped }) = w at *
  exact ⟨by rw [lift_setLift_self], h2, by rw [lift_setLift_self]; exact h1⟩

theorem Stands.ended (h : Stands x s t) (k : Ended x s) : Ended x t :=
  ⟨h.state.trans k.state, h.request.trans k.request, h.stopped k.timer⟩

theorem turned_of_ended (h : Ended x (stationInputs x v)) (changed : BitVec 32) :
    turned changed x v = stationInputs x v := by
  unfold turned
  split
  · exact retestBlade_idle fun hw => absurd (h.state.symm.trans hw.1) (by decide)
  · rfl

/-! ### In a group read -/

theorem stationRole_congr (hs : t.scanner = s.scanner) (hc : t.cfg = s.cfg) (r : Role) (x : Station) :
    t.stationRole r x = s.stationRole r x := by
  unfold State.stationRole State.input
  rw [hs, hc]

theorem TurnCome.stationRole (h : TurnCome x u t v) (hc : t.cfg = u.cfg) (r : Role) (y : Station) :
    v.stationRole r y = t.stationRole r y :=
  stationRole_congr h.scanner.symm (h.cfg.trans hc.symm) r y

theorem changedState_cfg (new : BitVec 32) (u : State) : (changedState new u).cfg = u.cfg :=
  (changedState_keeps keeps_cfg.mono new u).trans (heard_keeps keeps_cfg.mono new u)

theorem changedState_touches {r : Role} (hr : Role.ofStation r)
    (h : (changedState new u).stationRole r x ≠ u.stationRole r x) :
    u.cfg.touches (u.scanner.published ^^^ new) (.station x) = true := by
  have hp : (changedState new u).scanner.published = new := by
    rw [changedState_scanner, heard_scanner]
  have := touches_of_role hr (changedState_cfg new u) h
  rw [hp] at this
  exact this

/-- A station in motion that a group read neither stops nor finds at rest. -/
structure Turning (new : BitVec 32) (u : State) (x : Station) : Prop where
  rests : billingRests u.billing
  stop : (!u.eStop && (heard new u).eStop) = false
  pairs : u.cfg.begunFor (begunNow (published new u)) (.station x) = false

theorem Turning.come (h : Turning new u x) (hbusy : busyState u x)
    (ht : u.cfg.touches (u.scanner.published ^^^ new) (.station x) = true) :
    ∃ v l, TurnCome x u (changedState new u) v ∧ x ∉ l ∧ l.length ≤ 2 ∧
      changedState new u = settleToggles (laterOwners (u.scanner.published ^^^ new)
        (begunNow (published new u)) false l (turned (u.scanner.published ^^^ new) x v)) :=
  changedState_turn h.rests hbusy h.stop h.pairs ht

/-- A phase that ends at rest in a station's turn is ended after the group read. -/
theorem Turning.ended (h : Turning new u x) (hbusy : busyState u x)
    (ht : u.cfg.touches (u.scanner.published ^^^ new) (.station x) = true)
    (he : ∀ v, TurnCome x u (changedState new u) v → Ended x (stationInputs x v)) :
    Ended x (changedState new u) := by
  obtain ⟨v, l, hv, hl, hlen, heq⟩ := h.come hbusy ht
  have hz := he v hv
  have hr := (stationInputs_ledger (x := x) (hv.ledger.rests h.rests)).rests (hv.ledger.rests h.rests)
  rw [turned_of_ended hz] at heq
  rw [heq]
  exact (afterTurn hl hlen hr fun hw => absurd (hz.state.symm.trans hw.1) (by decide)).1.ended hz

theorem Turning.release_touches (h0 : u.releaseDone x = false)
    (hg : (changedState new u).stationRole .gripped x = false)
    (hst : (changedState new u).stationRole .stowed x = true) :
    u.cfg.touches (u.scanner.published ^^^ new) (.station x) = true := by
  by_cases h1 : (changedState new u).stationRole .gripped x = u.stationRole .gripped x
  · refine changedState_touches (r := .stowed) ⟨by decide, by decide⟩ fun h2 => ?_
    unfold State.releaseDone at h0
    rw [← h1, ← h2, hg, hst] at h0
    exact absurd h0 (by decide)
  · exact changedState_touches (r := .gripped) ⟨by decide, by decide⟩ h1

theorem TurnCome.releaseDone (hv : TurnCome x u (changedState new u) v)
    (hg : (changedState new u).stationRole .gripped x = false)
    (hst : (changedState new u).stationRole .stowed x = true) : v.releaseDone x = true := by
  have hc := changedState_cfg new u
  unfold State.releaseDone
  rw [hv.stationRole hc, hv.stationRole hc, hg, hst]
  rfl

theorem stationInputs_release (hs : (s.lift x).state = .release) (hd : s.releaseDone x = true) :
    stationInputs x s = endRelease x s := by
  unfold stationInputs
  rw [hs]
  exact if_pos hd

theorem Turning.releaseEnds (h : Turning new u x) (hs : (u.lift x).state = .release)
    (h0 : u.releaseDone x = false) (hg : (changedState new u).stationRole .gripped x = false)
    (hst : (changedState new u).stationRole .stowed x = true) : Ended x (changedState new u) := by
  refine h.ended ⟨by rw [hs]; decide, by rw [hs]; decide⟩ (release_touches h0 hg hst) fun v hv => ?_
  rw [stationInputs_release (hv.stands.state.trans hs) (hv.releaseDone hg hst)]
  exact (endRelease_ended x v).1

theorem atHome_of_stowed (hst : s.stationRole .stowed x = true)
    (hg : x = .sideArm → s.stationRole .gripped x = false) : s.atHome x = true := by
  unfold State.atHome
  rw [hst]
  cases x
  · rw [hg rfl]
    rfl
  · rfl
  · rfl

theorem Turning.homingEnds (h : Turning new u x) (hs : (u.lift x).state = .homing)
    (h0 : u.atHome x = false) (hst : (changedState new u).stationRole .stowed x = true)
    (hg : x = .sideArm → (changedState new u).stationRole .gripped x = false) :
    Ended x (changedState new u) := by
  have hc := changedState_cfg new u
  have hhome := atHome_of_stowed hst hg
  refine h.ended ⟨by rw [hs]; decide, by rw [hs]; decide⟩ ?_ fun v hv => ?_
  · by_cases h1 : (changedState new u).stationRole .gripped x = u.stationRole .gripped x
    · refine changedState_touches (r := .stowed) ⟨by decide, by decide⟩ fun h2 => ?_
      unfold State.atHome at h0 hhome
      rw [← h1, ← h2, hhome] at h0
      exact Bool.noConfusion h0
    · exact changedState_touches (r := .gripped) ⟨by decide, by decide⟩ h1
  · have hv' : v.atHome x = true := by
      rw [← hhome]
      unfold State.atHome
      rw [hv.stationRole hc, hv.stationRole hc]
    unfold stationInputs
    rw [hv.stands.state, hs]
    simp only [hv', if_true]
    exact endHoming_ended x v

/-! ### The order of the group at a Release end (R64) -/

/-- All parts but the order of the group and one station. -/
def groupless (x : Station) : Touch → Prop := fun c => c ≠ .group ∧ c ≠ .function (.station x)

theorem around_groupless (x : Station) : Around x (groupless x) :=
  ⟨fun _ h => ⟨nofun, fun e => h (Touch.function.inj e)⟩, fun h => h.2 rfl, ⟨nofun, nofun⟩,
    ⟨nofun, nofun⟩, ⟨nofun, nofun⟩⟩

theorem groupless_group (x : Station) : ¬ groupless x .group := fun h => h.1 rfl

/-- No station but one is in a phase whose end moves the group. -/
def groupRests (x : Station) (s : State) : Prop :=
  ∀ y, y ≠ x → (s.lift y).state ≠ .release ∧ (s.lift y).state ≠ .lower

theorem ready_groupless (hr : billingRests s.billing) (hw : ¬ bladeWaits s x) (hg : groupRests x s) :
    Ready (groupless x) s where
  blade _ y := by
    by_cases hy : y = x
    · exact .inr (.inl (hy ▸ hw))
    · exact .inl ((around_groupless x).function _ fun e => hy (Requester.station.inj e))
  bills := .inl hr
  packs _ := .inl ⟨(around_groupless x).function _ nofun, (around_groupless x).dumps⟩
  group := .inr fun y hy => hg y fun e => (around_groupless x).self (e ▸ hy)

theorem Ready.groupRests (h : Ready (groupless x) s) : groupRests x s := fun y hy =>
  h.group.resolve_left (groupless_group x) y
    ((around_groupless x).function _ fun e => hy (Requester.station.inj e))

/-- One station and the order of the group. -/
def ownRelease (x : Station) : Touch → Prop := fun c => c = .function (.station x) ∨ c = .group

theorem endRelease_groupRests (hr : billingRests s.billing) (hg : groupRests x s) :
    groupRests x (endRelease x s) := fun y hy => by
  have hs : Ready (ownRelease x) s :=
    { blade := fun h => absurd h (by unfold ownRelease; simp)
      bills := .inl hr
      packs := fun h => absurd h (by unfold ownRelease; simp)
      group := .inl (.inr rfl) }
  have d : Does (ownRelease x) s (endRelease x s) := endRelease_does (.refl s) (.inl rfl) (.inr rfl)
  rw [(d.stays (x := y) hs fun h => h.elim
    (fun e => hy (Requester.station.inj (Touch.function.inj e))) nofun).1]
  exact hg y hy

theorem Turning.releaseGroup (h : Turning new u x) (hs : (u.lift x).state = .release)
    (h0 : u.releaseDone x = false) (hg : (changedState new u).stationRole .gripped x = false)
    (hst : (changedState new u).stationRole .stowed x = true) (hrest : groupRests x u) :
    (changedState new u).arbiter.group =
      if u.cfg.rotating then moveLowest x u.arbiter.group else u.arbiter.group := by
  have hP := around_groupless x
  have hng := groupless_group x
  have hL := heard_ledger new u
  have hcfg : (heard new u).cfg = u.cfg := heard_keeps keeps_cfg.mono new u
  have harb : (heard new u).arbiter = u.arbiter := heard_keeps keeps_arbiter.mono new u
  have hl : (heard new u).lifts = u.lifts := heard_keeps keeps_lifts.mono new u
  have hlift : ∀ y, (heard new u).lift y = u.lift y := fun y => congrArg (·.get y) hl
  have hstate : ((heard new u).lift x).state = .release := by rw [hlift, hs]
  have hready : Ready (groupless x) (heard new u) :=
    ready_groupless (hL.rests h.rests) (fun hw => absurd (hstate.symm.trans hw.1) (by decide))
      fun y hy => by rw [hlift]; exact hrest y hy
  obtain ⟨v, l, h1, h2, d, L, h3⟩ := announced_turn (changed := u.scanner.published ^^^ new)
    (begun := begunNow (published new u)) (stop := false) hP hready (by rw [hstate]; decide)
    (by rw [hcfg]; exact h.pairs) (by rw [hcfg]; exact release_touches h0 hg hst)
  have hv : (v.lift x).state = .release := ((d.stays hready hP.self).1).trans hstate
  have hdone : v.releaseDone x = true := by
    have hsc : v.scanner = (changedState new u).scanner := by
      rw [changedState_scanner]
      exact d.keeps hready keeps_scanner.mono
    have hvc : v.cfg = (changedState new u).cfg := by
      rw [changedState_cfg, ← hcfg]
      exact d.keeps hready keeps_cfg.mono
    unfold State.releaseDone
    rw [stationRole_congr hsc hvc, stationRole_congr hsc hvc, hg, hst]
    rfl
  have hrv := (L (hL.rests h.rests)).rests (hL.rests h.rests)
  have he := endRelease_ended x v
  have hin := stationInputs_release hv hdone
  have hz := turned_of_ended (hin ▸ he.1) (u.scanner.published ^^^ new)
  rw [hin] at hz
  rw [hz] at h3
  have hrz : billingRests (endRelease x v).billing := by
    rw [endRelease_keeps _ keeps_billing.mono]
    exact hrv
  have hready2 : Ready (groupless x) (endRelease x v) :=
    ready_groupless hrz (fun hw => absurd (he.1.state.symm.trans hw.1) (by decide))
      (endRelease_groupRests hrv (d hready).2.groupRests)
  have d2 := hP.laterOwners (changed := u.scanner.published ^^^ new)
    (begun := begunNow (published new u)) (stop := false) h1 (endRelease x v)
  rw [changedState, h.stop, h3]
  have hgv : v.arbiter.group = u.arbiter.group := by
    rw [d.groupKept hready hng, harb]
  have hcv : v.cfg = u.cfg := (d.keeps hready keeps_cfg.mono).trans hcfg
  refine Eq.trans (d2.groupKept hready2 hng) ?_
  rw [he.2, hgv, hcv]

end

end Sys2Proof.Proofs

/-! The end of Engage in a group read (R54, R80): the tag that the lift takes, its lookup, and the entry into
Raise. -/

namespace Sys2Proof.Proofs

open Sys2Proof Sys2Proof.Machine Sys2Proof.Laws

section

variable {P : Touch → Prop} {s t u v w : State} {x : Station} {new : BitVec 32} {r : LiftRecord}
  {ph : FlowPhase} {limit tag : Nat}

/-! ### A phase that begins with its whole limit (R50, R51) -/

/-- An arbitration on a request that stands begins a phase whose timer runs. -/
theorem arbitrate_began {a : Arbiter}
    (hq : a.req.get (.station x) = some (s.flowReq (.station x) ph))
    (ht : (s.lift x).phaseTimer = .running (s.now + limit)) :
    (arbitrate (s.setArbiter a)).began x ph limit := by
  have hr : (arbitrate (s.setArbiter a)).request (.station x) = some (s.flowReq (.station x) ph) := by
    rw [arbitrate_request]
    exact hq
  have hc : (arbitrate (s.setArbiter a)).cfg = s.cfg := arbitrate_keeps _ keeps_cfg.mono _
  have hn : (arbitrate (s.setArbiter a)).now = s.now :=
    congrArg Sys.now (arbitrate_keeps _ keeps_sys.mono (s.setArbiter a))
  refine ⟨hr.trans (by simp only [State.flowReq, hc]), ?_, ?_⟩
  · have hp := (arbitrate_reports (s.setArbiter a)).1 x
    beta_reduce at hp
    rw [hr] at hp
    exact hp
  · have hi : ((s.setArbiter a).request (.station x)).isSome = true := by
      rw [show (s.setArbiter a).request (.station x) = _ from hq]
      rfl
    rw [arbitrate_lift_paced, hi, hn]
    exact paced_phaseTimer (g := 1) ht

theorem newRequest_began (ht : (s.lift x).phaseTimer = .running (s.now + limit)) (ph : FlowPhase) :
    (newRequest (.station x) ph s).began x ph limit := by
  refine arbitrate_began ?_ ht
  show (s.arbiter.req.set (.station x) (some (s.flowReq (.station x) ph))).get (.station x) = _
  exact (five_get_set _ _ _ _).trans (if_pos rfl)

theorem changeDemand_began (ht : (s.lift x).phaseTimer = .running (s.now + limit)) (ph : FlowPhase) :
    (changeDemand (.station x) ph s).began x ph limit := by
  refine arbitrate_began ?_ ht
  rw [(settle_frame _ _ _ _).1]
  exact (five_get_set _ _ _ _).trans (if_pos rfl)

/-! ### Raise is entered (R51, R55) -/

/-- The request of Raise: a demand changed in place where one stands (R51). -/
def raiseRequest (x : Station) (s : State) : State :=
  if (s.request (.station x)).isSome then changeDemand (.station x) .raise s
  else newRequest (.station x) .raise s

theorem raiseRequest_keeps {α : Type} {π : State → α} (hk : Keeps π [.arb, .arbiter]) (x : Station)
    (s : State) : π (raiseRequest x s) = π s := by
  unfold raiseRequest
  split
  · exact changeDemand_keeps π hk.mono _ _ _
  · exact newRequest_keeps π hk.mono _ _ _

theorem raiseRequest_lift {α : Type} (ρ : Lift → α) (h : Unpaced ρ) (x y : Station) (s : State) :
    ρ ((raiseRequest x s).lift y) = ρ (s.lift y) := by
  unfold raiseRequest changeDemand newRequest
  split <;> exact arbitrate_lift ρ h _ _

theorem raiseRequest_scale (x y : Station) (s : State) : (raiseRequest x s).scale y = s.scale y ∨
    (raiseRequest x s).scale y = { s.scale y with run := Run.empty } := by
  unfold raiseRequest changeDemand newRequest
  split <;> exact arbitrate_scale (s.setArbiter _) y

theorem raiseRequest_began (ht : (s.lift x).phaseTimer = .running (s.now + limit)) :
    (raiseRequest x s).began x .raise limit := by
  unfold raiseRequest
  split
  · exact changeDemand_began ht _
  · exact newRequest_began ht _

/-- A station in Raise with its request made, before its end condition is tested. -/
def raiseBegun (x : Station) (s : State) : State :=
  raiseRequest x (enterWeighing x (s.setLift x { s.lift x with
    state := .raise, phaseTimer := .running (s.now + s.cfg.raiseLimit x) }))

theorem raiseBegun_keeps {α : Type} {π : State → α} (hk : Keeps π [.arb, .arbiter, .lifts, .weigh])
    (x : Station) (s : State) : π (raiseBegun x s) = π s := by
  unfold raiseBegun enterWeighing State.setScale State.setLift
  rw [raiseRequest_keeps hk.mono, hk.weigh, hk.lifts]

theorem enterRaise_below (h : s.stationRole .atTop x = false) : enterRaise x s = raiseBegun x s := by
  have hr : (raiseBegun x s).stationRole .atTop x = false :=
    (stationRole_congr (raiseBegun_keeps keeps_scanner.mono x s) (raiseBegun_keeps keeps_cfg.mono x s)
      _ _).trans h
  unfold enterRaise
  show (if (raiseBegun x s).stationRole .atTop x then endRaise x (raiseBegun x s) else raiseBegun x s) = _
  rw [hr]
  rfl

/-- What the entry into Raise leaves of a station (R51, R55, R91, R96). -/
structure Raising (x : Station) (s t : State) : Prop where
  state : (t.lift x).state = .raise
  record : (t.lift x).record = (s.lift x).record
  began : t.began x .raise (s.cfg.raiseLimit x)
  accepted : (t.scale x).accepted = none
  fallback : (t.scale x).fallback = none
  run : (t.scale x).run = Run.empty
  silence : (t.scale x).silence = .running (s.now + Config.silenceTime)

theorem raiseBegun_raising (x : Station) (s : State) : Raising x s (raiseBegun x s) := by
  unfold raiseBegun
  have hl : (enterWeighing x (s.setLift x { s.lift x with
      state := .raise, phaseTimer := .running (s.now + s.cfg.raiseLimit x) })).lift x =
      { s.lift x with state := .raise, phaseTimer := .running (s.now + s.cfg.raiseLimit x) } :=
    lift_setLift_self _ _ _
  have hw : (enterWeighing x (s.setLift x { s.lift x with
      state := .raise, phaseTimer := .running (s.now + s.cfg.raiseLimit x) })).scale x =
      { s.scale x with
        run := Run.empty, accepted := none, fallback := none
        silence := .running (s.now + Config.silenceTime) } := by
    exact (tri_get_set _ _ _ _).trans (if_pos rfl)
  have hn : (enterWeighing x (s.setLift x { s.lift x with
      state := .raise, phaseTimer := .running (s.now + s.cfg.raiseLimit x) })).now = s.now := rfl
  generalize enterWeighing x _ = y at *
  have hs := raiseRequest_scale x x y
  rw [hw] at hs
  have hb : (raiseRequest x y).began x .raise (s.cfg.raiseLimit x) :=
    raiseRequest_began (by rw [hl, hn])
  have h1 := raiseRequest_lift Lift.state (fun _ _ _ _ l => (paced_core _ _ _ _ l).1) x x y
  have h2 := raiseRequest_lift Lift.record (fun _ _ _ _ l => (paced_core _ _ _ _ l).2.2.2.2.1) x x y
  rw [hl] at h1 h2
  generalize raiseRequest x y = z at *
  refine ⟨h1, h2, hb, ?_, ?_, ?_, ?_⟩ <;> rcases hs with e | e <;> rw [e]

/-! ### The tag that Engage end takes (R80) -/

/-- A station's share of the Tag Associator. -/
structure TagShare (x : Station) (s : State) (queue : List TagEntry) (a : Option AssignedTag)
    (c : TagCounts) : Prop where
  queue : s.candidates x = queue
  assigned : s.tags.assigned.get x = a
  counts : s.tags.counts.get x = c

theorem TagShare.congr {q : List TagEntry} {a : Option AssignedTag} {c : TagCounts}
    (h : TagShare x s q a c) (ht : t.tags = s.tags) : TagShare x t q a c := by
  obtain ⟨h1, h2, h3⟩ := h
  unfold State.candidates at h1
  refine ⟨?_, ?_, ?_⟩
  · unfold State.candidates
    rw [ht, h1]
  · rw [ht, h2]
  · rw [ht, h3]

theorem countTags_share (f : TagCounts → TagCounts) :
    TagShare x (s.countTags x f) (s.candidates x) (s.tags.assigned.get x) (f (s.tags.counts.get x)) :=
  ⟨rfl, rfl, (tri_get_set _ _ _ _).trans (if_pos rfl)⟩

theorem assignEntry_share (x : Station) (e : TagEntry) (s : State) :
    TagShare x (assignEntry x e s) ((s.candidates x).filter fun y => y.tag != e.tag)
      (some ⟨e.tag, e.last⟩)
      { s.tags.counts.get x with engage := bump (s.tags.counts.get x).engage } := by
  refine ⟨?_, (tri_get_set _ _ _ _).trans (if_pos rfl), (tri_get_set _ _ _ _).trans (if_pos rfl)⟩
  show (s.tags.queue.filter _).filter _ = (s.tags.queue.filter _).filter _
  rw [List.filter_filter, List.filter_filter]
  refine List.filter_congr fun y _ => ?_
  unfold TagEntry.isFor
  by_cases ht : y.tag = e.tag <;> simp [ht, Bool.and_comm]

theorem lockOut_share (x : Station) (s : State) :
    TagShare x (lockOut x s) [] (s.tags.assigned.get x)
      { s.tags.counts.get x with ambiguous := bump (s.tags.counts.get x).ambiguous } := by
  refine ⟨?_, rfl, (tri_get_set _ _ _ _).trans (if_pos rfl)⟩
  show (s.tags.queue.filter _).filter _ = []
  rw [List.filter_filter, List.filter_eq_nil_iff]
  intro y _
  simp

/-! ### The lookup of a tag (R54, R110) -/

/-- A Lift Record once its lookup is asked for: it waits while the table is in a move, and is answered at once
otherwise. -/
def lookedUp (tag : Nat) (s : State) (r : LiftRecord) : LiftRecord :=
  if s.table.moving then { r with lookupPending := true }
  else
    { r with
      lookupPending := false
      snapshot := match s.lookupResult tag with
        | .found sn => some sn
        | _ => r.snapshot }

theorem onRecord_lift (h : (s.lift x).record = some r) (f : LiftRecord → LiftRecord) :
    (s.onRecord x f).lift x = { s.lift x with record := some (f r) } := by
  refine (lift_setLift_self _ _ _).trans ?_
  rw [h]
  rfl

theorem writeMarker_lift (f : Furthest) (s : State) (x y : Station) :
    (writeMarker y f s).lift x = s.lift x :=
  congrArg (·.get x) (writeMarker_keeps State.lifts keeps_lifts.mono _ _ _)

theorem writeMarker_marker (h : (s.lift x).record = some r) (f : Furthest) :
    (writeMarker x f s).marker x = r.marker f := by
  unfold writeMarker
  rw [h]
  exact (tri_get_set _ _ _ _).trans (if_pos rfl)

/-- A lookup's answer to the lift that awaits it, out of Hold. -/
theorem deliverLookup_lift (h : (s.lift x).record = some r) (ha : r.awaits tag = true)
    (hs : (s.lift x).state ≠ .hold) (res : Found) :
    (deliverLookup x tag res s).lift x = { s.lift x with record := some { r with
      lookupPending := false
      snapshot := match res with
        | .found sn => some sn
        | _ => r.snapshot } } := by
  have h1 := onRecord_lift h fun r => { r with lookupPending := false }
  unfold deliverLookup
  simp only [h, ha, if_true]
  generalize s.onRecord x (fun r => { r with lookupPending := false }) = v at h1 ⊢
  have out : ∀ w : State, (w.lift x).state = (s.lift x).state →
      (if (w.lift x).state == .hold && (w.lift x).wait == .lookup then decideHold x w else w) = w :=
    fun w hw => by
      rw [hw, beq_eq_false_iff_ne.mpr hs]
      rfl
  cases res with
  | found sn =>
    have h2 := onRecord_lift (s := v) (x := x) (r := { r with lookupPending := false }) (by rw [h1])
      fun r => { r with snapshot := some sn }
    have h3 := (writeMarker_lift (v.marker x).furthest _ x x).trans h2
    rw [h1] at h3
    exact (congrArg (fun w : State => w.lift x) (out _ (by rw [h3]))).trans h3
  | notFound => rw [out _ (by rw [h1]), h1]
  | unavailable => rw [out _ (by rw [h1]), h1]

theorem askLookup_lift (h : (s.lift x).record = some r) (hq : r.requested = false)
    (ht : r.tag = some tag) (hs : (s.lift x).state ≠ .hold) :
    (askLookup x tag s).lift x = { s.lift x with record := some (lookedUp tag s r) } := by
  have h1 := onRecord_lift h fun r => { r with lookupPending := true }
  have hm : (s.onRecord x fun r => { r with lookupPending := true }).table = s.table := rfl
  have hl : (s.onRecord x fun r => { r with lookupPending := true }).lookupResult tag =
      s.lookupResult tag := rfl
  unfold askLookup lookedUp
  dsimp only
  rw [hm]
  split
  · rw [show (waitLookup x tag (s.onRecord x fun r => { r with lookupPending := true })).lift x =
      (s.onRecord x fun r => { r with lookupPending := true }).lift x from
        congrArg (·.get x) (waitLookup_keeps State.lifts keeps_lifts.mono _ _ _), h1]
  · unfold answerLookup
    rw [hl]
    generalize s.onRecord x (fun r => { r with lookupPending := true }) = v at h1 ⊢
    have hc : (countLookup (s.lookupResult tag) v).lift x = v.lift x :=
      congrArg (·.get x) (countLookup_keeps State.lifts keeps_lifts.mono _ v)
    rw [deliverLookup_lift (r := { r with lookupPending := true }) (by rw [hc, h1])
      (by simp [LiftRecord.awaits, hq, ht]) (by rw [hc, h1]; exact hs), hc, h1]

theorem askLookup_waits (h : s.table.moving = true) (x : Station) (tag : Nat) :
    .lookup x tag ∈ (askLookup x tag s).table.waiting := by
  have hm : (s.onRecord x fun r => { r with lookupPending := true }).table.moving = true := h
  unfold askLookup
  dsimp only
  rw [if_pos hm]
  exact List.mem_append_right _ (List.mem_singleton_self _)

end

end Sys2Proof.Proofs

/-! Engage ends in a group read: the lift as it enters Raise (R54, R80). -/

namespace Sys2Proof.Proofs

open Sys2Proof Sys2Proof.Machine Sys2Proof.Laws

section

variable {P : Touch → Prop} {s t u v w z : State} {x : Station} {new : BitVec 32} {r r' : LiftRecord}
  {n limit now tag : Nat} {q : List TagEntry} {a : Option AssignedTag} {c : TagCounts}

/-! ### The lift after Engage -/

/-- A lift that has entered Raise from Engage (R54, R55, R91, R96). -/
structure Engaged (x : Station) (r : LiftRecord) (limit now : Nat) (t : State) : Prop where
  state : (t.lift x).state = .raise
  record : (t.lift x).record = some r
  began : t.began x .raise limit
  marker : t.marker x = r.marker .engaged
  accepted : (t.scale x).accepted = none
  fallback : (t.scale x).fallback = none
  run : (t.scale x).run = Run.empty
  silence : (t.scale x).silence = .running (now + 250000)

theorem Engaged.stands (h : Engaged x r limit now s) (k : Stands x s t) : Engaged x r limit now t := by
  refine ⟨k.state.trans h.state, k.record.trans h.record, k.began _ _ h.began,
    k.marker.trans h.marker, ?_, ?_, ?_, ?_⟩ <;> rcases k.scale with e | e <;> rw [e]
  · exact h.accepted
  · exact h.accepted
  · exact h.fallback
  · exact h.fallback
  · exact h.run
  · exact h.silence
  · exact h.silence

theorem TagShare.stands (h : TagShare x s q a c) (k : Stands x s t) : TagShare x t q a c :=
  ⟨k.candidates.trans h.queue, k.assigned.trans h.assigned, k.counts.trans h.counts⟩

/-- Raise is entered with the marker of the lift. -/
theorem enterRaise_engaged (hr : (s.lift x).record = some r) (ht : s.stationRole .atTop x = false) :
    Engaged x r (s.cfg.raiseLimit x) s.now (enterRaise x (writeMarker x .engaged s)) ∧
    (enterRaise x (writeMarker x .engaged s)).tags = s.tags ∧
    (enterRaise x (writeMarker x .engaged s)).table = s.table := by
  have hm := writeMarker_marker hr .engaged
  have hl := writeMarker_lift .engaged s x x
  have keep : ∀ {α : Type} {π : State → α}, Keeps π [.markers] → π (writeMarker x .engaged s) = π s :=
    fun hk => writeMarker_keeps _ hk _ _ _
  have hcfg := keep keeps_cfg.mono
  have hsys := keep keeps_sys.mono
  have htags := keep keeps_tags.mono
  have htable := keep keeps_table.mono
  have htop : (writeMarker x .engaged s).stationRole .atTop x = false :=
    (stationRole_congr (keep keeps_scanner.mono) hcfg _ _).trans ht
  have hnow : (writeMarker x .engaged s).now = s.now := congrArg Sys.now hsys
  generalize writeMarker x .engaged s = y at *
  rw [enterRaise_below htop]
  obtain ⟨h1, h2, h3, h4, h5, h6, h7⟩ := raiseBegun_raising x y
  rw [hcfg] at h3
  rw [hnow] at h7
  refine ⟨⟨h1, h2.trans (by rw [hl, hr]), h3, ?_, h4, h5, h6, h7⟩,
    (raiseBegun_keeps keeps_tags.mono x y).trans htags,
    (raiseBegun_keeps keeps_table.mono x y).trans htable⟩
  rw [← hm]
  exact congrArg (·.get x) (raiseBegun_keeps keeps_markers.mono x y)

/-! ### The three answers of the Tag Associator (R80) -/

/-- A lift that has taken the tag of an entry. -/
def takeTag (x : Station) (e : TagEntry) (s : State) : State :=
  (assignEntry x e s).onRecord x fun r => { r with tag := some e.tag, source := .engage }

theorem takeTag_keeps {α : Type} {π : State → α} (hk : Keeps π [.lifts, .tags]) (x : Station)
    (e : TagEntry) (s : State) : π (takeTag x e s) = π s := by
  unfold takeTag State.onRecord State.setLift assignEntry State.countTags State.setAssigned
    State.setTagQueue
  rw [hk.lifts, hk.tags, hk.tags, hk.tags]

theorem takeTag_lift (h : (s.lift x).record = some r) (e : TagEntry) :
    (takeTag x e s).lift x =
      { s.lift x with record := some { r with tag := some e.tag, source := .engage } } :=
  onRecord_lift (s := assignEntry x e s) h _

theorem takeTag_share (x : Station) (e : TagEntry) (s : State) :
    TagShare x (takeTag x e s) ((s.candidates x).filter fun y => y.tag != e.tag) (some ⟨e.tag, e.last⟩)
      { s.tags.counts.get x with engage := bump (s.tags.counts.get x).engage } :=
  (assignEntry_share x e s).congr rfl

theorem lookedUp_congr (ht : t.table = s.table) (hs : t.store = s.store) (tag : Nat) (r : LiftRecord) :
    lookedUp tag t r = lookedUp tag s r := by
  unfold lookedUp State.lookupResult State.find
  rw [ht, hs]

theorem endEngage_untagged (h : s.candidates x = []) : endEngage x s =
    enterRaise x (writeMarker x .engaged (s.countTags x fun c => { c with noTag := bump c.noTag })) := by
  unfold endEngage assignTag
  rw [h]

theorem endEngage_tagged {e : TagEntry} {l : List TagEntry} (h : s.candidates x = e :: l)
    (hl : s.cfg.rollover = true ∨ l = []) : endEngage x s =
    enterRaise x (writeMarker x .engaged (askLookup x e.tag (takeTag x e s))) := by
  unfold endEngage assignTag takeTag
  rw [h]
  cases l with
  | nil => rfl
  | cons y l =>
    have hr : s.cfg.rollover = true := hl.resolve_right (List.cons_ne_nil _ _)
    simp only [hr, if_true]

theorem endEngage_ambiguous {e y : TagEntry} {l : List TagEntry} (h : s.candidates x = e :: y :: l)
    (hr : s.cfg.rollover = false) : endEngage x s =
    enterRaise x (writeMarker x .engaged (setFlag x .ambiguousTag (lockOut x s))) := by
  unfold endEngage assignTag
  rw [h]
  simp only [hr, Bool.false_eq_true, if_false]

/-- What Engage end makes of the lift, by the candidates that the station has (R80). -/
structure EngageEnd (x : Station) (r : LiftRecord) (s : State) (r' : LiftRecord) (t : State) : Prop where
  untagged : s.candidates x = [] → r' = r ∧
    TagShare x t [] (s.tags.assigned.get x)
      { s.tags.counts.get x with noTag := bump (s.tags.counts.get x).noTag }
  tagged : ∀ e l, s.candidates x = e :: l → s.cfg.rollover = true ∨ l = [] →
    r' = lookedUp e.tag s { r with tag := some e.tag, source := .engage } ∧
    TagShare x t ((s.candidates x).filter fun y => y.tag != e.tag) (some ⟨e.tag, e.last⟩)
      { s.tags.counts.get x with engage := bump (s.tags.counts.get x).engage } ∧
    (s.table.moving = true → .lookup x e.tag ∈ t.table.waiting)
  ambiguous : ∀ e y l, s.candidates x = e :: y :: l → s.cfg.rollover = false →
    r' = { r with flags := r.flags ||| LiftFlag.ambiguousTag.mask } ∧
    TagShare x t [] (s.tags.assigned.get x)
      { s.tags.counts.get x with ambiguous := bump (s.tags.counts.get x).ambiguous }

theorem endEngage_untagged_ends (hrec : (s.lift x).record = some r)
    (ht : s.stationRole .atTop x = false) (hc : s.candidates x = []) :
    Engaged x r (s.cfg.raiseLimit x) s.now (endEngage x s) ∧ EngageEnd x r s r (endEngage x s) := by
  have hsh := countTags_share (x := x) (s := s) fun c => { c with noTag := bump c.noTag }
  obtain ⟨h1, h2, -⟩ := enterRaise_engaged
    (s := s.countTags x fun c => { c with noTag := bump c.noTag }) hrec ht
  rw [endEngage_untagged hc]
  refine ⟨h1, fun _ => ⟨rfl, hc ▸ hsh.congr h2⟩, fun e l h => ?_, fun e y l h => ?_⟩
  · exact absurd (hc.symm.trans h) nofun
  · exact absurd (hc.symm.trans h) nofun

theorem endEngage_tagged_ends (hs : (s.lift x).state ≠ .hold) (hrec : (s.lift x).record = some r)
    (hq : r.requested = false) (ht : s.stationRole .atTop x = false) {e : TagEntry} {l : List TagEntry}
    (hc : s.candidates x = e :: l) (hl : s.cfg.rollover = true ∨ l = []) :
    Engaged x (lookedUp e.tag s { r with tag := some e.tag, source := .engage }) (s.cfg.raiseLimit x)
      s.now (endEngage x s) ∧
    EngageEnd x r s (lookedUp e.tag s { r with tag := some e.tag, source := .engage })
      (endEngage x s) := by
  have hsh := takeTag_share x e s
  have hlift := takeTag_lift hrec e
  have keep : ∀ {α : Type} {π : State → α}, Keeps π [.lifts, .tags] → π (takeTag x e s) = π s :=
    fun hk => takeTag_keeps hk x e s
  have hlook := lookedUp_congr (keep keeps_table.mono) (keep keeps_store.mono) e.tag
  have hmove : (takeTag x e s).table = s.table := keep keeps_table.mono
  have hcfg : (takeTag x e s).cfg = s.cfg := keep keeps_cfg.mono
  have hsys : (takeTag x e s).sys = s.sys := keep keeps_sys.mono
  have hscan : (takeTag x e s).scanner = s.scanner := keep keeps_scanner.mono
  rw [endEngage_tagged hc hl]
  generalize takeTag x e s = y at *
  have ha := askLookup_lift (s := y) (x := x) (tag := e.tag)
    (r := { r with tag := some e.tag, source := .engage }) (by rw [hlift]) hq rfl (by rw [hlift]; exact hs)
  have hwait := askLookup_waits (s := y) (x := x) (tag := e.tag)
  have hcfg2 := (askLookup_keeps _ keeps_cfg.mono x e.tag y).trans hcfg
  have hsys2 := (askLookup_keeps _ keeps_sys.mono x e.tag y).trans hsys
  have hscan2 := (askLookup_keeps _ keeps_scanner.mono x e.tag y).trans hscan
  have htags2 := askLookup_keeps State.tags keeps_tags.mono x e.tag y
  generalize askLookup x e.tag y = z at *
  have hz : (z.lift x).record =
      some (lookedUp e.tag s { r with tag := some e.tag, source := .engage }) := by
    rw [ha, hlook]
  obtain ⟨h1, h2, h3⟩ := enterRaise_engaged hz ((stationRole_congr hscan2 hcfg2 _ _).trans ht)
  have hnow : z.now = s.now := congrArg Sys.now hsys2
  rw [hcfg2, hnow] at h1
  refine ⟨h1, fun h => ?_, fun e' l' h _ => ?_, fun e' y' l' h hr => ?_⟩
  · exact absurd (hc.symm.trans h) nofun
  · obtain ⟨rfl, rfl⟩ := List.cons.inj (hc.symm.trans h)
    refine ⟨rfl, hsh.congr (h2.trans htags2), fun hm => ?_⟩
    rw [h3]
    exact hwait (by rw [hmove]; exact hm)
  · obtain ⟨rfl, rfl⟩ := List.cons.inj (hc.symm.trans h)
    rcases hl with k | k
    · exact absurd (hr.symm.trans k) (by decide)
    · exact absurd k (List.cons_ne_nil _ _)

theorem endEngage_ambiguous_ends (hrec : (s.lift x).record = some r)
    (ht : s.stationRole .atTop x = false) {e y : TagEntry} {l : List TagEntry}
    (hc : s.candidates x = e :: y :: l) (hr : s.cfg.rollover = false) :
    Engaged x { r with flags := r.flags ||| LiftFlag.ambiguousTag.mask } (s.cfg.raiseLimit x) s.now
      (endEngage x s) ∧
    EngageEnd x r s { r with flags := r.flags ||| LiftFlag.ambiguousTag.mask } (endEngage x s) := by
  have hsh := lockOut_share x s
  have hz := onRecord_lift (s := lockOut x s) (x := x) (r := r) hrec fun r =>
    { r with flags := r.flags ||| LiftFlag.ambiguousTag.mask }
  obtain ⟨h1, h2, -⟩ := enterRaise_engaged (s := setFlag x .ambiguousTag (lockOut x s)) (x := x)
    (congrArg Lift.record hz) ht
  rw [endEngage_ambiguous hc hr]
  refine ⟨h1, fun h => ?_, fun e' l' h k => ?_, fun e' y' l' _ _ => ⟨rfl, hsh.congr h2⟩⟩
  · exact absurd (hc.symm.trans h) nofun
  · obtain ⟨rfl, rfl⟩ := List.cons.inj (hc.symm.trans h)
    rcases k with k | k
    · exact absurd (hr.symm.trans k) (by decide)
    · exact absurd k (List.cons_ne_nil _ _)

theorem endEngage_ends (hs : (s.lift x).state ≠ .hold) (hrec : (s.lift x).record = some r)
    (hq : r.requested = false) (ht : s.stationRole .atTop x = false) :
    ∃ r', Engaged x r' (s.cfg.raiseLimit x) s.now (endEngage x s) ∧
      EngageEnd x r s r' (endEngage x s) := by
  match hc : s.candidates x with
  | [] => exact ⟨_, endEngage_untagged_ends hrec ht hc⟩
  | [e] => exact ⟨_, endEngage_tagged_ends hs hrec hq ht hc (.inr rfl)⟩
  | e :: y :: l =>
    cases hr : s.cfg.rollover with
    | true => exact ⟨_, endEngage_tagged_ends hs hrec hq ht hc (.inl hr)⟩
    | false => exact ⟨_, endEngage_ambiguous_ends hrec ht hc hr⟩

/-! ### In a group read -/

theorem EngageEnd.stands (h : EngageEnd x r s r' t) (k : Stands x t u) (L : Ledger n t u) :
    EngageEnd x r s r' u where
  untagged hc := ⟨(h.untagged hc).1, (h.untagged hc).2.stands k⟩
  tagged e l hc hl := by
    obtain ⟨h1, h2, h3⟩ := h.tagged e l hc hl
    obtain ⟨m, hm⟩ := L.table.waiting
    refine ⟨h1, h2.stands k, fun hw => ?_⟩
    rw [hm]
    exact List.mem_append_left _ (h3 hw)
  ambiguous e y l hc hl := ⟨(h.ambiguous e y l hc hl).1, (h.ambiguous e y l hc hl).2.stands k⟩

/-- A lookup reads the same in a store that has taken records meanwhile (R110, R129). -/
theorem Ledger.lookedUp (L : Ledger n s t) (hb : booksWell s) (tag : Nat) (r : LiftRecord) :
    lookedUp tag t r = lookedUp tag s r := by
  have hh := L.households hb
  have hfind : t.find tag = s.find tag := by
    unfold State.find
    rw [L.table.count, hh.search _ _ _ hb.2]
  have hres : t.lookupResult tag = s.lookupResult tag := by
    unfold State.lookupResult
    rw [L.table.state, hfind]
    split
    · split
      · rename_i p hp
        rw [hh.recSnapshot (Nat.lt_of_lt_of_le (search_lt hp) hb.2)]
      · rfl
    · rfl
  unfold Proofs.lookedUp
  rw [L.table.moving, hres]

theorem EngageEnd.since (h : EngageEnd x r v r' t) (k : Stands x u v) (L : Ledger n u v)
    (hc : v.cfg = u.cfg) (hb : booksWell u) : EngageEnd x r u r' t where
  untagged h0 := by
    have := h.untagged (k.candidates.trans h0)
    rw [k.assigned, k.counts] at this
    exact this
  tagged e l h0 hl := by
    have := h.tagged e l (k.candidates.trans h0) (hc.symm ▸ hl)
    rw [k.candidates, k.counts, L.table.moving, L.lookedUp hb] at this
    exact this
  ambiguous e y l h0 hl := by
    have := h.ambiguous e y l (k.candidates.trans h0) (hc.symm ▸ hl)
    rw [k.assigned, k.counts] at this
    exact this

theorem stationInputs_engage (hs : (s.lift x).state = .engage) (hg : s.stationRole .gripped x = true) :
    stationInputs x s = endEngage x s := by
  unfold stationInputs
  rw [hs]
  exact if_pos hg

theorem Turning.engageEnds (h : Turning new u x) (hs : (u.lift x).state = .engage)
    (hrec : (u.lift x).record = some r) (hq : r.requested = false)
    (h0 : u.stationRole .gripped x = false) (h1 : (changedState new u).stationRole .gripped x = true)
    (htop : (changedState new u).stationRole .atTop x = false) (hb : booksWell u) :
    ∃ r', Engaged x r' (u.cfg.raiseLimit x) u.now (changedState new u) ∧
      EngageEnd x r u r' (changedState new u) := by
  have hc := changedState_cfg new u
  obtain ⟨v, l, hv, hl, hlen, heq⟩ := h.come ⟨by rw [hs]; decide, by rw [hs]; decide⟩
    (changedState_touches (r := .gripped) ⟨by decide, by decide⟩ (by rw [h0, h1]; decide))
  have hvs := hv.stands.state.trans hs
  obtain ⟨r', he, hend⟩ := endEngage_ends (s := v) (x := x) (by rw [hvs]; decide)
    (hv.stands.record.trans hrec) hq ((hv.stationRole hc _ _).trans htop)
  have hin := stationInputs_engage hvs ((hv.stationRole hc _ _).trans h1)
  have hrz := (endEngage_ledger (x := x) (s := v)).rests (hv.ledger.rests h.rests)
  have hnow : v.now = u.now := congrArg Sys.now hv.sys
  rw [hv.cfg, hnow] at he
  have hturn : turned (u.scanner.published ^^^ new) x v = endEngage x v := by
    unfold turned
    rw [hin]
    split
    · exact retestBlade_idle fun hw => absurd (he.state.symm.trans hw.1) (by decide)
    · rfl
  rw [hturn] at heq
  obtain ⟨k, L⟩ := afterTurn (changed := u.scanner.published ^^^ new)
    (begun := begunNow (published new u)) (stop := false) hl hlen hrz
    fun hw => absurd (he.state.symm.trans hw.1) (by decide)
  rw [heq]
  exact ⟨r', he.stands k, (hend.stands k L).since hv.stands hv.ledger hv.cfg hb⟩

end

end Sys2Proof.Proofs

/-! The end of Lower in a group read: the tare and the charge request (R62, R94, R127). -/

namespace Sys2Proof.Proofs

open Sys2Proof Sys2Proof.Machine Sys2Proof.Laws

section

variable {P : Touch → Prop} {s t u v w z : State} {x : Station} {new : BitVec 32} {r g : LiftRecord}
  {n m : Nat}

/-! ### The lift at Lower end (R62, R94) -/

/-- A Lift Record with its tare (R94). -/
def tared (c : Mem) (w : WeighStation) (r : LiftRecord) : LiftRecord :=
  match w.accepted with
  | some a => { r with tare := some a.mass, tareSource := .measured, flags := r.flags ||| a.flags }
  | none =>
    { r with
      tare := some (c.defaultTare (binOf r.snapshot)), tareSource := .default
      flags := r.flags ||| LiftFlag.defaultTare.mask }

/-- The count of default tares after Lower end. -/
def taredCount (w : WeighStation) : Nat :=
  match w.accepted with
  | some _ => w.defaultTare
  | none => bump w.defaultTare

theorem scale_setScale (s : State) (x : Station) (w : WeighStation) : (s.setScale x w).scale x = w :=
  (tri_get_set _ _ _ _).trans (if_pos rfl)

theorem fixTare_lift (h : (s.lift x).record = some r) :
    (fixTare x s).lift x = { s.lift x with record := some (tared s.cfg (s.scale x) r) } ∧
    ((fixTare x s).scale x).defaultTare = taredCount (s.scale x) := by
  have left : ∀ v : State, (leaveWeighing x v).lift x = v.lift x ∧
      ((leaveWeighing x v).scale x).defaultTare = (v.scale x).defaultTare := fun v =>
    ⟨rfl, (congrArg WeighStation.defaultTare (scale_setScale v x { v.scale x with
      run := Run.empty, silence := .stopped })).trans rfl⟩
  unfold fixTare tared taredCount
  dsimp only
  cases ha : (s.scale x).accepted with
  | some a =>
    dsimp only
    rw [(left _).1, (left _).2]
    exact ⟨onRecord_lift h _, rfl⟩
  | none =>
    dsimp only
    rw [(left _).1, (left _).2]
    exact ⟨onRecord_lift (s := s.setScale x _) h _,
      congrArg WeighStation.defaultTare (scale_setScale s x _)⟩

/-- A reading of a station's scale that no pause changes. -/
def defaultTares (x : Station) (s : State) : Nat := (s.scale x).defaultTare

theorem keeps_defaultTares (x : Station) : Keeps (defaultTares x) [.arb, .store, .body, .control, .lifts,
    .markers, .tags, .table, .billing, .queue, .arbiter, .packer, .payload, .tailgate, .clock,
    .agent] := by
  intro f hf
  cases f with
  | arb =>
    intro s
    unfold defaultTares
    rcases arbitrate_scale s x with e | e <;> rw [e]
  | _ => first | exact fun _ _ => rfl | exact absurd hf (by decide)

theorem Stands.defaultTares (h : Stands x s t) : defaultTares x t = defaultTares x s := by
  unfold Proofs.defaultTares
  rcases h.scale with e | e <;> rw [e]

/-- A lift at Lower end, Charge Pending (R62). -/
structure ChargePending (x : Station) (r : LiftRecord) (s : State) : Prop where
  state : (s.lift x).state = .lower
  pending : (s.lift x).chargePending = true
  timer : (s.lift x).phaseTimer = .stopped
  request : s.request (.station x) = none
  record : (s.lift x).record = some r

theorem ChargePending.stands (h : ChargePending x r s) (k : Stands x s t) : ChargePending x r t :=
  ⟨k.state.trans h.state, k.pending.trans h.pending, k.stopped h.timer, k.request.trans h.request,
    k.record.trans h.record⟩

theorem beforeCharge_pending (hs : (s.lift x).state = .lower) (h : (s.lift x).record = some r) :
    ChargePending x (tared s.cfg (s.scale x) r) (beforeCharge x s) ∧
    defaultTares x (beforeCharge x s) = taredCount (s.scale x) := by
  obtain ⟨h1, h2⟩ := fixTare_lift h
  unfold beforeCharge
  generalize fixTare x s = y at *
  have hl : (y.setLift x { y.lift x with phaseTimer := .stopped }).lift x =
      { y.lift x with phaseTimer := .stopped } := lift_setLift_self _ _ _
  have hw : defaultTares x (y.setLift x { y.lift x with phaseTimer := .stopped }) =
      taredCount (s.scale x) := h2
  generalize y.setLift x { y.lift x with phaseTimer := .stopped } = z at *
  have k1 := releaseRequest_lift Lift.state (fun _ _ _ _ l => (paced_core _ _ _ _ l).1)
    (.station x) z x
  have k2 := releaseRequest_lift Lift.record (fun _ _ _ _ l => (paced_core _ _ _ _ l).2.2.2.2.1)
    (.station x) z x
  have k3 := releaseRequest_stopped (s := z) (x := x) (by rw [hl]) (.station x)
  have k4 := releaseRequest_request (.station x) z
  have k5 := releaseRequest_keeps (defaultTares x) (keeps_defaultTares x).mono (.station x) z
  rw [hl, h1] at k1 k2
  dsimp only
  generalize releaseRequest (.station x) z = w at *
  refine ⟨⟨?_, ?_, ?_, k4, ?_⟩, k5.trans hw⟩ <;> rw [lift_setLift_self]
  · exact k1.trans hs
  · exact k3
  · exact k2

/-! ### The report of a commit to a station in Lower (R63) -/

theorem setGroupLowest_lift {α : Type} (ρ : Lift → α) (h : Unpaced ρ) (x y : Station) (s : State) :
    ρ ((setGroupLowest x s).lift y) = ρ (s.lift y) := by
  unfold setGroupLowest setGroup
  split
  · rfl
  · exact arbitrate_lift ρ h _ y

theorem endRelease_record (x : Station) (s : State) :
    ((endRelease x s).lift x).record = (s.lift x).record := by
  have core : Unpaced Lift.record := fun _ _ _ _ l => (paced_core _ _ _ _ l).2.2.2.2.1
  have h1 : ((releaseRequest (.station x) (s.setLift x
      { s.lift x with phaseTimer := .stopped })).lift x).record = (s.lift x).record :=
    (releaseRequest_lift Lift.record core _ _ _).trans (by rw [lift_setLift_self])
  unfold endRelease
  dsimp only
  generalize releaseRequest (.station x) (s.setLift x { s.lift x with phaseTimer := .stopped }) = w at *
  have h2 : ((if w.cfg.rotating then setGroupLowest x w else w).lift x).record = (w.lift x).record := by
    split
    · exact setGroupLowest_lift Lift.record core _ _ _
    · rfl
  generalize (if w.cfg.rotating then setGroupLowest x w else w) = z at *
  rw [lift_setLift_self]
  exact h2.trans h1

theorem enterRelease_lift (x : Station) (s : State) :
    ((enterRelease x s).lift x).record = (s.lift x).record ∧
    (((enterRelease x s).lift x).state = .release ∨ ((enterRelease x s).lift x).state = .idle) := by
  unfold enterRelease
  have hl := lift_setLift_self s x { s.lift x with
    state := .release, chargePending := false
    phaseTimer := .running (s.now + s.cfg.releaseLimit x) }
  dsimp only
  generalize s.setLift x { s.lift x with
    state := .release, chargePending := false
    phaseTimer := .running (s.now + s.cfg.releaseLimit x) } = y at *
  have h1 : ((if x.isSide then newRequest (.station x) .release y else y).lift x).record =
      (s.lift x).record ∧
      ((if x.isSide then newRequest (.station x) .release y else y).lift x).state = .release := by
    split
    · unfold newRequest
      exact ⟨(arbitrate_lift Lift.record (fun _ _ _ _ l => (paced_core _ _ _ _ l).2.2.2.2.1) _ x).trans
        (show (y.lift x).record = _ by rw [hl]),
        (arbitrate_lift_state _ x).trans (show (y.lift x).state = _ by rw [hl])⟩
    · rw [hl]
      exact ⟨rfl, rfl⟩
  generalize (if x.isSide then newRequest (.station x) .release y else y) = z at *
  split
  · exact ⟨(endRelease_record x z).trans h1.1, .inr (endRelease_ended x z).1.state⟩
  · exact ⟨h1.1, .inl h1.2⟩

theorem reportStation_lower (hs : (s.lift x).state = .lower) (hp : (s.lift x).chargePending = true) :
    ((reportStation x s).lift x).record = none ∧
    (((reportStation x s).lift x).state = .release ∨ ((reportStation x s).lift x).state = .idle) := by
  have hl : (settleAssigned (s.setLift x { s.lift x with record := none }) x).lift x =
      { s.lift x with record := none } := by
    rw [show (settleAssigned (s.setLift x { s.lift x with record := none }) x).lift x = _ from
      congrArg (·.get x) (settleAssigned_keeps _ keeps_lifts.mono _ _)]
    exact lift_setLift_self s x _
  unfold reportStation
  dsimp only
  generalize settleAssigned (s.setLift x { s.lift x with record := none }) x = y at *
  rw [if_pos (by rw [hl, hs, hp]; rfl)]
  obtain ⟨h1, h2⟩ := enterRelease_lift x y
  exact ⟨h1.trans (by rw [hl]), h2⟩

/-! ### The charge request (R62, R127, R129) -/

theorem bookRequest_marker (k : BillKind) (r : ChargeRecord) (p : Price) (below : Bool)
    (a : Option CounterAnswer) (s : State) :
    (bookRequest ⟨.station x, k⟩ r p below a s).marker x = Marker.clear := by
  have h2 : (commitMarker (.station x) (commitRecord (.station x) r (writeBack k r p a s))).marker x =
      Marker.clear := (tri_get_set _ _ _ _).trans (if_pos rfl)
  have keep : ∀ v w : State, v.markers = w.markers → v.marker x = w.marker x := fun v w e => by
    unfold State.marker
    rw [e]
  unfold bookRequest
  dsimp only
  generalize commitMarker (.station x) (commitRecord (.station x) r (writeBack k r p a s)) = v at h2 ⊢
  refine (keep _ _ ?_).trans h2
  rw [countServed_keeps _ keeps_markers.mono, handTotals_keeps _ keeps_markers.mono,
    handPayload_keeps _ keeps_markers.mono]
  split
  · rw [raiseNotice_keeps _ keeps_markers.mono]
  · rfl

/-- A lift whose charge is committed (R63). -/
structure ChargeCommitted (x : Station) (g : LiftRecord) (s t : State) : Prop where
  record : (t.lift x).record = none
  marker : t.marker x = Marker.clear
  held : t.queue.holds (.station x) = false
  state : (t.lift x).state = .release ∨ (t.lift x).state = .idle
  slot : ∃ (a : Option CounterAnswer) (v w : State), Committed s t (recordBytes
    (w.recordOf ⟨.station x, .charge g⟩ (BillReq.figures s.cfg ⟨.station x, .charge g⟩) a) v)

/-- What the charge request comes to: it waits, and then the table is in a move or the engine was not Free; or
its record is committed. -/
theorem chargeRequest_outcome (hp : ChargePending x r s) (hr : billingRests s.billing)
    (hb : booksWell s) (g : LiftRecord) :
    (ChargePending x r (makeRequest ⟨.station x, .charge g⟩ s) ∧
      (⟨.station x, .charge g⟩ : BillReq) ∈ (makeRequest ⟨.station x, .charge g⟩ s).billing.list ∧
      (makeRequest ⟨.station x, .charge g⟩ s).billing.waiting ≠ none ∧
      (s.billing.waiting = none → s.table.moving = true)) ∨
    (ChargeCommitted x g s (makeRequest ⟨.station x, .charge g⟩ s) ∧ s.billing.waiting = none) := by
  have hm := makeRequest_made (q := ⟨.station x, .charge g⟩) hr
  generalize makeRequest ⟨.station x, .charge g⟩ s = z at *
  cases hm with
  | waits v h1 h2 h3 h4 h5 =>
    have hl : z.lift x = s.lift x := congrArg (·.get x) (h3 _ keeps_lifts.mono)
    refine .inl ⟨⟨?_, ?_, ?_, ?_, ?_⟩, h2, h1, h5⟩
    · rw [hl]; exact hp.state
    · rw [hl]; exact hp.pending
    · rw [hl]; exact hp.timer
    · rw [requests_congr (h3 _ keeps_arbiter.mono)]; exact hp.request
    · rw [hl]; exact hp.record
  | done v w r p below a h1 ha hk hL hre =>
    refine .inr ⟨?_, h1⟩
    obtain ⟨y, hy⟩ := finishRequest_committed (q := ⟨.station x, .charge g⟩) (r := r) (p := p)
      (below := below) ha hk hL hb
    obtain ⟨b, hbk, e⟩ := bookRequest_eq ⟨.station x, .charge g⟩ r p below a v
    have hlifts : (bookRequest ⟨.station x, .charge g⟩ r p below a v).lifts = s.lifts := by
      rw [e, countServed_keeps _ keeps_lifts.mono, handTotals_keeps _ keeps_lifts.mono,
        hbk _ keeps_lifts.mono, commitRecord_keeps _ keeps_lifts.mono, writeBack_keeps _ keeps_lifts.mono,
        hk _ keeps_lifts.mono]
    have hl : (bookRequest ⟨.station x, .charge g⟩ r p below a v).lift x = s.lift x :=
      congrArg (·.get x) hlifts
    have hmark := bookRequest_marker (x := x) (.charge g) r p below a v
    have hheld := (bookRequest_frame ⟨.station x, .charge g⟩ r p below a v).2.2.2.2.2
    unfold finishRequest at hy ⊢
    generalize bookRequest ⟨.station x, .charge g⟩ r p below a v = k at *
    obtain ⟨h2, h3⟩ := reportStation_lower (s := k) (x := x) (by rw [hl]; exact hp.state)
      (by rw [hl]; exact hp.pending)
    refine ⟨h2, ?_, ?_, h3, a, y, w, hre ▸ hy⟩
    · exact (congrArg (·.get x) (reportStation_keeps State.markers keeps_markers.mono x k)).trans hmark
    · have hq : (report (.station x) k).queue = k.queue :=
        reportStation_keeps State.queue keeps_queue.mono x k
      show (report (.station x) k).queue.heldSt.get x = false
      rw [hq, hheld]
      exact (tri_get_set _ _ _ _).trans (if_pos rfl)

end

end Sys2Proof.Proofs

/-! Lower ends in a group read: the record is committed, or the request waits (R62, R94, R129). -/

namespace Sys2Proof.Proofs

open Sys2Proof Sys2Proof.Machine Sys2Proof.Laws

section

variable {s t u v w z : State} {x : Station} {new : BitVec 32} {r g : LiftRecord} {m n : Nat}

/-! ### The charge request's outcome -/

/-- A lift's charge request waits (R62). -/
structure ChargeWaits (x : Station) (g : LiftRecord) (t : State) : Prop where
  pending : ChargePending x { g with requested := true } t
  listed : (⟨.station x, .charge g⟩ : BillReq) ∈ t.billing.list
  engine : t.billing.waiting ≠ none

/-- What Lower end comes to with a lift's record (R62, R127). -/
structure LowerEnd (x : Station) (g : LiftRecord) (s t : State) : Prop where
  either : ChargeWaits x g t ∨ ChargeCommitted x g s t
  waits : s.billing.waiting ≠ none → ChargeWaits x g t
  free : s.billing.waiting = none → s.table.moving = false → ChargeCommitted x g s t

theorem beforeCharge_ledger (x : Station) (s : State) (f : LiftRecord → LiftRecord) :
    Ledger 0 s ((beforeCharge x s).onRecord x f) :=
  .of_keeps (f := fun s => (beforeCharge x s).onRecord x f) fun π hk => by
    unfold State.onRecord State.setLift
    rw [hk.lifts, beforeCharge_keeps π hk.mono]

theorem chargePending_requested (h : ChargePending x g s) :
    ChargePending x { g with requested := true } (s.onRecord x fun r => { r with requested := true }) := by
  have hl := onRecord_lift h.record fun r => { r with requested := true }
  have ha : (s.onRecord x fun r => { r with requested := true }).arbiter = s.arbiter := rfl
  generalize s.onRecord x (fun r => { r with requested := true }) = y at *
  refine ⟨?_, ?_, ?_, (requests_congr ha _).trans h.request, ?_⟩ <;> rw [hl]
  · exact h.state
  · exact h.pending
  · exact h.timer

theorem ChargeCommitted.since (h : ChargeCommitted x g s t) (L : Ledger n u s)
    (hc : s.cfg = u.cfg) : ChargeCommitted x g u t := by
  obtain ⟨a, v, w, hs⟩ := h.slot
  exact ⟨h.record, h.marker, h.held, h.state, a, v, w, hc ▸ hs.since L.grows L.head⟩

theorem endLower_ends (hr : billingRests s.billing) (hb : booksWell s) (hs : (s.lift x).state = .lower)
    (h : (s.lift x).record = some r) :
    LowerEnd x (tared s.cfg (s.scale x) r) s (endLower x s) ∧
    defaultTares x (endLower x s) = taredCount (s.scale x) := by
  obtain ⟨h1, h2⟩ := beforeCharge_pending hs h
  have h3 := chargePending_requested h1
  have hL := beforeCharge_ledger x s fun r => { r with requested := true }
  have hcfg : ((beforeCharge x s).onRecord x fun r => { r with requested := true }).cfg = s.cfg :=
    beforeCharge_keeps State.cfg keeps_cfg.mono x s
  have htab : ((beforeCharge x s).onRecord x fun r => { r with requested := true }).table = s.table :=
    beforeCharge_keeps State.table keeps_table.mono x s
  have hbill : ((beforeCharge x s).onRecord x fun r => { r with requested := true }).billing =
      s.billing := beforeCharge_keeps State.billing keeps_billing.mono x s
  have hw : defaultTares x ((beforeCharge x s).onRecord x fun r => { r with requested := true }) =
      taredCount (s.scale x) := h2
  rw [endLower_eq, h1.record]
  dsimp only
  generalize tared s.cfg (s.scale x) r = g at *
  generalize (beforeCharge x s).onRecord x (fun r => { r with requested := true }) = y at *
  refine ⟨?_, (makeRequest_keeps (defaultTares x) (keeps_defaultTares x).mono _ y).trans hw⟩
  have hrest := hL.rests hr
  have hout := chargeRequest_outcome h3 hrest (hL.books hb) g
  rw [hbill, htab] at hout
  generalize makeRequest ⟨.station x, .charge g⟩ y = z at *
  rcases hout with ⟨k1, k2, k3, k4⟩ | ⟨k1, k2⟩
  · exact ⟨.inl ⟨k1, k2, k3⟩, fun _ => ⟨k1, k2, k3⟩, fun e hm =>
      absurd ((k4 e).symm.trans hm) (by decide)⟩
  · exact ⟨.inr (k1.since hL hcfg), fun e => absurd k2 e, fun _ _ => k1.since hL hcfg⟩

/-! ### In a group read -/

/-- A request that waits goes on waiting while its station stands and the engine is not Free. -/
theorem ChargeWaits.stands (h : ChargeWaits x g s) (k : Stands x s t) (L : Ledger n s t) :
    ChargeWaits x g t :=
  ⟨h.pending.stands k, (L.waits h.engine).2 _ h.listed, (L.waits h.engine).1⟩

theorem ChargeCommitted.stands (h : ChargeCommitted x g s t) (k : Stands x t u) (L : Ledger n t u)
    (hb : booksWell t) (hh : t.queue.head = s.queue.head)
    (hn : u.queue.count ≤ s.queue.count + 256) : ChargeCommitted x g s u := by
  obtain ⟨a, v, w, hc⟩ := h.slot
  refine ⟨k.record.trans h.record, k.marker.trans h.marker, k.held.trans h.held, ?_, a, v, w,
    hc.later L hb hh hn⟩
  rw [k.state]
  exact h.state

theorem charge_tare (c : Mem) (x : Station) (g : LiftRecord) :
    (BillReq.figures c ⟨.station x, .charge g⟩).tare = g.tare.getD 0 := by
  show (liftFigures c x g).tare = _
  unfold liftFigures
  split <;> rfl

/-- The bytes of the record that a charge commits (R137). -/
theorem ChargeCommitted.bytes (h : ChargeCommitted x g s t) :
    ∃ k, s.queue.count ≤ k ∧ k < t.queue.count ∧
      let slot := slotBase ((s.queue.head + k) % 256)
      (t.store.read (slot + 11)).toNat = x.num ∧
      ofLe (t.store.readBytes (slot + 22) 2) = g.tare.getD 0 % 65536 := by
  obtain ⟨a, v, w, hc⟩ := h.slot
  obtain ⟨k, k1, k2, k3, -, -, k4⟩ := committed_reads hc
  refine ⟨k, k1, k2, ?_, ?_⟩
  · have hnum : x.num % 256 = x.num := by cases x <;> rfl
    exact (congrArg BitVec.toNat k3).trans hnum
  · rw [← charge_tare s.cfg x g]
    exact k4

/-- What Lower end comes to, seen from a state before it and from one after it. -/
theorem LowerEnd.within (h : LowerEnd x g v z) (hb : booksWell u) (L : Ledger m u v) (hc : v.cfg = u.cfg)
    (hz : Ledger 1 v z) (k : Stands x z t) (K : Ledger n z t) (hn : m + 1 + n ≤ 256) :
    LowerEnd x g u t := by
  have L1 := L.trans hz
  have bills : ChargeCommitted x g v z → ChargeCommitted x g u t := fun e =>
    (e.since L hc).stands k K (L1.books hb) L1.head ((L1.trans K).bound.trans (by omega))
  exact ⟨h.either.imp (fun e => e.stands k K) bills, fun e => (h.waits (L.waits e).1).stands k K,
    fun e hm => bills (h.free (L.free e hm) (L.table.moving.trans hm))⟩

theorem tared_stands (k : Stands x u v) (hc : v.cfg = u.cfg) (r : LiftRecord) :
    tared v.cfg (v.scale x) r = tared u.cfg (u.scale x) r ∧
    taredCount (v.scale x) = taredCount (u.scale x) := by
  rw [hc]
  rcases k.scale with e | e <;> rw [e]
  · exact ⟨rfl, rfl⟩
  · exact ⟨rfl, rfl⟩

theorem stationInputs_lower (hs : (s.lift x).state = .lower) (hp : (s.lift x).chargePending = false)
    (hl : s.stationRole .lowered x = true) : stationInputs x s = endLower x s := by
  unfold stationInputs
  rw [hs]
  exact if_pos (by rw [hl, hp]; rfl)

theorem LowerEnd.not_waits (h : LowerEnd x g s t) : ¬ bladeWaits t x := fun hw => by
  have hold := hw.1
  rcases h.either with k | k
  · exact absurd (k.pending.state.symm.trans hold) (by decide)
  · rcases k.state with e | e <;> exact absurd (e.symm.trans hold) (by decide)

theorem Turning.lowerEnds (h : Turning new u x) (hs : (u.lift x).state = .lower)
    (hp : (u.lift x).chargePending = false) (hrec : (u.lift x).record = some r)
    (h0 : u.stationRole .lowered x = false) (h1 : (changedState new u).stationRole .lowered x = true)
    (hb : booksWell u) :
    LowerEnd x (tared u.cfg (u.scale x) r) u (changedState new u) ∧
    defaultTares x (changedState new u) = taredCount (u.scale x) := by
  have hc := changedState_cfg new u
  obtain ⟨v, l, hv, hl, hlen, heq⟩ := h.come ⟨by rw [hs]; decide, by rw [hs]; decide⟩
    (changedState_touches (r := .lowered) ⟨by decide, by decide⟩ (by rw [h0, h1]; decide))
  obtain ⟨hvs, -, hvp, hvr, -⟩ := hv.stands.lift
  have hrv := hv.ledger.rests h.rests
  obtain ⟨hend, hcount⟩ := endLower_ends hrv (hv.ledger.books hb) (hvs.trans hs) (hvr.trans hrec)
  have hin := stationInputs_lower (hvs.trans hs) (hvp.trans hp) ((hv.stationRole hc _ _).trans h1)
  have hz := endLower_ledger (x := x) hrv
  obtain ⟨ht, htc⟩ := tared_stands hv.stands hv.cfg r
  rw [ht] at hend
  rw [htc] at hcount
  have hturn : turned (u.scanner.published ^^^ new) x v = endLower x v := by
    unfold turned
    rw [hin]
    split
    · exact retestBlade_idle hend.not_waits
    · rfl
  rw [hturn] at heq
  obtain ⟨k, L⟩ := afterTurn (changed := u.scanner.published ^^^ new)
    (begun := begunNow (published new u)) (stop := false) hl hlen (hz.rests hrv) hend.not_waits
  rw [heq]
  exact ⟨hend.within hb hv.ledger hv.cfg hz k L (by omega), k.defaultTares.trans hcount⟩

end

end Sys2Proof.Proofs

/-! The end of Raise: the gross and the entry into Hold (R55, R56, R93). -/

namespace Sys2Proof.Proofs

open Sys2Proof Sys2Proof.Machine Sys2Proof.Laws

section

variable {s t u v w : State} {x y : Station} {r g : LiftRecord} {d : WeighStation} {hold : Timer}
  {k : WaitKind}

/-! ### The gross (R93) -/

/-- A Lift Record with the gross of an accepted window. -/
def stableGross (a : Accepted) (r : LiftRecord) : LiftRecord :=
  { r with gross := some a.mass, grade := .stable, pitch := a.pitch, flags := r.flags ||| a.flags }

/-- A Lift Record with the gross of a fallback window. -/
def unstableGross (c : Conversion) (r : LiftRecord) : LiftRecord :=
  { r with
    gross := some c.mass, grade := .unstable, pitch := c.pitch
    flags := r.flags ||| c.flags ||| LiftFlag.unstableGross.mask }

/-- A Lift Record without a gross. -/
def missingGross (r : LiftRecord) : LiftRecord :=
  { r with
    gross := none, grade := .missing, pitch := 0, flags := r.flags ||| LiftFlag.missingGross.mask }

/-- A Lift Record after Raise. -/
def grossed (x : Station) (s : State) (r : LiftRecord) : LiftRecord :=
  match (s.scale x).accepted with
  | some a => stableGross a r
  | none =>
    match (s.scale x).fallback with
    | some f => unstableGross (s.convert x f.sum) r
    | none => missingGross r

/-- A station's scale once the gross has been counted. -/
def grossCounted (x : Station) (s : State) : WeighStation :=
  match (s.scale x).accepted with
  | some _ => s.scale x
  | none =>
    match (s.scale x).fallback with
    | some f =>
      countLow true (s.convert x f.sum).low
        { s.scale x with unstableGross := bump (s.scale x).unstableGross }
    | none => { s.scale x with missingGross := bump (s.scale x).missingGross }

/-- A station's scale after Raise. -/
def grossScale (x : Station) (s : State) : WeighStation :=
  { grossCounted x s with run := Run.empty, silence := .stopped }

theorem leaveWeighing_scale (x : Station) (s : State) :
    (leaveWeighing x s).scale x = { s.scale x with run := Run.empty, silence := .stopped } :=
  scale_setScale s x _

theorem fixGross_lift (h : (s.lift x).record = some r) :
    (fixGross x s).lift x = { s.lift x with record := some (grossed x s r) } ∧
    (fixGross x s).scale x = grossScale x s := by
  have left : ∀ v : State, (leaveWeighing x v).lift x = v.lift x := fun _ => rfl
  unfold fixGross grossScale grossed grossCounted
  dsimp only
  cases (s.scale x).accepted with
  | some a =>
    dsimp only
    rw [left, leaveWeighing_scale]
    exact ⟨onRecord_lift h _, rfl⟩
  | none =>
    cases (s.scale x).fallback with
    | some f =>
      dsimp only
      rw [left, leaveWeighing_scale]
      exact ⟨onRecord_lift (s := s.setScale x _) h _, congrArg (fun w : WeighStation =>
        { w with run := Run.empty, silence := .stopped }) (scale_setScale s x _)⟩
    | none =>
      dsimp only
      rw [left, leaveWeighing_scale]
      exact ⟨onRecord_lift (s := s.setScale x _) h _, congrArg (fun w : WeighStation =>
        { w with run := Run.empty, silence := .stopped }) (scale_setScale s x _)⟩

/-! ### A station in Hold -/

/-- A station in Hold, its flow released and its gross fixed (R56). -/
structure Held (x : Station) (g : LiftRecord) (d : WeighStation) (hold : Timer) (s : State) : Prop where
  state : (s.lift x).state = .hold
  record : (s.lift x).record = some g
  marker : s.marker x = g.marker .raised
  timer : (s.lift x).holdTimer = hold
  request : s.request (.station x) = none
  phase : (s.lift x).phaseTimer = .stopped
  scale : s.scale x = d

/-- A station in Hold that waits (R56, R57). -/
structure Awaits (x : Station) (k : WaitKind) (g : LiftRecord) (d : WeighStation) (hold : Timer)
    (s : State) : Prop extends Held x g d hold s where
  wait : (s.lift x).wait = k

/-- A station that has entered Dump (R61). -/
structure Dumped (x : Station) (g : LiftRecord) (d : WeighStation) (s : State) : Prop where
  state : (s.lift x).state = .dump
  record : (s.lift x).record = some { g with reachedDump := true }
  marker : s.marker x = g.marker .dumped
  scale : s.scale x = d

theorem Stands.scale_of_empty (h : Stands x s t) (hd : d.run = Run.empty) (hs : s.scale x = d) :
    t.scale x = d := by
  rcases h.scale with e | e
  · exact e.trans hs
  · rw [e, hs, ← hd]

theorem Held.stands (h : Held x g d hold s) (hd : d.run = Run.empty) (k : Stands x s t) :
    Held x g d hold t :=
  have ⟨h1, _, _, h4, h5, _⟩ := k.lift
  ⟨h1.trans h.state, h4.trans h.record, k.marker.trans h.marker, h5.trans h.timer,
    k.request.trans h.request, k.stopped h.phase, k.scale_of_empty hd h.scale⟩

theorem Awaits.stands (h : Awaits x k g d hold s) (hd : d.run = Run.empty) (e : Stands x s t) :
    Awaits x k g d hold t :=
  ⟨h.toHeld.stands hd e, e.wait.trans h.wait⟩

theorem Dumped.stands (h : Dumped x g d s) (hd : d.run = Run.empty) (k : Stands x s t) :
    Dumped x g d t :=
  have ⟨h1, _, _, h4, _⟩ := k.lift
  ⟨h1.trans h.state, h4.trans h.record, k.marker.trans h.marker, k.scale_of_empty hd h.scale⟩

theorem Held.setWait (h : Held x g d hold s) (k : WaitKind) :
    Awaits x k g d hold (s.setLift x { s.lift x with wait := k }) := by
  have hl := lift_setLift_self s x { s.lift x with wait := k }
  refine ⟨⟨?_, ?_, h.marker, ?_, h.request, ?_, h.scale⟩, ?_⟩ <;> rw [hl]
  · exact h.state
  · exact h.record
  · exact h.timer
  · exact h.phase

/-- A station in Hold before its admission is decided. -/
def holding (x : Station) (s : State) : State :=
  let s := writeMarker x .raised (fixGross x s)
  let s := releaseRequest (.station x) (s.setLift x { s.lift x with phaseTimer := .stopped })
  s.setLift x { s.lift x with state := .hold, holdTimer := .running (s.now + s.cfg.holdLimit) }

theorem holding_keeps {α : Type} {π : State → α}
    (hk : Keeps π [.arb, .lifts, .arbiter, .weigh, .markers]) (x : Station) (s : State) :
    π (holding x s) = π s := by
  unfold holding State.setLift
  rw [hk.lifts, releaseRequest_keeps π hk.mono, hk.lifts, writeMarker_keeps π hk.mono,
    fixGross_keeps π hk.mono]

theorem grossScale_run (x : Station) (s : State) : (grossScale x s).run = Run.empty := rfl

theorem releaseRequest_scale (r : Requester) (s : State) (x : Station) :
    (releaseRequest r s).scale x = s.scale x ∨
    (releaseRequest r s).scale x = { s.scale x with run := Run.empty } := by
  unfold releaseRequest
  split
  · exact arbitrate_scale (s.setArbiter _) x
  · exact .inl rfl

theorem holding_held (h : (s.lift x).record = some r) :
    Held x (grossed x s r) (grossScale x s) (.running (s.now + s.cfg.holdLimit)) (holding x s) := by
  obtain ⟨h1, h2⟩ := fixGross_lift h
  have c1 : (fixGross x s).cfg = s.cfg := fixGross_keeps _ keeps_cfg.mono _ _
  have c2 : (fixGross x s).now = s.now := congrArg Sys.now (fixGross_keeps _ keeps_sys.mono _ _)
  have h0 := grossScale_run x s
  unfold holding
  generalize fixGross x s = a at *
  have m1 := writeMarker_marker (s := a) (x := x) (r := grossed x s r) (by rw [h1]) .raised
  have m2 := writeMarker_lift .raised a x x
  have m3 : (writeMarker x .raised a).weigh = a.weigh := writeMarker_keeps _ keeps_weigh.mono _ _ _
  have m4 : (writeMarker x .raised a).cfg = a.cfg := writeMarker_keeps _ keeps_cfg.mono _ _ _
  have m5 : (writeMarker x .raised a).now = a.now :=
    congrArg Sys.now (writeMarker_keeps _ keeps_sys.mono _ _ _)
  have m6 : (writeMarker x .raised a).scale x = a.scale x := congrArg (fun w : Weigh => w.st.get x) m3
  generalize writeMarker x .raised a = b at *
  have hl := lift_setLift_self b x { b.lift x with phaseTimer := .stopped }
  have l1 : (b.setLift x { b.lift x with phaseTimer := .stopped }).marker x = b.marker x := rfl
  have l2 : (b.setLift x { b.lift x with phaseTimer := .stopped }).scale x = b.scale x := rfl
  have l3 : (b.setLift x { b.lift x with phaseTimer := .stopped }).now = b.now := rfl
  have l4 : (b.setLift x { b.lift x with phaseTimer := .stopped }).cfg = b.cfg := rfl
  dsimp only
  generalize b.setLift x { b.lift x with phaseTimer := .stopped } = c at *
  have k1 := releaseRequest_lift Lift.record (fun _ _ _ _ l => (paced_core _ _ _ _ l).2.2.2.2.1)
    (.station x) c x
  have k2 := releaseRequest_stopped (s := c) (x := x) (by rw [hl]) (.station x)
  have k3 := releaseRequest_request (.station x) c
  have k4 : (releaseRequest (.station x) c).marker x = c.marker x :=
    congrArg (·.get x) (releaseRequest_keeps State.markers keeps_markers.mono _ _)
  have k5 := releaseRequest_scale (.station x) c x
  have k6 : (releaseRequest (.station x) c).now = c.now :=
    congrArg Sys.now (releaseRequest_keeps _ keeps_sys.mono _ _)
  have k7 : (releaseRequest (.station x) c).cfg = c.cfg := releaseRequest_keeps _ keeps_cfg.mono _ _
  rw [hl, m2, h1] at k1
  rw [l2, m6, h2] at k5
  generalize releaseRequest (.station x) c = e at *
  have he := lift_setLift_self e x
    { e.lift x with state := .hold, holdTimer := .running (e.now + e.cfg.holdLimit) }
  refine ⟨?_, ?_, ?_, ?_, k3, ?_, ?_⟩
  · rw [he]
  · rw [he]
    exact k1
  · exact k4.trans (l1.trans m1)
  · rw [he]
    show Timer.running (e.now + e.cfg.holdLimit) = _
    rw [k6, l3, m5, c2, k7, l4, m4, c1]
  · rw [he]
    exact k2
  · exact k5.elim id fun k => k.trans (by rw [← h0])

/-! ### Hold decides admission (R56) -/

/-- What a lift waits for in Hold before it may be admitted. -/
def holdWait (c : Mem) (g : LiftRecord) : Option WaitKind :=
  if g.lookupPending then some .lookup
  else
    match g.snapshot with
    | some sn => if sn.status = .suspended then some .status else none
    | none => if c.unidentifiedTip then none else some .identity

/-- A lift that is admitted. -/
def admitted (g : LiftRecord) : LiftRecord := { g with admission := .admitted }

theorem decideHold_waits (h : (s.lift x).record = some g) (hk : holdWait s.cfg g = some k) :
    decideHold x s = s.setLift x { s.lift x with wait := k } ∧ k ≠ .blade := by
  unfold decideHold
  unfold holdWait at hk
  simp only [h]
  split at hk
  · rename_i hp
    cases hk
    exact ⟨if_pos hp, nofun⟩
  · rename_i hp
    rw [if_neg hp]
    cases hsn : g.snapshot with
    | some sn =>
      rw [hsn] at hk
      dsimp only at hk ⊢
      split at hk
      · rename_i hs
        cases hk
        exact ⟨if_pos hs, nofun⟩
      · cases hk
    | none =>
      rw [hsn] at hk
      dsimp only at hk ⊢
      split at hk
      · cases hk
      · rename_i hs
        cases hk
        exact ⟨if_neg hs, nofun⟩

theorem decideHold_enters (h : (s.lift x).record = some g) (hk : holdWait s.cfg g = none) :
    decideHold x s = bladeTest x (s.onRecord x admitted) := by
  unfold decideHold
  unfold holdWait at hk
  simp only [h]
  split at hk
  · cases hk
  · rename_i hp
    rw [if_neg hp]
    cases hsn : g.snapshot with
    | some sn =>
      rw [hsn] at hk
      dsimp only at hk ⊢
      split at hk
      · cases hk
      · rename_i hs
        exact if_neg hs
    | none =>
      rw [hsn] at hk
      dsimp only at hk ⊢
      split at hk
      · rename_i hs
        exact if_pos hs
      · cases hk

theorem Held.admitted (h : Held x g d hold s) :
    Held x (admitted g) d hold (s.onRecord x Proofs.admitted) := by
  have hl := onRecord_lift h.record Proofs.admitted
  have hm : (s.onRecord x Proofs.admitted).marker x = s.marker x := rfl
  have hr : (s.onRecord x Proofs.admitted).request (.station x) = s.request (.station x) := rfl
  have hs : (s.onRecord x Proofs.admitted).scale x = s.scale x := rfl
  generalize s.onRecord x Proofs.admitted = z at *
  refine ⟨?_, ?_, hm.trans h.marker, ?_, hr.trans h.request, ?_, hs.trans h.scale⟩ <;> rw [hl]
  · exact h.state
  · exact h.timer
  · exact h.phase

end

end Sys2Proof.Proofs

/-! The blade condition of a station that is admitted, through the packer's own handling of the same event
(R57, R166, R168). -/

namespace Sys2Proof.Proofs

open Sys2Proof Sys2Proof.Machine Sys2Proof.Laws

section

variable {P : Touch → Prop} {s t u : State} {x y : Station} {g : LiftRecord} {d : WeighStation}
  {hold : Timer} {changed : BitVec 32} {begun : BitVec 8} {stop : Bool} {l : List Station}

/-! ### The entry into Dump (R61) -/

theorem setLift_stands (h : x ≠ y) (s : State) (l : Lift) : Stands x s (s.setLift y l) :=
  .of_eq (lift_setLift_other h s l) rfl rfl rfl ⟨rfl, rfl, rfl⟩ rfl rfl rfl rfl

theorem newRequest_stands (h : x ≠ y) (ph : FlowPhase) (s : State) :
    Stands x s (newRequest (.station y) ph s) :=
  arbitrate_stands (five_get_set_ne fun e => h (Requester.station.inj e))

theorem countDump_stands (x : Station) (s : State) : Stands x s (countDump s) :=
  (Touches.dump (P := others (.station x)) s (others_dumps _)).stands (spares_others _).self

theorem writeMarker_stands (h : x ≠ y) (f : Furthest) (s : State) : Stands x s (writeMarker y f s) := by
  unfold writeMarker
  split
  · exact (Touches.marker (P := others (.station x)) s y _ ((spares_others _).function _ fun e =>
      h (Requester.station.inj e).symm)).stands (spares_others _).self
  · exact .refl x s

theorem enterDump_stands (h : x ≠ y) (s : State) : Stands x s (enterDump y s) := by
  have h1 : Stands x s (s.onRecord y fun r => { r with reachedDump := true }) := setLift_stands h s _
  unfold enterDump
  generalize s.onRecord y (fun r => { r with reachedDump := true }) = a at *
  have h2 := h1.trans (writeMarker_stands h .dumped a)
  dsimp only
  generalize writeMarker y .dumped a = b at *
  have h3 := setLift_stands h b { b.lift y with
    state := .dump, wait := .none, holdTimer := .stopped, sub := b.cfg.firstSub y
    seqTimer := .running (b.now + b.cfg.subLength y (b.cfg.firstSub y)) }
  generalize b.setLift y _ = c at *
  have h4 := (h2.trans h3).trans (countDump_stands x c)
  generalize countDump c = e at *
  exact h4.trans (newRequest_stands h .dump e)

theorem enterDump_packerState (y : Station) (s : State) :
    (enterDump y s).packer.state = s.packer.state := by
  have h : ∀ v, (newRequest (.station y) .dump (countDump v)).packer.state = v.packer.state := fun v =>
    (arbitrate_packer_state _).trans (countDump_packerState v)
  refine (h _).trans ?_
  have hm : ∀ v, (writeMarker y .dumped v).packer = v.packer := fun v =>
    writeMarker_keeps _ keeps_packer.mono _ _ _
  exact congrArg Packer.state (hm _)

theorem enterDump_dumped (hd : d.run = Run.empty) (hs : (s.lift x).record = some g)
    (hw : s.scale x = d) : Dumped x g d (enterDump x s) := by
  have h1 := onRecord_lift hs fun r => { r with reachedDump := true }
  have h2 : (s.onRecord x fun r => { r with reachedDump := true }).scale x = s.scale x := rfl
  unfold enterDump
  generalize s.onRecord x (fun r => { r with reachedDump := true }) = a at *
  have m1 : (writeMarker x .dumped a).marker x = g.marker .dumped :=
    writeMarker_marker (r := { g with reachedDump := true }) (by rw [h1]) .dumped
  have m2 := writeMarker_lift .dumped a x x
  have m3 : (writeMarker x .dumped a).scale x = a.scale x :=
    congrArg (fun w : Weigh => w.st.get x) (writeMarker_keeps State.weigh keeps_weigh.mono _ _ _)
  dsimp only
  generalize writeMarker x .dumped a = b at *
  have hl := lift_setLift_self b x { b.lift x with
    state := .dump, wait := .none, holdTimer := .stopped, sub := b.cfg.firstSub x
    seqTimer := .running (b.now + b.cfg.subLength x (b.cfg.firstSub x)) }
  have l1 : (b.setLift x { b.lift x with
    state := .dump, wait := .none, holdTimer := .stopped, sub := b.cfg.firstSub x
    seqTimer := .running (b.now + b.cfg.subLength x (b.cfg.firstSub x)) }).marker x = b.marker x := rfl
  have l2 : (b.setLift x { b.lift x with
    state := .dump, wait := .none, holdTimer := .stopped, sub := b.cfg.firstSub x
    seqTimer := .running (b.now + b.cfg.subLength x (b.cfg.firstSub x)) }).scale x = b.scale x := rfl
  generalize b.setLift x { b.lift x with
    state := .dump, wait := .none, holdTimer := .stopped, sub := b.cfg.firstSub x
    seqTimer := .running (b.now + b.cfg.subLength x (b.cfg.firstSub x)) } = c at *
  have k1 : (countDump c).lift x = c.lift x :=
    congrArg (·.get x) (countDump_keeps State.lifts keeps_lifts.mono c)
  have k2 : (countDump c).marker x = c.marker x :=
    congrArg (·.get x) (countDump_keeps State.markers keeps_markers.mono c)
  have k3 : (countDump c).scale x = c.scale x :=
    congrArg (fun w : Weigh => w.st.get x) (countDump_keeps State.weigh keeps_weigh.mono c)
  generalize countDump c = e at *
  have n1 : ∀ {α : Type} (ρ : Lift → α), Unpaced ρ →
      ρ ((newRequest (.station x) .dump e).lift x) = ρ (e.lift x) := fun ρ h =>
    arbitrate_lift ρ h _ x
  have n2 : (newRequest (.station x) .dump e).marker x = e.marker x :=
    congrArg (·.get x) (newRequest_keeps State.markers keeps_markers.mono _ _ e)
  have n3 : (newRequest (.station x) .dump e).scale x = e.scale x ∨
      (newRequest (.station x) .dump e).scale x = { e.scale x with run := Run.empty } :=
    arbitrate_scale (e.setArbiter _) x
  generalize newRequest (.station x) .dump e = f at *
  have he : e.scale x = d := k3.trans (l2.trans (m3.trans (h2.trans hw)))
  refine ⟨?_, ?_, n2.trans (k2.trans (l1.trans m1)), ?_⟩
  · rw [n1 Lift.state fun _ _ _ _ l => (paced_core _ _ _ _ l).1, k1, hl]
  · rw [n1 Lift.record fun _ _ _ _ l => (paced_core _ _ _ _ l).2.2.2.2.1, k1, hl, m2, h1]
  · rcases n3 with e | e
    · exact e.trans he
    · rw [e, he, ← hd]

/-! ### The blade condition decides -/

/-- A packer on its way through the body (R57). -/
def sweeping (s : State) : Prop := s.packer.state = .extending ∨ s.packer.state = .dwelling

/-- With Blade Clear active, an admitted station has dumped, or waits while the packer sweeps (R57). -/
def Tipped (x : Station) (g : LiftRecord) (d : WeighStation) (hold : Timer) (s : State) : Prop :=
  (Dumped x g d s ∧ ¬ sweeping s) ∨ (Awaits x .blade g d hold s ∧ sweeping s)

theorem bladeOk_iff (h : s.role .bladeClear = true) : s.bladeOk = true ↔ ¬ sweeping s := by
  unfold sweeping
  rw [bladeOk_eq, h]
  cases s.packer.state <;> simp

theorem bladeTest_tipped (hd : d.run = Run.empty) (hb : s.role .bladeClear = true)
    (h : Held x g d hold s) : Tipped x g d hold (bladeTest x s) := by
  unfold bladeTest
  split
  · rename_i hok
    refine .inl ⟨enterDump_dumped hd h.record h.scale, ?_⟩
    unfold sweeping
    rw [enterDump_packerState]
    exact (bladeOk_iff hb).mp hok
  · rename_i hok
    exact .inr ⟨h.setWait .blade, Classical.not_not.mp fun hn => hok ((bladeOk_iff hb).mpr hn)⟩

/-- All parts but one station and the packer. -/
def apart (x : Station) : Touch → Prop := fun c => c ≠ .function (.station x) ∧ c ≠ .function .packer

theorem apart_function (h : y ≠ x) : apart x (.function (.station y)) :=
  ⟨fun e => h (Requester.station.inj (Touch.function.inj e)), nofun⟩

theorem ready_apart (hr : billingRests s.billing)
    (hx : (s.lift x).state = .dump ∨ (s.bladeOk = false ∧ s.packer.state ≠ .parked)) :
    Ready (apart x) s where
  blade _ y := by
    by_cases hy : y = x
    · subst hy
      exact .inr (hx.imp (fun e hw => absurd (e.symm.trans hw.1) (by decide)) fun e =>
        ⟨e.1, .inr fun k => k.2 rfl⟩)
    · exact .inl (apart_function hy)
  bills := .inl hr
  packs _ := .inr ⟨fun k => k.2 rfl,
    .inr (hx.elim (fun e => .inr ⟨x, fun k => k.1 rfl, e⟩) fun e => .inl e.2)⟩
  group := .inl ⟨nofun, nofun⟩

theorem Tipped.ready (h : Tipped x g d hold s) (hb : s.role .bladeClear = true)
    (hr : billingRests s.billing) : Ready (apart x) s := by
  refine ready_apart hr (h.imp (fun e => e.1.state) fun e => ⟨?_, ?_⟩)
  · rw [Bool.eq_false_iff]
    exact fun k => (bladeOk_iff hb).mp k e.2
  · rcases e.2 with k | k <;> rw [k] <;> exact nofun

/-- What keeps away from the station and the packer leaves the blade condition decided as it is. -/
theorem Tipped.apart (h : Tipped x g d hold s) (hd : d.run = Run.empty) (hs : Ready (apart x) s)
    (e : Does (Proofs.apart x) s t) : Tipped x g d hold t := by
  have hx : ¬ Proofs.apart x (.function (.station x)) := fun k => k.1 rfl
  have hp : ¬ Proofs.apart x (.function .packer) := fun k => k.2 rfl
  have k := e.stands hs hx
  have hpk : t.packer.state = s.packer.state :=
    e.of_touches hs (I := fun v => v.packer.state = s.packer.state) rfl fun _ _ h e =>
      (h.packerState hp).trans e
  have hsw : sweeping t ↔ sweeping s := by
    unfold sweeping
    rw [hpk]
  unfold Tipped
  rw [hsw]
  exact h.imp (fun e => ⟨e.1.stands hd k, e.2⟩) fun e => ⟨e.1.stands hd k, e.2⟩

/-! ### The packer alone -/

/-- The packer's own items. -/
def packerOwn : Touch → Prop := fun c => c = .function .packer

theorem ready_packerOwn (hr : billingRests s.billing) : Ready packerOwn s where
  blade h := absurd h nofun
  bills := .inl hr
  packs h := absurd h nofun
  group := .inr fun _ h => absurd h nofun

theorem packerOwn_stands (hr : billingRests s.billing) (e : Does packerOwn s t) : Stands x s t :=
  e.stands (ready_packerOwn hr) nofun

theorem retestBlade_stands (h : x ≠ y) (s : State) : Stands x s (retestBlade s y) := by
  unfold retestBlade bladeTest
  split
  · split
    · exact enterDump_stands h s
    · exact setLift_stands h s _
  · exact .refl x s

theorem retestBlade_packerState (y : Station) (s : State) :
    (retestBlade s y).packer.state = s.packer.state := by
  unfold retestBlade bladeTest
  split
  · split
    · exact enterDump_packerState y s
    · rfl
  · rfl

theorem retestBlades_stands (h : x ∉ l) (s : State) : Stands x s (l.foldl retestBlade s) ∧
    (l.foldl retestBlade s).packer.state = s.packer.state := by
  induction l generalizing s with
  | nil => exact ⟨.refl x s, rfl⟩
  | cons y l ih =>
    obtain ⟨hy, hl⟩ := (List.mem_cons.not.trans not_or).mp h
    obtain ⟨h1, h2⟩ := ih hl (retestBlade s y)
    exact ⟨(retestBlade_stands hy s).trans h1, h2.trans (retestBlade_packerState y s)⟩

end

end Sys2Proof.Proofs

/-! The packer's handling of an event in which a station has been admitted: the station dumps as soon as the
packer is out of the way, and no pack begins while it stands in Dump (R57, R166 to R168). -/

namespace Sys2Proof.Proofs

open Sys2Proof Sys2Proof.Machine Sys2Proof.Laws

section

variable {P : Touch → Prop} {s t u : State} {x y : Station} {g : LiftRecord} {d : WeighStation}
  {hold : Timer} {changed : BitVec 32} {begun : BitVec 8} {stop : Bool} {l : List Station}

theorem packerOwn_packer : packerOwn (.function .packer) := rfl

theorem packerOwn_rests (hr : billingRests s.billing) (e : Does packerOwn s t) :
    billingRests t.billing :=
  (e (ready_packerOwn hr)).2.bills.resolve_right fun k => absurd (k.2.2) nofun

theorem packerOwn_role (hr : billingRests s.billing) (e : Does packerOwn s t) (r : Role) :
    t.role r = s.role r :=
  role_congr (e.keeps (ready_packerOwn hr) keeps_scanner.mono)
    (e.keeps (ready_packerOwn hr) keeps_cfg.mono) r

theorem releaseRequest_packerState (r : Requester) (s : State) :
    (releaseRequest r s).packer.state = s.packer.state := by
  unfold releaseRequest
  split
  · exact arbitrate_packer_state _
  · rfl

theorem newRequest_packerState (r : Requester) (ph : FlowPhase) (s : State) :
    (newRequest r ph s).packer.state = s.packer.state := arbitrate_packer_state _

theorem apart_dumps (x : Station) : apart x .dumps := ⟨nofun, nofun⟩

theorem apart_serve (x : Station) : apart x .serve := ⟨nofun, nofun⟩

/-- Parked is entered with a station in Dump, and no pack begins (R165, R166). -/
theorem enterParked_tipped (hd : d.run = Run.empty) (hr : billingRests s.billing)
    (h : Dumped x g d s) : Tipped x g d hold (enterParked servePack s) := by
  have e1 : Does packerOwn s (s.setPacker { s.packer with state := .parked, limitTimer := .stopped }) :=
    setPacker_does (.refl s) packerOwn_packer
  have e2 := releaseRequest_does e1 (r := .packer) packerOwn_packer
  have k := h.stands hd (packerOwn_stands hr e2)
  have hp := releaseRequest_packerState .packer
    (s.setPacker { s.packer with state := .parked, limitTimer := .stopped })
  have hr2 := packerOwn_rests hr e2
  unfold enterParked
  dsimp only
  generalize releaseRequest .packer
    (s.setPacker { s.packer with state := .parked, limitTimer := .stopped }) = v at *
  have hp : v.packer.state = .parked := hp
  have ht : Tipped x g d hold v := .inl ⟨k, by unfold sweeping; rw [hp]; exact nofun⟩
  exact ht.apart hd (ready_apart hr2 (.inl k.state))
    (servePack_does (bladeTests_does (.refl v) (apart_dumps x)) (apart_serve x))

/-- Retracting is entered while a station waits for the blade: the station dumps (R57, R168). -/
theorem bladeTests_tips (hd : d.run = Run.empty) (h : Awaits x .blade g d hold s)
    (hb : s.role .bladeClear = true) (hs : ¬ sweeping s) :
    Dumped x g d (bladeTests s) ∧ (bladeTests s).packer.state = s.packer.state := by
  obtain ⟨l, r, hl, h1, h2⟩ := stations_split x
  unfold bladeTests
  rw [hl, List.foldl_append, List.foldl_cons]
  obtain ⟨k1, k2⟩ := retestBlades_stands h1 s
  have hok : (l.foldl retestBlade s).bladeOk = true := by
    refine (bladeOk_iff ?_).mpr ?_
    · exact (role_congr (foldl_keeps _ _ (retestBlade_keeps _ keeps_scanner.mono) l s)
        (foldl_keeps _ _ (retestBlade_keeps _ keeps_cfg.mono) l s) _).trans hb
    · unfold sweeping
      rw [k2]
      exact hs
  have ha := h.stands hd k1
  generalize l.foldl retestBlade s = v at *
  have hv : retestBlade v x = enterDump x v := by
    unfold retestBlade bladeTest
    rw [ha.state, ha.wait, if_pos hok]
    rfl
  obtain ⟨k3, k4⟩ := retestBlades_stands h2 (retestBlade v x)
  rw [hv] at k3 k4 ⊢
  exact ⟨(enterDump_dumped hd ha.record ha.scale).stands hd k3,
    k4.trans ((enterDump_packerState x v).trans k2)⟩

theorem enterRetracting_tipped (hd : d.run = Run.empty) (hr : billingRests s.billing)
    (hb : s.role .bladeClear = true) (h : Awaits x .blade g d hold s) :
    Tipped x g d hold (enterRetracting servePack s) := by
  have e1 : Does packerOwn s (s.setPacker { s.packer with
      state := .retracting, dwellTimer := .stopped, limitTimer := .stopped, stallTimer := .stopped }) :=
    setPacker_does (.refl s) packerOwn_packer
  have hw := h.stands hd (packerOwn_stands hr e1)
  have hb1 := (packerOwn_role hr e1 .bladeClear).trans hb
  have hr1 := packerOwn_rests hr e1
  have hp : (s.setPacker { s.packer with
      state := .retracting, dwellTimer := .stopped, limitTimer := .stopped
      stallTimer := .stopped }).packer.state = .retracting := rfl
  unfold enterRetracting
  dsimp only
  generalize s.setPacker { s.packer with
      state := .retracting, dwellTimer := .stopped, limitTimer := .stopped, stallTimer := .stopped } = v
    at *
  obtain ⟨k1, k2⟩ := bladeTests_tips hd hw hb1 (by unfold sweeping; rw [hp]; exact nofun)
  have hr2 : billingRests (bladeTests v).billing := by
    rw [show (bladeTests v).billing = v.billing from bladeTests_keeps _ keeps_billing.mono v]
    exact hr1
  have k2 := k2.trans hp
  generalize bladeTests v = w at *
  split
  · exact enterParked_tipped hd hr2 k1
  · have e2 : Does packerOwn w (newRequest .packer .retracting (w.setPacker { w.packer with
        limitTimer := .running (w.now + w.cfg.retractLimit) })) :=
      newRequest_does (setPacker_does (.refl w) packerOwn_packer) packerOwn_packer _
    refine .inl ⟨k1.stands hd (packerOwn_stands hr2 e2), ?_⟩
    unfold sweeping
    rw [newRequest_packerState]
    show ¬ (w.packer.state = _ ∨ w.packer.state = _)
    rw [k2]
    exact nofun

theorem endExtending_tipped (hd : d.run = Run.empty) (hr : billingRests s.billing)
    (hb : s.role .bladeClear = true) (h : Awaits x .blade g d hold s) (stall : Bool) :
    Tipped x g d hold (endExtending servePack stall s) := by
  have e1 : Does packerOwn s (s.setPacker { s.packer with
      lastStroke := s.packer.stroke, limitTimer := .stopped, stallTimer := .stopped }) :=
    setPacker_does (.refl s) packerOwn_packer
  unfold endExtending
  dsimp only
  generalize s.setPacker { s.packer with
    lastStroke := s.packer.stroke, limitTimer := .stopped, stallTimer := .stopped } = a at *
  have e2 := addFill_does e1 (cycleFill a.cfg.fullStroke a.packer.stroke)
  generalize addFill (cycleFill a.cfg.fullStroke a.packer.stroke) a = b at *
  have e3 := releaseRequest_does e2 (r := .packer) packerOwn_packer
  generalize releaseRequest .packer b = c at *
  have e4 := setPacker_does e3 packerOwn_packer (p := { c.packer with
    cycles := bump c.packer.cycles
    stalls := if stall then bump c.packer.stalls else c.packer.stalls })
  generalize c.setPacker { c.packer with
    cycles := bump c.packer.cycles
    stalls := if stall then bump c.packer.stalls else c.packer.stalls } = e at *
  have e5 := setPacker_does e4 packerOwn_packer (p := { e.packer with
    state := .dwelling, dwellTimer := .running (e.now + e.cfg.dwellTime) })
  have hp : (e.setPacker { e.packer with
    state := .dwelling, dwellTimer := .running (e.now + e.cfg.dwellTime) }).packer.state = .dwelling := rfl
  unfold enterDwelling
  dsimp only
  generalize e.setPacker { e.packer with
    state := .dwelling, dwellTimer := .running (e.now + e.cfg.dwellTime) } = f at *
  have hw := h.stands hd (packerOwn_stands hr e5)
  split
  · exact enterRetracting_tipped hd (packerOwn_rests hr e5)
      ((packerOwn_role hr e5 .bladeClear).trans hb) hw
  · exact .inr ⟨hw, .inr hp⟩

theorem packerInputs_tipped (hd : d.run = Run.empty) (hr : billingRests s.billing)
    (hb : s.role .bladeClear = true) (h : Tipped x g d hold s) :
    Tipped x g d hold (packerInputs s) := by
  unfold packerInputs
  split
  · rename_i hp
    rcases h with ⟨-, hn⟩ | ⟨hw, -⟩
    · exact absurd (.inl hp) hn
    · split
      · exact endExtending_tipped hd hr hb hw true
      · exact .inr ⟨hw, .inl hp⟩
  · rename_i hp
    rcases h with ⟨hdump, hn⟩ | ⟨-, hs⟩
    · split
      · exact enterParked_tipped hd hr hdump
      · exact .inl ⟨hdump, hn⟩
    · unfold sweeping at hs
      rw [hp] at hs
      exact absurd hs nofun
  · exact h

/-! ### The rest of the event -/

theorem laterOwners_tipped (hd : d.run = Run.empty) (hx : x ∉ l) (hr : billingRests s.billing)
    (hb : s.role .bladeClear = true) (h : Tipped x g d hold s) :
    Tipped x g d hold (laterOwners changed begun stop l s) := by
  have hs := h.ready hb hr
  have e1 : Does (apart x) s (l.foldl (stationEvent changed begun stop) s) :=
    stationEvents_does (fun y hy => apart_function fun e : y = x => hx (e ▸ hy)) (apart_dumps x)
      ⟨nofun, nofun⟩ s
  have h1 := h.apart hd hs e1
  have hr1 := (stationEvents_ledger hr l changed begun stop).rests hr
  have hb1 := (role_congr (e1.keeps hs keeps_scanner.mono) (e1.keeps hs keeps_cfg.mono) _).trans hb
  unfold laterOwners
  dsimp only
  generalize l.foldl (stationEvent changed begun stop) s = v at *
  have h2 : Tipped x g d hold (if v.cfg.touches changed .packer && !barred begun stop v.cfg .packer then
      packerInputs v else v) ∧ billingRests (if v.cfg.touches changed .packer &&
      !barred begun stop v.cfg .packer then packerInputs v else v).billing ∧
      (if v.cfg.touches changed .packer && !barred begun stop v.cfg .packer then
      packerInputs v else v).role .bladeClear = true := by
    split
    · refine ⟨packerInputs_tipped hd hr1 hb1 h1, packerInputs_ledger.rests hr1, ?_⟩
      exact (role_congr (packerInputs_keeps _ keeps_scanner.mono v)
        (packerInputs_keeps _ keeps_cfg.mono v) _).trans hb1
    · exact ⟨h1, hr1, hb1⟩
  generalize (if v.cfg.touches changed .packer && !barred begun stop v.cfg .packer then
      packerInputs v else v) = w at *
  obtain ⟨h2, hr2, hb2⟩ := h2
  split
  · exact h2.apart hd (h2.ready hb2 hr2)
      (tailgateInputs_does (.refl w) ⟨nofun, nofun⟩ (apart_serve x))
  · exact h2

end

end Sys2Proof.Proofs

/-! Raise ends in a group read: Hold is entered and the admission decided (R55 to R57). -/

namespace Sys2Proof.Proofs

open Sys2Proof Sys2Proof.Machine Sys2Proof.Laws

section

variable {s t u v z : State} {x : Station} {r g : LiftRecord} {d : WeighStation} {hold : Timer}
  {k : WaitKind} {new : BitVec 32} {l : List Station}

/-- The blade condition as it stands in a state (R57). -/
def bladeFree (s : State) : Prop :=
  s.role .bladeClear = true ∧ s.packer.state ≠ .extending ∧ s.packer.state ≠ .dwelling

theorem bladeFree_iff (s : State) : bladeFree s ↔ s.role .bladeClear = true ∧ ¬ sweeping s :=
  and_congr_right fun _ => not_or.symm

/-- What Raise end comes to (R56, R57). -/
structure RaiseEnd (x : Station) (g : LiftRecord) (d : WeighStation) (hold : Timer) (c : Mem) (t : State) :
    Prop where
  waits : ∀ k, holdWait c g = some k → Awaits x k g d hold t
  barred : holdWait c g = none → ¬ bladeFree t → Awaits x .blade (admitted g) d hold t
  dumps : holdWait c g = none → bladeFree t → Dumped x (admitted g) d t

theorem convert_congr (hz : t.zero x = s.zero x) (ht : t.tilt = s.tilt) (hc : t.cfg = s.cfg) (n : Int) :
    t.convert x n = s.convert x n := by
  unfold State.convert State.uncorrected
  rw [hz, ht, hc]

theorem TurnCome.grossed (h : TurnCome x u t v) (r : LiftRecord) : grossed x v r = grossed x u r ∧
    grossScale x v = grossScale x u := by
  have hconv := convert_congr h.stands.zero h.tilt h.cfg
  unfold grossScale grossCounted Proofs.grossed
  simp only [hconv]
  rcases h.stands.scale with e | e <;> rw [e]
  · exact ⟨rfl, rfl⟩
  · refine ⟨rfl, ?_⟩
    generalize u.scale x = w
    cases w with
    | mk _ _ _ _ accepted fallback =>
      cases accepted with
      | some a => rfl
      | none =>
        cases fallback with
        | some f =>
          dsimp only
          unfold countLow
          split <;> rfl
        | none => rfl

theorem stationInputs_raise (hs : (s.lift x).state = .raise) (h : s.stationRole .atTop x = true) :
    stationInputs x s = decideHold x (holding x s) := by
  unfold stationInputs
  rw [hs]
  exact if_pos h

/-! ### In the station's turn -/

/-- An event in which the station's own inputs leave it no blade test that passes. -/
theorem turned_of_failed (changed : BitVec 32)
    (h : ¬ bladeWaits (stationInputs x v) x ∨ (stationInputs x v).bladeOk = false) :
    turned changed x v = stationInputs x v := by
  unfold turned
  split
  · exact h.elim retestBlade_idle fun e => retestBlade_fails e x
  · rfl

theorem Tipped.failed (h : Tipped x g d hold s) (hb : s.role .bladeClear = true) :
    ¬ bladeWaits s x ∨ s.bladeOk = false :=
  h.imp (fun e hw => absurd (e.1.state.symm.trans hw.1) (by decide)) fun e => by
    rw [Bool.eq_false_iff]
    exact fun k => (bladeOk_iff hb).mp k e.2

theorem bladeOk_of_role (h : s.role .bladeClear = false) : s.bladeOk = false := by
  rw [bladeOk_eq, h, Bool.false_and]

/-- A station that waits for Blade Clear stands through the rest of the event (R57). -/
theorem laterOwners_unclear (hx : x ∉ l) (hr : billingRests z.billing) (hb : z.role .bladeClear = false)
    (changed : BitVec 32) (begun : BitVec 8) (stop : Bool) :
    Stands x z (laterOwners changed begun stop l z) := by
  have hs : Ready (others (.station x)) z :=
    { blade := fun _ y => .inr (.inr ⟨bladeOk_of_role hb, .inl hb⟩)
      bills := .inl hr
      packs := fun _ => .inl ⟨(spares_others _).function _ nofun, others_dumps _⟩
      group := .inl (spares_others _).group }
  exact ((around_others x).laterOwners hx z).stands hs (spares_others _).self

/-- What the event leaves of an admitted station, by the blade condition at its end. -/
theorem bladeTest_ends (hd : d.run = Run.empty) (h : Held x g d hold s) (hx : x ∉ l)
    (hr : billingRests s.billing) (changed : BitVec 32) (begun : BitVec 8) (stop : Bool)
    (ht : t = settleToggles (laterOwners changed begun stop l (bladeTest x s)))
    (hrole : t.role .bladeClear = s.role .bladeClear) :
    (¬ bladeFree t → Awaits x .blade g d hold t) ∧ (bladeFree t → Dumped x g d t) := by
  have hrz : billingRests (bladeTest x s).billing := by
    rw [show (bladeTest x s).billing = s.billing from bladeTest_keeps _ keeps_billing.mono _ _]
    exact hr
  have hbz : (bladeTest x s).role .bladeClear = s.role .bladeClear :=
    role_congr (bladeTest_keeps _ keeps_scanner.mono _ _) (bladeTest_keeps _ keeps_cfg.mono _ _) _
  have settle : ∀ w : State, Stands x w (settleToggles w) := settleToggles_stands x
  rw [bladeFree_iff, hrole]
  cases hb : s.role .bladeClear with
  | false =>
    have hw : Awaits x .blade g d hold (bladeTest x s) := by
      unfold bladeTest
      rw [bladeOk_of_role hb]
      exact h.setWait .blade
    refine ⟨fun _ => ?_, fun e => absurd e.1 nofun⟩
    rw [ht]
    exact (hw.stands hd (laterOwners_unclear hx hrz (hbz.trans hb) changed begun stop)).stands hd
      (settle _)
  | true =>
    have k := laterOwners_tipped (changed := changed) (begun := begun) (stop := stop) hd hx hrz
      (hbz.trans hb) (bladeTest_tipped hd hb h)
    have hsw : sweeping t ↔ sweeping (laterOwners changed begun stop l (bladeTest x s)) := by
      rw [ht]
      exact Iff.rfl
    rw [hsw]
    subst ht
    rcases k with ⟨k1, k2⟩ | ⟨k1, k2⟩
    · exact ⟨fun e => absurd ⟨rfl, k2⟩ e, fun _ => k1.stands hd (settle _)⟩
    · exact ⟨fun _ => k1.stands hd (settle _), fun e => absurd k2 e.2⟩

theorem Turning.raiseEnds (h : Turning new u x) (hs : (u.lift x).state = .raise)
    (hrec : (u.lift x).record = some r) (h0 : u.stationRole .atTop x = false)
    (h1 : (changedState new u).stationRole .atTop x = true) :
    RaiseEnd x (grossed x u r) (grossScale x u) (.running (u.now + u.cfg.holdLimit)) u.cfg
      (changedState new u) := by
  have hc := changedState_cfg new u
  obtain ⟨v, l, hv, hl, hlen, heq⟩ := h.come ⟨by rw [hs]; decide, by rw [hs]; decide⟩
    (changedState_touches (r := .atTop) ⟨by decide, by decide⟩ (by rw [h0, h1]; decide))
  obtain ⟨hvs, -, -, hvr, -⟩ := hv.stands.lift
  have hrv := hv.ledger.rests h.rests
  have hin := stationInputs_raise (hvs.trans hs) ((hv.stationRole hc _ _).trans h1)
  have hh := holding_held (hvr.trans hrec)
  obtain ⟨e1, e2⟩ := hv.grossed r
  have hnow : v.now = u.now := congrArg Sys.now hv.sys
  rw [e1, e2, hnow, hv.cfg] at hh
  have hd := grossScale_run x u
  have hcfg : (holding x v).cfg = u.cfg := (holding_keeps keeps_cfg.mono x v).trans hv.cfg
  have hrole : (changedState new u).role .bladeClear = (holding x v).role .bladeClear :=
    role_congr (hv.scanner.trans (holding_keeps keeps_scanner.mono x v).symm) (hc.trans hcfg.symm) _
  have hrest : billingRests (holding x v).billing := by
    rw [show (holding x v).billing = v.billing from holding_keeps keeps_billing.mono x v]
    exact hrv
  generalize grossed x u r = g at *
  generalize grossScale x u = d at *
  generalize holding x v = w at *
  cases hk : holdWait u.cfg g with
  | some k =>
    obtain ⟨k1, k2⟩ := decideHold_waits hh.record (hcfg ▸ hk)
    have hz := hh.setWait k
    rw [k1] at hin
    have hrz : billingRests (w.setLift x { w.lift x with wait := k }).billing := hrest
    rw [← hin] at hz hrz
    have hw : ¬ bladeWaits (stationInputs x v) x := fun e => k2 (hz.wait.symm.trans e.2)
    rw [turned_of_failed _ (.inl hw)] at heq
    refine ⟨fun k' hk' => ?_, fun e => absurd (hk.symm.trans e) nofun,
      fun e => absurd (hk.symm.trans e) nofun⟩
    cases hk.symm.trans hk'
    rw [heq]
    exact hz.stands hd (afterTurn hl hlen hrz hw).1
  | none =>
    have k1 := decideHold_enters hh.record (hcfg ▸ hk)
    have ha := hh.admitted
    rw [k1] at hin
    have hroleA : (w.onRecord x admitted).role .bladeClear = w.role .bladeClear := rfl
    have hrestA : billingRests (w.onRecord x admitted).billing := hrest
    generalize w.onRecord x admitted = a at *
    have hrz : (bladeTest x a).role .bladeClear = a.role .bladeClear :=
      role_congr (bladeTest_keeps _ keeps_scanner.mono _ _) (bladeTest_keeps _ keeps_cfg.mono _ _) _
    have hfail : ¬ bladeWaits (bladeTest x a) x ∨ (bladeTest x a).bladeOk = false := by
      cases hb : a.role .bladeClear with
      | false => exact .inr (bladeOk_of_role (hrz.trans hb))
      | true => exact (bladeTest_tipped hd hb ha).failed (hrz.trans hb)
    rw [← hin] at hfail
    rw [turned_of_failed _ hfail, hin] at heq
    obtain ⟨f1, f2⟩ := bladeTest_ends hd ha hl hrestA _ _ _ heq (hrole.trans hroleA.symm)
    exact ⟨fun k' hk' => absurd (hk.symm.trans hk') nofun, fun _ => f1, fun _ => f2⟩

end

end Sys2Proof.Proofs

/-! O30: the ends of a station's phases that a group read brings (R54 to R66). -/

namespace Sys2Proof.Proofs

open Sys2Proof Sys2Proof.Machine Sys2Proof.Laws

section

variable {s t u : State} {x : Station} {r g : LiftRecord} {d : WeighStation} {hold : Timer} {c : Mem}
  {new : BitVec 32} {tag : Nat}

/-! ### What a lookup and a Raise end say in full -/

theorem lookedUp_facts (tag : Nat) (s : State) (r : LiftRecord) :
    (lookedUp tag s r).tag = r.tag ∧ (lookedUp tag s r).source = r.source ∧
    (lookedUp tag s r).flags = r.flags ∧ (lookedUp tag s r).lookupPending = s.table.moving := by
  unfold lookedUp
  split
  · rename_i h
    exact ⟨rfl, rfl, rfl, h.symm⟩
  · rename_i h
    exact ⟨rfl, rfl, rfl, (Bool.not_eq_true _ ▸ h).symm⟩

theorem lookedUp_found {p : Nat} (hs : s.table.state = .closed) (hb : s.table.busy = false)
    (hf : s.find tag = some p) (r : LiftRecord) :
    (lookedUp tag s r).snapshot = some (recSnapshot (s.store.record p)) := by
  have hm : s.table.moving = false := by
    unfold Table.moving
    rw [hb, Bool.and_false]
  unfold lookedUp State.lookupResult
  rw [hm, hs, hf]
  rfl

theorem lookedUp_notFound (h : s.table.state ≠ .closed ∨ s.find tag = none) (r : LiftRecord) :
    (lookedUp tag s r).snapshot = r.snapshot := by
  unfold lookedUp State.lookupResult
  split
  · rfl
  · rcases h with hn | hf
    · rw [if_neg (by simpa using hn)]
    · rw [hf]
      cases s.table.state == .closed <;> rfl

/-- What Engage end makes of the lift that takes a tag, item by item (R80). -/
theorem EngageEnd.takes {r' : LiftRecord} (h : EngageEnd x r u r' t) {y : TagEntry} {l : List TagEntry}
    (hc : u.candidates x = y :: l) (hl : u.cfg.rollover = true ∨ l = []) :
    r'.tag = some y.tag ∧ r'.source = .engage ∧ r'.flags = r.flags ∧
    t.candidates x = (u.candidates x).filter (fun z => z.tag != y.tag) ∧
    t.tags.assigned.get x = some ⟨y.tag, y.last⟩ ∧
    t.tags.counts.get x = { u.tags.counts.get x with engage := bump (u.tags.counts.get x).engage } ∧
    r'.lookupPending = u.table.moving ∧
    (u.table.moving = true → .lookup x y.tag ∈ t.table.waiting) ∧
    (∀ p, u.table.state = .closed → u.table.busy = false → u.find y.tag = some p →
      r'.snapshot = some (recSnapshot (u.store.record p))) ∧
    (u.table.state ≠ .closed ∨ u.find y.tag = none → r'.snapshot = r.snapshot) := by
  obtain ⟨rfl, hs, hw⟩ := h.tagged y l hc hl
  obtain ⟨h1, h2, h3, h4⟩ := lookedUp_facts y.tag u { r with tag := some y.tag, source := .engage }
  exact ⟨h1, h2, h3, hs.queue, hs.assigned, hs.counts, h4, hw, fun p k1 k2 k3 => lookedUp_found k1 k2 k3 _,
    fun k => lookedUp_notFound k _⟩

theorem holdWait_pending (h : g.lookupPending = true) : holdWait c g = some .lookup := if_pos h

theorem holdWait_suspended {sn : Snapshot} (h : g.lookupPending = false) (hs : g.snapshot = some sn) :
    holdWait c g = if sn.status = .suspended then some .status else none := by
  unfold holdWait
  rw [h, hs]
  rfl

theorem holdWait_unknown (h : g.lookupPending = false) (hs : g.snapshot = none) :
    holdWait c g = if c.unidentifiedTip then none else some .identity := by
  unfold holdWait
  rw [h, hs]
  rfl

/-- A wait in Hold, item by item. -/
def waitsFor (x : Station) (k : WaitKind) (g : LiftRecord) (hold : Timer) (t : State) : Prop :=
  (t.lift x).state = .hold ∧ (t.lift x).wait = k ∧ (t.lift x).record = some g ∧
    t.marker x = g.marker .raised ∧ (t.lift x).holdTimer = hold ∧ t.request (.station x) = none ∧
    (t.lift x).phaseTimer = .stopped

theorem Awaits.says {k : WaitKind} (h : Awaits x k g d hold t) : waitsFor x k g hold t :=
  ⟨h.state, h.wait, h.record, h.marker, h.timer, h.request, h.phase⟩

/-- An admission that the blade condition decides, item by item. -/
def entersDump (x : Station) (g : LiftRecord) (hold : Timer) (t : State) : Prop :=
  (¬ bladeFree t → waitsFor x .blade (admitted g) hold t) ∧
  (bladeFree t → (t.lift x).state = .dump ∧
    (t.lift x).record = some { admitted g with reachedDump := true } ∧
    t.marker x = (admitted g).marker .dumped)

theorem RaiseEnd.enters (h : RaiseEnd x g d hold c t) (hk : holdWait c g = none) :
    entersDump x g hold t :=
  ⟨fun e => (h.barred hk e).says, fun e =>
    have k := h.dumps hk e
    ⟨k.state, k.record, k.marker⟩⟩

theorem RaiseEnd.scale (h : RaiseEnd x g d hold c t) : t.scale x = d := by
  cases hk : holdWait c g with
  | some k => exact (h.waits k hk).scale
  | none =>
    by_cases hb : bladeFree t
    · exact (h.dumps hk hb).scale
    · exact (h.barred hk hb).scale

/-- What Raise end comes to, by the lookup and the snapshot of the lift (R56). -/
theorem RaiseEnd.decides (h : RaiseEnd x g d hold c t) :
    (g.lookupPending = true → waitsFor x .lookup g hold t) ∧
    (g.lookupPending = false →
      (∀ sn, g.snapshot = some sn → (sn.status = .suspended → waitsFor x .status g hold t) ∧
        (sn.status ≠ .suspended → entersDump x g hold t)) ∧
      (g.snapshot = none → (c.unidentifiedTip = false → waitsFor x .identity g hold t) ∧
        (c.unidentifiedTip = true → entersDump x g hold t))) := by
  refine ⟨fun hp => (h.waits _ (holdWait_pending hp)).says, fun hp => ⟨fun sn hs => ⟨fun hu => ?_,
    fun hu => ?_⟩, fun hs => ⟨fun hu => ?_, fun hu => ?_⟩⟩⟩
  · exact (h.waits _ ((holdWait_suspended hp hs).trans (if_pos hu))).says
  · exact h.enters ((holdWait_suspended hp hs).trans (if_neg hu))
  · exact (h.waits _ ((holdWait_unknown hp hs).trans (if_neg (hu ▸ Bool.false_ne_true)))).says
  · exact h.enters ((holdWait_unknown hp hs).trans (if_pos hu))

/-- Raise end with a gross, item by item. -/
def decidedOn (x : Station) (g : LiftRecord) (hold : Timer) (c : Mem) (t : State) : Prop :=
  (t.scale x).run = Run.empty ∧ (t.scale x).silence = .stopped ∧
  (g.lookupPending = true → waitsFor x .lookup g hold t) ∧
  (g.lookupPending = false →
    (∀ sn, g.snapshot = some sn → (sn.status = .suspended → waitsFor x .status g hold t) ∧
      (sn.status ≠ .suspended → entersDump x g hold t)) ∧
    (g.snapshot = none → (c.unidentifiedTip = false → waitsFor x .identity g hold t) ∧
      (c.unidentifiedTip = true → entersDump x g hold t)))

/-- The Raise end of each window that the phase may have left (R93). -/
theorem RaiseEnd.says (h : RaiseEnd x (grossed x u r) (grossScale x u) hold c t) :
    (∀ a, (u.scale x).accepted = some a → decidedOn x (stableGross a r) hold c t) ∧
    (∀ f, (u.scale x).accepted = none → (u.scale x).fallback = some f →
      decidedOn x (unstableGross (u.convert x f.sum) r) hold c t ∧
      (t.scale x).unstableGross = bump (u.scale x).unstableGross) ∧
    ((u.scale x).accepted = none → (u.scale x).fallback = none →
      decidedOn x (missingGross r) hold c t ∧
      (t.scale x).missingGross = bump (u.scale x).missingGross) := by
  have k : decidedOn x (grossed x u r) hold c t :=
    ⟨by rw [h.scale]; rfl, by rw [h.scale]; rfl, h.decides⟩
  rw [h.scale]
  unfold grossed at k
  unfold grossScale grossCounted
  refine ⟨fun a ha => ?_, fun f ha hf => ?_, fun ha hf => ?_⟩
  · rw [ha] at k
    exact k
  · rw [ha, hf] at k ⊢
    refine ⟨k, ?_⟩
    dsimp only
    unfold countLow
    split <;> rfl
  · rw [ha, hf] at k ⊢
    exact ⟨k, rfl⟩

/-- A charge request that waits, item by item (R62). -/
def chargeListed (x : Station) (g : LiftRecord) (t : State) : Prop :=
  (⟨.station x, .charge g⟩ : BillReq) ∈ t.billing.list ∧ (t.lift x).state = .lower ∧
    (t.lift x).chargePending = true ∧ (t.lift x).phaseTimer = .stopped ∧
    t.request (.station x) = none ∧ (t.lift x).record = some { g with requested := true }

theorem ChargeWaits.says (h : ChargeWaits x g t) : chargeListed x g t :=
  ⟨h.listed, h.pending.state, h.pending.pending, h.pending.timer, h.pending.request, h.pending.record⟩

/-- A charge that is committed, item by item (R63, R137). -/
def chargeBooked (x : Station) (g : LiftRecord) (s t : State) : Prop :=
  (t.lift x).record = none ∧ t.marker x = Marker.clear ∧ t.queue.holds (.station x) = false ∧
    ((t.lift x).state = .release ∨ (t.lift x).state = .idle) ∧
    ∃ k, s.queue.count ≤ k ∧ k < t.queue.count ∧
      let slot := slotBase ((s.queue.head + k) % 256)
      (t.store.read (slot + 11)).toNat = x.num ∧
      ofLe (t.store.readBytes (slot + 22) 2) = g.tare.getD 0 % 65536

theorem ChargeCommitted.says (h : ChargeCommitted x g s t) : chargeBooked x g s t :=
  ⟨h.record, h.marker, h.held, h.state, h.bytes⟩

theorem LowerEnd.says (h : LowerEnd x g s t) :
    (chargeListed x g t ∨ chargeBooked x g s t) ∧
    (s.billing.waiting ≠ none → chargeListed x g t) ∧
    (s.billing.waiting = none → s.table.moving = false → chargeBooked x g s t) :=
  ⟨h.either.imp ChargeWaits.says ChargeCommitted.says, fun e => (h.waits e).says,
    fun e hm => (h.free e hm).says⟩

/-! ### A group read after Scan Ready -/

/-- A group read publishes changes of the part, or no role of a station changes (R36). -/
theorem settled_turning {full : Bool} (hr : billingRests u.billing) (hready : u.scanner.ready = true)
    (ht : (settleToggles (afterSamples full u)).eStop = false)
    (hb : u.cfg.begunFor ((settleToggles (afterSamples full u)).scanner.pairErrors &&&
      ~~~ u.scanner.pairErrors) (.station x) = false) :
    (∃ new, settleToggles (afterSamples full u) = changedState new u ∧ Turning new u x) ∨
    ∀ r, (settleToggles (afterSamples full u)).stationRole r x = u.stationRole r x := by
  rw [afterSamples_ready hready] at *
  by_cases hc : u.scanner.published ^^^ u.scanner.filtered = 0
  · rw [publish_unchanged hc]
    exact .inr fun r => stationRole_congr rfl rfl r x
  · rw [settled_publish hc] at *
    refine .inl ⟨_, rfl, hr, ?_, ?_⟩
    · rw [changedState_eStop] at ht
      rw [ht, Bool.and_false]
    · rw [changedState_scanner, begun_eq] at hb
      exact hb

/-- What the samples of a group read leave of what a station's phases read. -/
theorem sampled_reads (lines : Byte) (e : Nat) (s : State) (x : Station) {u : State}
    (hu : sampled lines e s = u) :
    (∀ y, u.lift y = s.lift y) ∧ u.scale x = s.scale x ∧ u.tags = s.tags ∧ u.table = s.table ∧
    u.store = s.store ∧ u.billing = s.billing ∧ u.queue = s.queue ∧ u.arbiter = s.arbiter ∧
    (∀ tag, u.find tag = s.find tag) ∧ (∀ n, u.convert x n = s.convert x n) ∧
    (∀ r, u.stationRole r x = s.stationRole r x) ∧ u.releaseDone x = s.releaseDone x ∧
    u.atHome x = s.atHome x ∧ u.cfg = s.cfg ∧ u.scanner.pairErrors = s.scanner.pairErrors ∧
    u.scanner.ready = s.scanner.ready := by
  obtain ⟨hready, hpub, -, herr, -⟩ := sampled_unsampled lines e s
  have keep : ∀ {α : Type} {π : State → α}, Keeps π [.sys, .scanner] → π u = π s :=
    fun hk => hu ▸ sampled_keeps _ hk lines e s
  rw [hu] at hready hpub herr
  have hcfg : u.cfg = s.cfg := keep keeps_cfg.mono
  have hrole : ∀ r, u.stationRole r x = s.stationRole r x := fun r => by
    unfold State.stationRole State.input
    rw [hpub, hcfg]
  refine ⟨fun y => congrArg (·.get y) (keep keeps_lifts.mono),
    congrArg (fun w : Weigh => w.st.get x) (keep keeps_weigh.mono), keep keeps_tags.mono,
    keep keeps_table.mono, keep keeps_store.mono, keep keeps_billing.mono, keep keeps_queue.mono,
    keep keeps_arbiter.mono, fun tag => ?_, convert_congr (congrArg (·.get x) (keep keeps_zeros.mono))
      (tilt_congr ?_ hcfg) hcfg, hrole, ?_, ?_, hcfg, herr, hready⟩
  · unfold State.find
    rw [keep keeps_table.mono, keep keeps_store.mono]
  · unfold attitude
    rw [keep keeps_weigh.mono]
  · unfold State.releaseDone
    rw [hrole, hrole]
  · unfold State.atHome
    rw [hrole, hrole]

end

/-- Settles O30: each phase ends in its station's turn, which the other functions' share of the read neither
comes before nor undoes. -/
theorem stationPhaseEnds : Obligations.StationPhaseEnds := by
  unfold Obligations.StationPhaseEnds
  intro lines e x s t hl hready hnext hwell hcount hr he hex hte hb
  rw [exec_groupRead hl.1 hnext] at hex
  injection hex with hex
  generalize hu : sampled lines e s = u at hex
  obtain ⟨hlifts, hscale, htags, htable, hstore, hbill, hqueue, harb, hfind, hconv, hrole, hdone, hhome,
    hcfg, herr, hrd⟩ := sampled_reads lines e s x hu
  simp only [storesWell, ← hlifts, ← hscale, ← htags, ← htable, ← hstore, ← hbill, ← hqueue, ← harb,
    ← hfind, ← hconv, ← hrole, ← hdone, ← hhome, ← hcfg, ← herr] at hwell hcount hr hb ⊢
  subst hex
  rcases settled_turning hr (hrd.trans hready) hte hb with ⟨new, ht, h⟩ | hsame
  · rw [ht]
    have hsys : (changedState new u).sys = u.sys :=
      (changedState_keeps keeps_sys.mono new u).trans (heard_keeps keeps_sys.mono new u)
    rw [hsys]
    refine ⟨fun r hs hrec hq hg htop => ?_, fun r hs hrec _ hg => (h.raiseEnds hs hrec hg.1 hg.2).says,
      fun r hs hp hrec _ hg => ?_, fun hs h0 hg hst => ?_, fun hs h0 hst hg => ?_⟩
    · obtain ⟨r', he, hend⟩ := h.engageEnds hs hrec hq hg.1 hg.2 htop ⟨hwell.1, hcount⟩
      refine ⟨r', he.record, he.state, he.began, he.marker, he.accepted, he.fallback, he.run, he.silence,
        fun h0 => ?_, fun y l h0 hl => hend.takes h0 hl, fun y z l h0 hr => ?_⟩
      · obtain ⟨h1, h2, h3, h4⟩ := hend.untagged h0
        exact ⟨h1, h2, h3, h4⟩
      · obtain ⟨h1, h2, h3, h4⟩ := hend.ambiguous y z l h0 hr
        exact ⟨h1, h2, h3, h4⟩
    · obtain ⟨hend, hcnt⟩ := h.lowerEnds hs hp hrec hg.1 hg.2 ⟨hwell.1, hcount⟩
      have hbin : binOf r.snapshot = (r.snapshot.map Snapshot.bin).getD 0 := by
        cases r.snapshot <;> rfl
      refine ⟨fun a ha => ?_, fun ha => ?_⟩
      · unfold tared at hend
        rw [ha] at hend
        exact hend.says
      · unfold tared at hend
        unfold taredCount at hcnt
        rw [ha] at hend hcnt
        rw [← hbin]
        exact ⟨hend.says, hcnt⟩
    · have k := h.releaseEnds hs h0 hg hst
      exact ⟨k.state, k.request, k.timer, h.releaseGroup hs h0 hg hst⟩
    · have k := h.homingEnds hs h0 hst hg
      exact ⟨k.state, k.request, k.timer⟩
  · have begun : ∀ {r : Role}, ¬ (u.stationRole r x = false ∧
        (settleToggles (afterSamples (s.scanner.pointer == 3) u)).stationRole r x = true) :=
      fun e => absurd ((hsame _).symm.trans e.2) (by rw [e.1]; decide)
    refine ⟨fun _ _ _ _ h => absurd h begun, fun _ _ _ _ h => absurd h begun,
      fun _ _ _ _ _ h => absurd h begun, fun _ h0 hg hst => ?_, fun _ h0 hst hg => ?_⟩
    · unfold State.releaseDone at h0
      rw [← hsame, ← hsame, hg, hst] at h0
      exact absurd h0 (by decide)
    · have hhome := atHome_of_stowed hst hg
      unfold State.atHome at h0 hhome
      rw [hsame, hsame, h0] at hhome
      exact Bool.noConfusion hhome

end Sys2Proof.Proofs

/-! The operator commands and their replies (R67), and what a command that is turned away leaves (O26). -/

namespace Sys2Proof.Proofs

open Sys2Proof Sys2Proof.Machine Sys2Proof.Laws

section

variable {s u : State} {tag : BitVec 4} {b : Byte} {r : Reply} {x : Station}

/-! ### A reply behind the handling of a command (R67) -/

/-- A frame at the tail of the Control Queue is seen by no block behind the Body Port. -/
theorem offered_keeps {α : Type} (π : State → α) (hk : Keeps π [.body, .control]) (f : Frame)
    (u : State) : π (u.offered f) = π u := by
  rw [State.offered, chooseTx_body_keeps π hk.mono, hk.control]

/-- The toggle outputs do not look at the Control Queue (R161). -/
theorem settleToggles_offered (f : Frame) (u : State) :
    settleToggles (u.offered f) = (settleToggles u).offered f := by
  have htoggled : toggled (u.offered f) = toggled u := chooseTx_body_keeps _ keeps_toggled.mono _
  rw [settleToggles_eq, settleToggles_eq, htoggled]
  exact (chooseTx_setToggles (u.setControl (u.control ++ [⟨f, false⟩])) (toggled u) .body).symm

/-- A command's handling whose effect is `u`, and which is answered. -/
theorem handled_replied {f : State → State} {code : Byte} (hp : s.sys.powered = true)
    (hf : f s = sendReply code tag b r u) (ho : controlOpen u) (hs : u.sys = s.sys)
    (hc : u.cfg = s.cfg) :
    Machine.handled f s = (settleToggles u).offered (s.replyTo code tag b r) := by
  have hreply : u.replyTo code tag b r = s.replyTo code tag b r := by
    simp only [State.replyTo, State.bodyFrame, hs, hc]
  rw [handled_powered hp, hf, ← hreply, ← settleToggles_offered]
  exact congrArg settleToggles (offerControl_open ho)

/-- A command that is turned away leaves nothing but its reply (R67). -/
theorem handled_turnedAway {f : State → State} {code : Byte} (hl : live s) (ho : controlOpen s)
    (hf : f s = sendReply code tag b r s) :
    Host.Outcome.next (Machine.handled f s) = (.next (s.offered (s.replyTo code tag b r)) :
      Host.Outcome State Fault Refusal) := by
  rw [handled_replied hl.1 hf ho rfl rfl, settleToggles_same hl.2.1 hl.2.2]

/-! ### The commands as handlings -/

theorem exec_cycleStart_eq (src : StartSource) (s : State) :
    exec (.cycleStart src) s = .next (Machine.handled (startFrom src) s) := rfl

theorem exec_returnLift_eq (tag : BitVec 4) (b : Byte) (s : State) :
    exec (.returnLift tag b) s = .next (Machine.handled (commandReturn tag b) s) := rfl

theorem exec_overrideLift_eq (tag : BitVec 4) (b : Byte) (s : State) :
    exec (.overrideLift tag b) s = .next (Machine.handled (commandOverride tag b) s) := rfl

theorem exec_recover_eq (tag : BitVec 4) (b : Byte) (s : State) :
    exec (.recover tag b) s = .next (Machine.handled (commandRecover tag b) s) := rfl

theorem exec_packerRecover_eq (tag : BitVec 4) (b : Byte) (s : State) :
    exec (.packerRecover tag b) s = .next (Machine.handled (commandPackerRecover tag b) s) := rfl

/-- A station command for a defined station (R67). -/
theorem stationCommand_of (hx : Station.ofNum b.toNat = some x) (code : OpCode) (tag : BitVec 4)
    (f : Station → State → Reply × State) (s : State) :
    stationCommand code tag b f s = sendReply code.code tag b (f x s).1 (f x s).2 := by
  unfold stationCommand
  rw [hx]
  rfl

theorem stationCommand_above (hb : 2 < b.toNat) (code : OpCode) (tag : BitVec 4)
    (f : Station → State → Reply × State) (s : State) :
    stationCommand code tag b f s = sendReply code.code tag b .badStation s := by
  unfold stationCommand
  rw [station_above hb]
  rfl

/-! ### Cycle Starts that are refused (R47) -/

theorem cycleStart_busy (h : (s.lift x).state ≠ .idle) : cycleStart x s = (some .busy, s) :=
  if_pos (bne_iff_ne.mpr h)

/-- A refusal counts at its station and stands there as the latest (R47). -/
def refusedStart (x : Station) (r : Refused) (s : State) : State :=
  s.setLift x { s.lift x with
    startRefusals := bump (s.lift x).startRefusals, lastRefusal := some r }

theorem cycleStart_refused {r : Refused} (hi : (s.lift x).state = .idle)
    (h : s.startRefusal x = some r) : cycleStart x s = (some r, refusedStart x r s) := by
  unfold cycleStart
  rw [hi, h]
  rfl

theorem cycleStart_accepted (hi : (s.lift x).state = .idle) (h : s.startRefusal x = none) :
    cycleStart x s = (none, acceptStart x s) := by
  unfold cycleStart
  rw [hi, h]
  rfl

/-- A change of a station that leaves its state alone leaves the toggle outputs settled (R161). -/
theorem settled_setLift {l : Lift} (h : l.state = (s.lift x).state) (hs : settled s) :
    settled (s.setLift x l) := by
  have hstate (y : Station) : ((s.setLift x l).lift y).state = (s.lift y).state := by
    rw [lift_setLift]
    split
    · rename_i e
      exact e ▸ h
    · rfl
  have hon : (s.setLift x l).beaconOn = s.beaconOn := by
    unfold State.beaconOn
    simp only [hstate]
    rfl
  exact ⟨hs.1.trans hon.symm, hs.2⟩

theorem refusedStart_settled (hs : settled s) (r : Refused) : settled (refusedStart x r s) :=
  settled_setLift rfl hs

theorem handled_inputStart {v : State} (hl : live s) (h : (cycleStart x s).2 = v) (hv : settled v) :
    Machine.handled (startFrom (.input x)) s = v := by
  have hf : startFrom (.input x) s = v := h
  rw [handled_settled hl.1 (hf ▸ hv), hf]

theorem operatorStart_side {r : Refused} {v : State} (h : cycleStart .sideArm s = (some r, v)) :
    operatorStart .sideArm s = (r.reply, v) := by
  unfold operatorStart
  rw [h]
  rfl

theorem operatorStart_rear (h : x.isSide = false) : operatorStart x s = (.notPermitted, s) := by
  unfold operatorStart
  rw [h]
  rfl

/-- The Side Arm's Cycle Start by command, refused with `v` as what the refusal leaves (R47, R67). -/
theorem handled_commandStart_refused {r : Refused} {v : State} (hl : live s) (ho : controlOpen v)
    (hs : v.sys = s.sys) (hc : v.cfg = s.cfg) (hv : settled v)
    (h : cycleStart .sideArm s = (some r, v)) :
    Machine.handled (startFrom (.command tag 0)) s = v.offered (s.replyTo 1 tag 0 r.reply) := by
  have hf : startFrom (.command tag 0) s = sendReply 1 tag 0 r.reply v := by
    refine (stationCommand_of (b := 0) (x := .sideArm) rfl .cycleStart tag operatorStart s).trans ?_
    rw [operatorStart_side h]
    rfl
  rw [handled_replied hl.1 hf ho hs hc, settleToggles_same hv.1 hv.2]

/-! ### Commands to the functions -/

theorem all_idle_iff (s : State) : (stations.all fun x => (s.lift x).state == .idle) = true ↔
    ∀ x, (s.lift x).state = .idle := by
  simp only [List.all_eq_true, beq_iff_eq]
  exact ⟨fun h x => h x (by cases x <;> decide), fun h x _ => h x⟩

/-- A command code that none of the eight takes (13, R67). -/
theorem takeCommand_undefined {code : Byte} (h : code.toNat = 0 ∨ 8 < code.toNat) :
    takeCommand code tag b s = sendReply code tag b .unknownCommand s := by
  unfold takeCommand
  split <;> first | omega | rfl

end

/-- The commands of a station that are turned away (R58, R66, R67). -/
theorem stationCommands_turnedAway {s : State} (hl : live s) (ho : controlOpen s) (tag : BitVec 4)
    {b : Byte} {x : Station} (hx : Station.ofNum b.toNat = some x) :
    let away (c : Instr) (code : Byte) (r : Reply) : Prop :=
      exec c s = .next (s.offered (s.replyTo code tag b r))
    ((s.lift x).state ≠ .hold → away (.returnLift tag b) 2 .notInHold) ∧
    ((s.lift x).state ≠ .fault → away (.recover tag b) 4 .notInFault) ∧
    ((s.lift x).state = .fault → s.scanOk = false → away (.recover tag b) 4 .notReady) ∧
    ((s.lift x).state = .fault → s.scanOk = true → s.pairErrorOf (.station x) = true →
      away (.recover tag b) 4 .sensorError) := by
  have hrecover {r : Reply} (h : recover x s = (r, s)) :
      exec (.recover tag b) s = .next (s.offered (s.replyTo 4 tag b r)) :=
    handled_turnedAway hl ho ((stationCommand_of hx .recover tag recover s).trans (by rw [h]; rfl))
  refine ⟨fun h => ?_, fun h => hrecover (if_pos (bne_iff_ne.mpr h)), fun h1 h2 => hrecover ?_,
    fun h1 h2 h3 => hrecover ?_⟩
  · refine handled_turnedAway hl ho ((stationCommand_of hx .returnLift tag returnLift s).trans ?_)
    rw [show returnLift x s = (.notInHold, s) from if_pos (bne_iff_ne.mpr h)]
    rfl
  · simp [recover, h1, h2]
  · simp [recover, h1, h2, h3]

/-- Pack, Unload and the Recovers of the packer and the tailgate, as they are turned away (R165, R170,
R173, R175). -/
theorem compactionCommands_turnedAway {s : State} (hl : live s) (ho : controlOpen s) (tag : BitVec 4)
    (b : Byte) {r : Reply} :
    (pack s = (r, s) → exec (.pack tag b) s = .next (s.offered (s.replyTo 5 tag b r))) ∧
    (unload s = (r, s) → exec (.unload tag b) s = .next (s.offered (s.replyTo 6 tag b r))) ∧
    (packerRecover s = (r, s) →
      exec (.packerRecover tag b) s = .next (s.offered (s.replyTo 7 tag b r))) ∧
    (tailgateRecover s = (r, s) →
      exec (.tailgateRecover tag b) s = .next (s.offered (s.replyTo 8 tag b r))) := by
  refine ⟨fun h => handled_turnedAway hl ho ?_, fun h => handled_turnedAway hl ho ?_,
    fun h => handled_turnedAway hl ho ?_, fun h => handled_turnedAway hl ho ?_⟩
  · rw [commandPack, served, h]; rfl
  · rw [commandUnload, served, h]; rfl
  · rw [commandPackerRecover, served, h]; rfl
  · rw [commandTailgateRecover, served, h]; rfl

/-- Settles O26, by the model's order of the tests of each command. -/
theorem refusalsChangeNothing : Obligations.RefusalsChangeNothing := by
  unfold Obligations.RefusalsChangeNothing
  refine ⟨fun s hl => ⟨fun x h => ?_, fun x r hi h => ?_, fun ho tag => ⟨fun h => ?_, fun r hi h => ?_,
    fun b hb => ?_, fun b hb => ?_⟩⟩, fun tag b s hl ho => ?_⟩
  · rw [exec_cycleStart_eq, handled_inputStart hl (by rw [cycleStart_busy h]) hl.2]
  · rw [exec_cycleStart_eq, handled_inputStart hl (by rw [cycleStart_refused hi h])
      (refusedStart_settled hl.2 r)]
    rfl
  · rw [exec_cycleStart_eq, handled_commandStart_refused hl ho rfl rfl hl.2 (cycleStart_busy h)]
    rfl
  · rw [exec_cycleStart_eq, handled_commandStart_refused hl (v := refusedStart .sideArm r s) ho rfl rfl
      (refusedStart_settled hl.2 r) (cycleStart_refused hi h)]
    rfl
  · refine handled_turnedAway hl ho ?_
    rcases hb with rfl | rfl
    · exact (stationCommand_of (b := 1) (x := .rearLeft) rfl .cycleStart tag operatorStart s).trans (by
        rw [operatorStart_rear rfl]; rfl)
    · exact (stationCommand_of (b := 2) (x := .rearRight) rfl .cycleStart tag operatorStart s).trans (by
        rw [operatorStart_rear rfl]; rfl)
  · exact handled_turnedAway hl ho (stationCommand_above hb .cycleStart tag operatorStart s)
  · intro away
    have away {r : Reply} := compactionCommands_turnedAway hl ho tag b (r := r)
    refine ⟨fun hb => ⟨?_, ?_, ?_⟩, fun x hx => stationCommands_turnedAway hl ho tag hx,
      fun h => ⟨away.1 ?_, away.2.1 ?_⟩,
      fun h => ⟨fun he => away.1 ?_, fun he hf => away.1 ?_, fun hc => away.2.1 ?_, fun hc =>
        ⟨fun he => away.2.1 ?_, fun he hp => away.2.1 ?_, fun he hp hbusy => away.2.1 ?_⟩⟩,
      fun h => away.2.2.1 ?_, fun h1 h2 => away.2.2.1 ?_, fun h1 h2 h3 => away.2.2.1 ?_,
      fun h => away.2.2.2 ?_, fun h1 h2 => away.2.2.2 ?_, fun h1 h2 h3 => away.2.2.2 ?_,
      fun code h => handled_turnedAway hl ho (takeCommand_undefined h)⟩
    · exact handled_turnedAway hl ho (stationCommand_above hb .returnLift tag returnLift s)
    · exact handled_turnedAway hl ho (stationCommand_above hb .override tag overrideLift s)
    · exact handled_turnedAway hl ho (stationCommand_above hb .recover tag recover s)
    · simp [pack, h]
    · simp [unload, h]
    · simp [pack, h, he]
    · simp [pack, h, he, hf]
    · simp [unload, h, hc]
    · simp [unload, h, hc, he]
    · simp [unload, h, hc, he, hp]
    · have hidle : ((stations.all fun x => (s.lift x).state == .idle) && s.packer.state == .parked) =
          false := by
        rw [Bool.eq_false_iff, ne_eq, Bool.and_eq_true, all_idle_iff, beq_iff_eq]
        rintro ⟨h1, h2⟩
        exact hbusy.elim (· h2) fun ⟨x, hx⟩ => hx (h1 x)
      simp [unload, h, hc, he, hp, hidle]
    · simp [packerRecover, h]
    · simp [packerRecover, h1, h2]
    · simp [packerRecover, h1, h2, h3]
    · simp [tailgateRecover, h]
    · simp [tailgateRecover, h1, h2]
    · simp [tailgateRecover, h1, h2, h3]

end Sys2Proof.Proofs

/-! Return, the hold timer and the sequence timer: the way into Lower (O27), and Dump's sub-phases (O29). -/

namespace Sys2Proof.Proofs

open Sys2Proof Sys2Proof.Machine Sys2Proof.Laws

section

variable {s t u v : State} {x : Station} {l : List Requester} {r : LiftRecord} {ph : FlowPhase}

/-! ### Frames -/

/-- What stands outside the blocks of an arbitration is not seen to change by those blocks. -/
theorem keeps_reflowed (v : State) : Keeps (fun u => u.reflow v)
    [.arb, .arbiter, .lifts, .weigh, .channels, .packer, .tailgate, .toggles] := by
  have hk : Keeps (fun u => u.reflow v)
      [.arbiter, .lifts, .weigh, .channels, .packer, .tailgate, .toggles] := by
    intro f hf
    cases f <;> first | exact fun _ _ => rfl | exact absurd hf (by decide)
  intro f hf
  cases f with
  | arb => exact arbitrate_keeps _ hk.mono
  | _ => first | exact hk _ (by decide) | exact absurd hf (by decide)

/-- States that agree outside the blocks of an arbitration. -/
theorem eq_reflow_of (h : t.reflow v = s.reflow v) : t = s.reflow t :=
  congrArg (fun u => u.reflow t) h

/-- A reply takes a place of the Control Queue, and no more. -/
theorem offered_sets (f : Frame) (u : State) : ∃ p c, u.offered f = (u.setBody p).setControl c := by
  obtain ⟨tx, h⟩ := chooseTx_sets .body (u.setControl (u.control ++ [⟨f, false⟩]))
  exact ⟨_, _, h⟩

theorem reflow_toggled (h : t = s.reflow t) : settleToggles t = s.reflow (settleToggles t) :=
  congrArg (fun u => u.setToggles (toggled t)) h

/-- The frame of a handling, behind its reply. -/
theorem reflow_offered (h : v = s.reflow v) (f : Frame) :
    v.offered f = (s.reflow (v.offered f)).offered f := by
  rw [offered_keeps _ (keeps_reflow s).mono, ← h]

/-! ### Functions that are only paced -/

theorem pacedBut_setLift (h : .station x ∈ l) (s : State) (y : Lift) : pacedBut l s (s.setLift x y) :=
  ⟨fun z hz => ⟨by rw [lift_setLift_other (show z ≠ x from fun e => hz (e ▸ h))], .inl rfl⟩,
    fun _ => rfl, fun _ => rfl, fun _ _ => rfl⟩

theorem pacedBut_setScale (h : .station x ∈ l) (s : State) (w : WeighStation) :
    pacedBut l s (s.setScale x w) :=
  ⟨fun _ hz => ⟨rfl, .inl (tri_get_set_ne fun e => hz (e ▸ h))⟩, fun _ => rfl, fun _ => rfl,
    fun _ _ => rfl⟩

theorem pacedBut_setPacker (h : .packer ∈ l) (s : State) (p : Packer) : pacedBut l s (s.setPacker p) :=
  ⟨fun _ _ => ⟨rfl, .inl rfl⟩, fun hp => absurd h hp, fun _ => rfl, fun _ _ => rfl⟩

/-- An arbitration on a request of one of the functions that act. -/
theorem pacedBut_arbitrate {a : Arbiter} (h : ∀ q, q ∉ l → a.req.get q = s.request q) :
    pacedBut l s (arbitrate (s.setArbiter a)) :=
  pacedBut_trans (t := s.setArbiter a) ⟨fun _ _ => ⟨rfl, .inl rfl⟩, fun _ => rfl, fun _ => rfl, h⟩
    (pacedBut_mono l (arbitrate_paced _))

theorem pacedBut_newRequest {q : Requester} (h : q ∈ l) (ph : FlowPhase) (s : State) :
    pacedBut l s (newRequest q ph s) :=
  pacedBut_arbitrate fun _ hz => five_get_set_ne fun e => hz (e ▸ h)

/-! ### Lower is entered (R51, R62) -/

/-- The request of Lower: a demand changed in place where one stands (R51). -/
def lowerRequest (x : Station) (s : State) : State :=
  if (s.request (.station x)).isSome then changeDemand (.station x) .lower s
  else newRequest (.station x) .lower s

/-- Either way the request goes through one arbitration, with no other request changed. -/
theorem lowerRequest_eq (x : Station) (s : State) : ∃ a, lowerRequest x s = arbitrate (s.setArbiter a) ∧
    a.req.get (.station x) = some (s.flowReq (.station x) .lower) ∧
    ∀ q, q ≠ .station x → a.req.get q = s.request q := by
  unfold lowerRequest changeDemand newRequest
  split
  · refine ⟨_, rfl, ?_, fun q hq => ?_⟩ <;> rw [(settle_frame _ _ _ _).1]
    · exact (five_get_set _ _ _ _).trans (if_pos rfl)
    · exact five_get_set_ne hq
  · refine ⟨_, rfl, ?_, fun q hq => five_get_set_ne hq⟩
    show (s.arbiter.req.set (.station x) (some (s.flowReq (.station x) .lower))).get (.station x) = _
    exact (five_get_set _ _ _ _).trans (if_pos rfl)

/-- A station as Lower takes it, with its limit running and no window standing (R62, R91, R96). -/
def lowerTaken (x : Station) (s : State) : State :=
  enterWeighing x (s.setLift x { s.lift x with
    state := .lower, wait := .none, sub := .none, holdTimer := .stopped, seqTimer := .stopped
    phaseTimer := .running (s.now + s.cfg.lowerLimit x) })

/-- A station in Lower with its request made, before its end condition is tested. -/
def lowerBegun (x : Station) (s : State) : State := lowerRequest x (lowerTaken x s)

theorem lowerBegun_keeps {α : Type} {π : State → α} (hk : Keeps π [.arb, .arbiter, .lifts, .weigh])
    (x : Station) (s : State) : π (lowerBegun x s) = π s := by
  obtain ⟨a, ha, -⟩ := lowerRequest_eq x (lowerTaken x s)
  unfold lowerBegun
  rw [ha, hk.arb, hk.arbiter]
  unfold lowerTaken enterWeighing State.setScale State.setLift
  rw [hk.weigh, hk.lifts]

theorem lowerBegun_reflow (x : Station) (s : State) : lowerBegun x s = s.reflow (lowerBegun x s) :=
  eq_reflow_of (v := s) (lowerBegun_keeps (keeps_reflowed s).mono x s)

theorem enterLower_above (h : s.stationRole .lowered x = false) : enterLower x s = lowerBegun x s := by
  have hr : (lowerBegun x s).stationRole .lowered x = false :=
    (stationRole_congr (lowerBegun_keeps keeps_scanner.mono x s) (lowerBegun_keeps keeps_cfg.mono x s)
      _ _).trans h
  unfold enterLower
  show (if (lowerBegun x s).stationRole .lowered x then endLower x (lowerBegun x s)
    else lowerBegun x s) = _
  rw [hr]
  rfl

/-- What the entry into Lower leaves (R51, R62, R91, R96): the station with its whole limit, and the other
functions but for their pauses. -/
structure Lowering (x : Station) (s t : State) : Prop where
  lift : (t.lift x).unpaced = { s.lift x with
    state := .lower, wait := .none, sub := .none, holdTimer := .stopped }.unpaced
  began : t.began x .lower (s.cfg.lowerLimit x)
  scale : t.scale x = { s.scale x with
    run := Run.empty, accepted := none, fallback := none
    silence := .running (s.now + Config.silenceTime) }
  paced : pacedBut [.station x] s t
  frame : t = s.reflow t

theorem lowerBegun_lowering (x : Station) (s : State) : Lowering x s (lowerBegun x s) := by
  have hframe := lowerBegun_reflow x s
  obtain ⟨a, ha, hown, hothers⟩ := lowerRequest_eq x (lowerTaken x s)
  have htaken : (lowerTaken x s).lift x = { s.lift x with
      state := .lower, wait := .none, sub := .none, holdTimer := .stopped, seqTimer := .stopped
      phaseTimer := .running (s.now + s.cfg.lowerLimit x) } := lift_setLift_self _ _ _
  have hscale : (lowerTaken x s).scale x = { s.scale x with
      run := Run.empty, accepted := none, fallback := none
      silence := .running (s.now + Config.silenceTime) } :=
    (tri_get_set _ _ _ _).trans (if_pos rfl)
  have hpaced : pacedBut [.station x] s (lowerTaken x s) :=
    pacedBut_trans (pacedBut_setLift (by simp) _ _) (pacedBut_setScale (by simp) _ _)
  unfold lowerBegun at *
  rw [ha] at hframe ⊢
  refine ⟨?_, ?_, ?_, pacedBut_trans hpaced (pacedBut_arbitrate fun q hq => hothers q (by simpa using hq)),
    hframe⟩
  · refine (arbitrate_lift Lift.unpaced paced_unpaced _ _).trans ?_
    show ((lowerTaken x s).lift x).unpaced = _
    rw [htaken]
    rfl
  · exact arbitrate_began (limit := s.cfg.lowerLimit x) hown (by rw [htaken]; rfl)
  · rcases arbitrate_scale ((lowerTaken x s).setArbiter a) x with e | e <;> rw [e]
    · exact hscale
    · rw [show ((lowerTaken x s).setArbiter a).scale x = (lowerTaken x s).scale x from rfl, hscale]

/-- The toggle outputs follow without a trace in the functions (R161). -/
theorem Lowering.toggled (h : Lowering x s t) : Lowering x s (settleToggles t) where
  lift := h.lift
  began := h.began
  scale := h.scale
  paced := h.paced
  frame := reflow_toggled h.frame

theorem Lowering.offered (h : Lowering x s t) (f : Frame) : ((t.offered f).lift x).unpaced =
      { s.lift x with state := .lower, wait := .none, sub := .none, holdTimer := .stopped }.unpaced ∧
    (t.offered f).began x .lower (s.cfg.lowerLimit x) ∧
    (t.offered f).scale x = { s.scale x with
      run := Run.empty, accepted := none, fallback := none
      silence := .running (s.now + Config.silenceTime) } ∧
    pacedBut [.station x] s (t.offered f) := by
  obtain ⟨p, c, hf⟩ := offered_sets f t
  rw [hf]
  exact ⟨h.lift, h.began, h.scale, h.paced⟩

/-! ### Return and the hold timer (R58, R60) -/

/-- A lift whose admission a Return refuses, before it is lowered. -/
def returned (x : Station) (s : State) : State := s.onRecord x fun r => { r with admission := .refused }

theorem takeReturn_above (h : s.stationRole .lowered x = false) :
    takeReturn x s = lowerBegun x (returned x s) := enterLower_above (s := returned x s) h

/-- A lift whose hold timer has run out: counted, with the flag in its record (R60). -/
def timedOut (x : Station) (s : State) : State :=
  setFlag x .holdTimeout (s.setLift x { s.lift x with holdTimeouts := bump (s.lift x).holdTimeouts })

theorem holdExpiry_running {e : Nat} (h : (s.lift x).holdTimer = .running e) :
    holdExpiry x s = takeReturn x (timedOut x (s.reach e)) := by
  unfold holdExpiry
  rw [h, onExpiry_running]
  rfl

theorem returned_lift (h : (s.lift x).record = some r) : (returned x s).lift x =
    { s.lift x with record := some { r with admission := .refused } } := by
  rw [returned, State.onRecord, lift_setLift_self, h]
  rfl

theorem timedOut_lift (h : (s.lift x).record = some r) : (timedOut x s).lift x = { s.lift x with
    holdTimeouts := bump (s.lift x).holdTimeouts
    record := some { r with flags := r.flags ||| LiftFlag.holdTimeout.mask } } := by
  rw [timedOut, setFlag, State.onRecord, lift_setLift_self, lift_setLift_self, h]
  rfl

theorem exec_holdTimerExpiry_eq (x : Station) (s : State) :
    exec (.holdTimerExpiry x) s = .next (Machine.handled (holdExpiry x) s) := rfl

theorem exec_sequenceTimerExpiry_eq (x : Station) (s : State) :
    exec (.sequenceTimerExpiry x) s = .next (Machine.handled (sequenceExpiry x) s) := rfl

end

/-- Settles O27: both ways lead into Lower through one Return. -/
theorem holdToLower : Obligations.HoldToLower := by
  intro x r s hl hhold hrec hrole
  refine ⟨fun tag b hx ho => ?_, fun e he => ?_⟩
  · have h := (lowerBegun_lowering x (returned x s)).toggled
    have hf : commandReturn tag b s = sendReply 2 tag b .accepted (lowerBegun x (returned x s)) := by
      rw [← takeReturn_above hrole]
      refine (stationCommand_of hx .returnLift tag returnLift s).trans ?_
      rw [show returnLift x s = (.accepted, takeReturn x s) from if_neg (by simp [hhold])]
      rfl
    have hkeep {α : Type} (π : State → α) (hk : Keeps π [.arb, .arbiter, .lifts, .weigh]) :
        π (lowerBegun x (returned x s)) = π s :=
      (lowerBegun_keeps hk x _).trans (hk.lifts rfl _ _)
    have ho' : controlOpen (lowerBegun x (returned x s)) := by
      rw [controlOpen, hkeep _ keeps_body.mono, hkeep _ keeps_control.mono]
      exact ho
    obtain ⟨hlift, hbegan, hscale, hpaced⟩ := h.offered (s.replyTo 2 tag b .accepted)
    refine ⟨_, by rw [exec_returnLift_eq, handled_replied hl.1 hf ho' (hkeep _ keeps_sys.mono)
      (hkeep _ keeps_cfg.mono)], ?_, hbegan, hscale,
      pacedBut_trans (pacedBut_setLift (by simp) s _) hpaced, reflow_offered h.frame _⟩
    rw [hlift, returned_lift hrec]
  · have hrec' : ((s.reach e).lift x).record = some r := hrec
    have h := (lowerBegun_lowering x (returned x (timedOut x (s.reach e)))).toggled
    have hf : holdExpiry x s = lowerBegun x (returned x (timedOut x (s.reach e))) := by
      rw [holdExpiry_running he]
      exact takeReturn_above hrole
    refine ⟨_, by rw [exec_holdTimerExpiry_eq, handled_powered hl.1, hf], ?_, h.began, h.scale, ?_,
      h.frame⟩
    · rw [h.lift, returned_lift (congrArg Lift.record (timedOut_lift hrec')), timedOut_lift hrec']
      rfl
    · exact pacedBut_trans (pacedBut_trans (pacedBut_setLift (by simp) (s.reach e) _)
        (pacedBut_trans (pacedBut_setLift (by simp) _ _) (pacedBut_setLift (by simp) _ _))) h.paced

section

variable {s t : State} {x : Station} {e : Nat}

/-! ### Dump's sub-phases (R61) -/

theorem refreshValves_channels (s : State) :
    refreshValves s = { s with channels := (refreshValves s).channels } := rfl

/-- A sub-phase that follows another in Dump (R61). -/
theorem sequenceExpiry_next {sub : DumpPhase} (h : (s.lift x).seqTimer = .running e)
    (hs : nextSub (s.cfg.shakeCount x) (s.lift x).sub = some sub) : sequenceExpiry x s =
      refreshValves ((s.reach e).setLift x { s.lift x with
        sub := sub, seqTimer := .running (max s.sys.now e + s.cfg.subLength x sub) }) := by
  have hs' : nextSub ((s.reach e).cfg.shakeCount x) ((s.reach e).lift x).sub = some sub := hs
  unfold sequenceExpiry
  rw [h, onExpiry_running]
  simp only [hs']
  rfl

theorem sequenceExpiry_last (h : (s.lift x).seqTimer = .running e)
    (hs : (s.lift x).sub = .dumpUp) : sequenceExpiry x s = servePack (enterLower x (s.reach e)) := by
  have hs' : nextSub ((s.reach e).cfg.shakeCount x) ((s.reach e).lift x).sub = none := by
    rw [show ((s.reach e).lift x).sub = .dumpUp from hs]
    rfl
  unfold sequenceExpiry
  rw [h, onExpiry_running]
  simp only [hs']

theorem lowerBegun_packPending (x : Station) (s : State) :
    (lowerBegun x s).packer.packPending = s.packer.packPending := by
  obtain ⟨a, ha, -⟩ := lowerRequest_eq x (lowerTaken x s)
  unfold lowerBegun
  rw [ha, arbitrate_packer (·.packPending) fun _ _ _ _ _ p => (packer_paced_core _ _ _ _ _ p).2.1]
  rfl

/-- The sub-phases and their lengths, as the sequence timer takes them (R61). -/
theorem nextSub_cases {c : Mem} {sub next : DumpPhase} {k len : Nat}
    (h : sub = .shakeUp k ∧ next = .shakeBack k ∧ len = c.shakeHalfPeriod x ∨
      sub = .shakeBack k ∧ k < c.shakeCount x ∧ next = .shakeUp (k + 1) ∧
        len = c.shakeHalfPeriod x ∨
      sub = .shakeBack k ∧ c.shakeCount x ≤ k ∧ next = .dumpUp ∧ len = c.dumpTime x) :
    nextSub (c.shakeCount x) sub = some next ∧ c.subLength x next = len := by
  rcases h with ⟨rfl, rfl, rfl⟩ | ⟨rfl, hk, rfl, rfl⟩ | ⟨rfl, hk, rfl, rfl⟩
  · exact ⟨rfl, rfl⟩
  · exact ⟨congrArg some (if_pos hk), rfl⟩
  · exact ⟨congrArg some (if_neg (Nat.not_lt.mpr hk)), rfl⟩

end

/-- Settles O29, sub-phase by sub-phase, and by the entry into Lower after the last. -/
theorem dumpSequence : Obligations.DumpSequence := by
  intro x e s hl he
  refine ⟨fun k next len hnext => ?_, fun hdump hsub hpack hrole => ?_⟩
  · obtain ⟨hs, hlen⟩ := nextSub_cases hnext
    have hf := sequenceExpiry_next he hs
    rw [hlen] at hf
    have hsettled : settled (sequenceExpiry x s) := by
      rw [hf]
      exact settled_setLift (s := s.reach e) rfl hl.2
    refine ⟨_, by rw [exec_sequenceTimerExpiry_eq, handled_settled hl.1 hsettled], ?_⟩
    rw [hf]
    exact refreshValves_channels _
  · have h := (lowerBegun_lowering x (s.reach e)).toggled
    have hpack' : (lowerBegun x (s.reach e)).packer.packPending = false :=
      (lowerBegun_packPending x _).trans hpack
    have hf : sequenceExpiry x s = lowerBegun x (s.reach e) := by
      rw [sequenceExpiry_last he hsub, enterLower_above (s := s.reach e) hrole,
        Proofs.servePack_idle hpack']
    exact ⟨_, by rw [exec_sequenceTimerExpiry_eq, handled_powered hl.1, hf], h.lift, h.began, h.paced,
      h.frame⟩

end Sys2Proof.Proofs

/-! Override in Hold, and the entry into Dump that the blade test leads to (O28). -/

namespace Sys2Proof.Proofs

open Sys2Proof Sys2Proof.Machine Sys2Proof.Laws

section

variable {s t u v : State} {x : Station} {l : List Requester} {r : LiftRecord}

/-! ### A Dump entry (R61, R165) -/

/-- A counted dump changes the packer alone: never its state, and of its dumps the count. -/
theorem countDump_sets (s : State) : ∃ p, countDump s = s.setPacker p ∧
    p.state = s.packer.state ∧ p.dumps = min (s.packer.dumps + 1) 255 := by
  unfold countDump autoRequest
  dsimp only
  (repeat' split) <;> exact ⟨_, rfl, rfl, rfl⟩

theorem marker_furthest (r : LiftRecord) (f : Furthest) : (r.marker f).furthest = f := by
  unfold LiftRecord.marker
  split <;> rfl

/-- A record that reached Dump (R61, R69). -/
def dumpReached (r : LiftRecord) : LiftRecord := { r with reachedDump := true }

/-- A station as Dump takes it, before its dump is counted (R61, R70). -/
def tipping (x : Station) (s : State) : State :=
  let w := writeMarker x .dumped (s.onRecord x dumpReached)
  w.setLift x { w.lift x with
    state := .dump, wait := .none, holdTimer := .stopped, sub := w.cfg.firstSub x
    seqTimer := .running (w.now + w.cfg.subLength x (w.cfg.firstSub x)) }

theorem enterDump_eq (x : Station) (s : State) :
    enterDump x s = newRequest (.station x) .dump (countDump (tipping x s)) := rfl

/-- The two replacements of a Dump entry at a lift with a record. -/
theorem tipping_eq (h : (s.lift x).record = some r) :
    tipping x s = (s.setMarker x ((dumpReached r).marker .dumped)).setLift x { s.lift x with
      state := .dump, wait := .none, holdTimer := .stopped, sub := s.cfg.firstSub x
      seqTimer := .running (s.now + s.cfg.subLength x (s.cfg.firstSub x))
      record := some (dumpReached r) } := by
  have hrec : (s.onRecord x dumpReached).lift x =
      { s.lift x with record := some (dumpReached r) } := onRecord_lift h _
  have hw : writeMarker x .dumped (s.onRecord x dumpReached) =
      (s.onRecord x dumpReached).setMarker x ((dumpReached r).marker .dumped) := by
    unfold writeMarker
    rw [hrec]
  unfold tipping
  rw [hw]
  dsimp only
  have hl : ((s.onRecord x dumpReached).setMarker x ((dumpReached r).marker .dumped)).lift x =
      { s.lift x with record := some (dumpReached r) } := hrec
  rw [hl]
  have hset (y z : Lift) : (s.lifts.set x y).set x z = s.lifts.set x z := by cases x <;> rfl
  exact congrArg (State.setLifts (s.setMarker x ((dumpReached r).marker .dumped))) (hset _ _)

/-- What a Dump entry leaves of the station, of its marker and of the packer (R61, R70, R165). -/
structure Dumping (x : Station) (r : LiftRecord) (s t : State) : Prop where
  lift : (t.lift x).unpaced = { s.lift x with
    state := .dump, wait := .none, holdTimer := .stopped, sub := s.cfg.firstSub x
    record := some (dumpReached r) }.unpaced
  markers : t.markers = s.markers.set x (t.marker x)
  marker : (t.marker x).furthest = .dumped
  request : t.request (.station x) = some (t.flowReq (.station x) .dump)
  packerState : t.packer.state = s.packer.state
  dumps : t.packer.dumps = min (s.packer.dumps + 1) 255
  paced : pacedBut [.station x, .packer] s t
  frame : t = { s.reflow t with markers := t.markers }

theorem enterDump_dumping (h : (s.lift x).record = some r) : Dumping x r s (enterDump x s) := by
  have hq := tipping_eq h
  have hpaced : pacedBut [.station x, .packer] s (tipping x s) :=
    hq ▸ pacedBut_setLift (s := s.setMarker x _) (by simp) _
  have hlift : (tipping x s).lift x = { s.lift x with
      state := .dump, wait := .none, holdTimer := .stopped, sub := s.cfg.firstSub x
      seqTimer := .running (s.now + s.cfg.subLength x (s.cfg.firstSub x))
      record := some (dumpReached r) } := hq ▸ lift_setLift_self _ _ _
  have hmarkers : (tipping x s).markers = s.markers.set x ((dumpReached r).marker .dumped) := hq ▸ rfl
  have hpacker : (tipping x s).packer = s.packer := hq ▸ rfl
  have hframe : tipping x s = { s.reflow (tipping x s) with markers := (tipping x s).markers } :=
    hq ▸ rfl
  obtain ⟨p, hp, hstate, hdumps⟩ := countDump_sets (tipping x s)
  rw [enterDump_eq, hp]
  generalize tipping x s = w at *
  have hkeep {α : Type} (π : State → α) (hk : Keeps π [.arb, .arbiter, .packer]) :
      π (newRequest (.station x) .dump (w.setPacker p)) = π w :=
    (newRequest_keeps π hk.mono _ _ _).trans (hk.packer rfl _ _)
  have hmark : (newRequest (.station x) .dump (w.setPacker p)).markers =
      s.markers.set x ((dumpReached r).marker .dumped) := (hkeep _ keeps_markers.mono).trans hmarkers
  have hmx : (newRequest (.station x) .dump (w.setPacker p)).marker x = (dumpReached r).marker .dumped := by
    rw [State.marker, hmark, tri_get_set, if_pos rfl]
  refine ⟨?_, by rw [hmx, hmark], by rw [hmx, marker_furthest], ?_, ?_, ?_, ?_, ?_⟩
  · refine (arbitrate_lift Lift.unpaced paced_unpaced _ _).trans ?_
    show (w.lift x).unpaced = _
    rw [hlift]
    rfl
  · refine (arbitrate_request _ _).trans ?_
    show (w.arbiter.req.set (.station x) (some (w.flowReq (.station x) .dump))).get (.station x) = _
    rw [five_get_set, if_pos rfl]
    simp only [State.flowReq, hkeep _ keeps_cfg.mono]
  · exact (arbitrate_packer_state _).trans (hstate.trans (congrArg _ hpacker))
  · refine (arbitrate_packer (·.dumps) (fun now limit stall q g p => ?_) _).trans
      (hdumps.trans (by rw [hpacker]))
    unfold Packer.paced
    (repeat' split) <;> rfl
  · exact pacedBut_trans hpaced (pacedBut_trans (pacedBut_setPacker (by simp) w p)
      (pacedBut_newRequest (by simp) _ _))
  · have hr : (newRequest (.station x) .dump (w.setPacker p)).reflow w = w.reflow w :=
      hkeep (fun u => u.reflow w) (keeps_reflowed w).mono
    have hv := eq_reflow_of hr
    have hm : (newRequest (.station x) .dump (w.setPacker p)).markers = w.markers :=
      hkeep _ keeps_markers.mono
    generalize newRequest (.station x) .dump (w.setPacker p) = z at *
    rw [hv, hframe]
    rfl

/-- `s` with the blocks of an arbitration and one station's marker as `t` has them. -/
def markedFrame (x : Station) (s t : State) : State :=
  { s.reflow t with markers := s.markers.set x (t.marker x) }

theorem keeps_markedFrame (x : Station) (s : State) : Keeps (markedFrame x s) [.body, .control] := by
  intro f hf
  cases f <;> first | exact fun _ _ => rfl | exact absurd hf (by decide)

theorem Dumping.marked (h : Dumping x r s t) : t = markedFrame x s t := by
  unfold markedFrame
  rw [← h.markers]
  exact h.frame

theorem Dumping.toggled (h : Dumping x r s t) : Dumping x r s (settleToggles t) where
  lift := h.lift
  markers := h.markers
  marker := h.marker
  request := h.request
  packerState := h.packerState
  dumps := h.dumps
  paced := h.paced
  frame := congrArg (fun u => u.setToggles (Proofs.toggled t)) h.frame

/-! ### Override (R59) -/

/-- A lift whose admission an Override makes (R59). -/
def overriddenRecord (r : LiftRecord) : LiftRecord :=
  { r with admission := .overridden, flags := r.flags ||| LiftFlag.override.mask }

def overridden (x : Station) (s : State) : State := s.onRecord x overriddenRecord

theorem overrideLift_taken (hh : (s.lift x).state = .hold)
    (hw : (s.lift x).wait = .status ∨ (s.lift x).wait = .identity) :
    overrideLift x s = (.accepted, bladeTest x (overridden x s)) := by
  unfold overrideLift
  rw [hh]
  rcases hw with hw | hw <;> rw [hw] <;> rfl

theorem overrideLift_refused (hh : (s.lift x).state = .hold)
    (hw : (s.lift x).wait = .lookup ∨ (s.lift x).wait = .blade) :
    overrideLift x s = (.notPermitted, s) := by
  unfold overrideLift
  rw [hh]
  rcases hw with hw | hw <;> rw [hw] <;> rfl

theorem overrideLift_outOfHold (hh : (s.lift x).state ≠ .hold) :
    overrideLift x s = (.notInHold, s) := if_pos (bne_iff_ne.mpr hh)

theorem overridden_bladeOk (x : Station) (s : State) : (overridden x s).bladeOk = s.bladeOk := rfl

end

/-- Settles O28: the blade test decides between the entry into Dump and the wait. -/
theorem overrideHold : Obligations.OverrideHold := by
  intro x tag b r s hl ho hx taken
  have hcommand {a : Reply} {v : State} (h : overrideLift x s = (a, v)) :
      commandOverride tag b s = sendReply 3 tag b a v :=
    (stationCommand_of hx .override tag overrideLift s).trans (by rw [h]; rfl)
  refine ⟨fun hh => ?_, fun hh hw => ?_, fun hh hw hrec => ⟨fun hb => ?_, fun hb => ?_⟩⟩
  · exact handled_turnedAway hl ho (hcommand (overrideLift_outOfHold hh))
  · exact handled_turnedAway hl ho (hcommand (overrideLift_refused hh hw))
  · have hlift : (overridden x s).lift x = { s.lift x with record := some taken } := onRecord_lift hrec _
    have hset (y z : Lift) : (s.setLift x y).setLift x z = s.setLift x z :=
      congrArg s.setLifts (by cases x <;> rfl)
    have hv : bladeTest x (overridden x s) =
        s.setLift x { s.lift x with record := some taken, wait := .blade } := by
      unfold bladeTest
      rw [overridden_bladeOk, hb, if_neg (by decide), hlift]
      exact hset _ _
    have hs : settled (s.setLift x { s.lift x with record := some taken, wait := .blade }) :=
      settled_setLift rfl hl.2
    have hf := hcommand (overrideLift_taken hh hw)
    rw [hv] at hf
    rw [exec_overrideLift_eq, handled_replied hl.1 hf ho rfl rfl, settleToggles_same hs.1 hs.2]
  · have hlift : (overridden x s).lift x = { s.lift x with record := some taken } := onRecord_lift hrec _
    have hv : bladeTest x (overridden x s) = enterDump x (overridden x s) :=
      if_pos ((overridden_bladeOk x s).trans hb)
    have hkeep {α : Type} (π : State → α) (hk : Keeps π [.arb, .lifts, .markers, .arbiter, .packer]) :
        π (enterDump x (overridden x s)) = π s :=
      (enterDump_keeps π hk.mono _ _).trans (hk.lifts rfl _ _)
    have ho' : controlOpen (enterDump x (overridden x s)) := by
      rw [controlOpen, hkeep _ keeps_body.mono, hkeep _ keeps_control.mono]
      exact ho
    have hf := hcommand (overrideLift_taken hh hw)
    rw [hv] at hf
    have hd := (enterDump_dumping (congrArg Lift.record hlift)).toggled
    refine ⟨_, by rw [exec_overrideLift_eq, handled_replied hl.1 hf ho' (hkeep _ keeps_sys.mono)
      (hkeep _ keeps_cfg.mono)], ?_⟩
    generalize settleToggles (enterDump x (overridden x s)) = v at hd ⊢
    generalize s.replyTo 3 tag b .accepted = f
    have hframe : v.offered f = (markedFrame x s (v.offered f)).offered f := by
      rw [offered_keeps _ (keeps_markedFrame x s)]
      exact congrArg (fun u => u.offered f) (hd.marked (s := overridden x s))
    obtain ⟨p, c, hoff⟩ := offered_sets f v
    refine ⟨?_, ?_, ?_, ?_, ?_, ?_, hframe⟩ <;> rw [hoff]
    · exact hd.lift.trans (by rw [hlift]; rfl)
    · exact hd.marker
    · exact hd.request
    · exact hd.packerState
    · exact hd.dumps
    · exact pacedBut_trans (pacedBut_setLift (by simp) s _) hd.paced

end Sys2Proof.Proofs

/-! The packer retracts, and a station that waits for the blade dumps (O34). -/

namespace Sys2Proof.Proofs

open Sys2Proof Sys2Proof.Machine Sys2Proof.Laws

section

variable {s t u v z : State} {x y : Station} {r : LiftRecord} {serve : State → State}

/-! ### The packer in an arbitration (R170) -/

theorem arbitrate_packer_paced (s : State) : (arbitrate s).packer = s.packer.paced s.now
    s.cfg.pauseLimit s.cfg.stallTime (s.request .packer) ((arbitrate s).grant .packer) := by
  have hg : (arbitrate s).grant .packer =
      (s.arbiter.run s.signals.capacity s.masked s.priority).grant.get .packer := by
    simp only [State.grant, arbitrate_arbiter]
  rw [hg]
  unfold arbitrate
  generalize hw : s.arbiter.run s.signals.capacity s.masked s.priority = a at *
  have hl : ∀ y : State, (paceTailgate (pacePacker y)).packer = y.packer.paced y.now y.cfg.pauseLimit
      y.cfg.stallTime (y.request .packer) (y.grant .packer) := fun _ => rfl
  have hk {α : Type} (π : State → α) (hk : Keeps π [.lifts, .weigh]) (y : State) :
      π (stations.foldl paceLift y) = π y := foldl_keeps π _ (paceLift_keeps π hk) _ _
  have hq : (refreshValves (s.setArbiter a)).request .packer = s.request .packer :=
    congrArg (fun f : Five (Option FlowReq) => f.get .packer)
      ((congrArg Arbiter.req hw).symm.trans (run_req _ _ _ _))
  rw [hl, paceLifts_request, paceLifts_grant, hq, hk State.packer keeps_packer.mono,
    hk State.now (fun f hf => by cases f <;> first | exact fun _ _ => rfl | exact absurd hf (by decide)),
    hk State.cfg keeps_cfg.mono]
  rfl

theorem newRequest_packer_limit {limit : Nat} (ph : FlowPhase)
    (h : s.packer.limitTimer = .running (s.now + limit)) :
    (newRequest .packer ph s).packer.limitTimer =
      if (newRequest .packer ph s).grant .packer = 0 then .held limit else .running (s.now + limit) := by
  unfold newRequest
  rw [arbitrate_packer_paced]
  generalize (arbitrate _).grant .packer = g
  show (Packer.paced s.now _ _ (some _) g s.packer).limitTimer = _
  unfold Packer.paced
  by_cases hg : g = 0
  · simp [hg, h, Timer.hold]
  · simp [hg, Nat.pos_of_ne_zero hg, h, Timer.resume]

/-! ### The blade tests of a packer that leaves the way free (R57) -/

theorem tipping_packer (x : Station) (s : State) : (tipping x s).packer = s.packer :=
  writeMarker_keeps State.packer keeps_packer.mono x .dumped (s.onRecord x dumpReached)

/-- A reading of the packer that neither its pacing nor a counted dump changes outlives the blade tests. -/
theorem bladeTests_packer {α : Type} (ρ : Packer → α)
    (h1 : ∀ now limit stall q g p, ρ (Packer.paced now limit stall q g p) = ρ p)
    (h2 : ∀ v, ρ (countDump v).packer = ρ v.packer) (s : State) :
    ρ (bladeTests s).packer = ρ s.packer := by
  have hdump (v : State) (y : Station) : ρ (enterDump y v).packer = ρ v.packer := by
    rw [enterDump_eq, newRequest, arbitrate_packer ρ h1, setArbiter_packer, h2, tipping_packer]
  have hone (v : State) (y : Station) : ρ (retestBlade v y).packer = ρ v.packer := by
    unfold retestBlade bladeTest
    split
    · split
      · exact hdump v y
      · rfl
    · rfl
  exact foldl_keeps (fun v => ρ v.packer) retestBlade hone stations s

theorem countDump_dwellTimer (s : State) : (countDump s).packer.dwellTimer = s.packer.dwellTimer := by
  unfold countDump autoRequest
  dsimp only
  (repeat' split) <;> rfl

/-- A station in Dump whose marker says so. -/
def dumpStands (x : Station) (s : State) : Prop :=
  (s.lift x).state = .dump ∧ (s.marker x).furthest = .dumped

theorem Stands.dumpStands (h : Stands x s t) (k : dumpStands x s) : dumpStands x t :=
  ⟨h.state.trans k.1, (congrArg Marker.furthest h.marker).trans k.2⟩

/-- A station that does not wait for the blade stands as it was through the tests. -/
theorem bladeTests_stands (h : ¬ bladeWaits s x) : Stands x s (bladeTests s) := by
  obtain ⟨l, r, hl, h1, h2⟩ := stations_split x
  unfold bladeTests
  rw [hl, List.foldl_append, List.foldl_cons]
  obtain ⟨k1, -⟩ := retestBlades_stands h1 s
  have hv : ¬ bladeWaits (l.foldl retestBlade s) x := by
    unfold bladeWaits
    rw [k1.state, k1.wait]
    exact h
  rw [retestBlade_idle hv]
  exact k1.trans (retestBlades_stands h2 _).1

/-- A station that waits for the blade dumps once the blade is clear and the packer out of the way. -/
theorem bladeTests_dumps (hw : bladeWaits s x) (hrec : (s.lift x).record = some r)
    (hb : s.role .bladeClear = true) (hp : ¬ sweeping s) : dumpStands x (bladeTests s) := by
  obtain ⟨l, l', hl, h1, h2⟩ := stations_split x
  unfold bladeTests
  rw [hl, List.foldl_append, List.foldl_cons]
  obtain ⟨k1, k2⟩ := retestBlades_stands h1 s
  have hok : (l.foldl retestBlade s).bladeOk = true := by
    refine (bladeOk_iff ?_).mpr (by unfold sweeping; rw [k2]; exact hp)
    exact (role_congr (foldl_keeps _ _ (retestBlade_keeps _ keeps_scanner.mono) l s)
      (foldl_keeps _ _ (retestBlade_keeps _ keeps_cfg.mono) l s) _).trans hb
  generalize l.foldl retestBlade s = w at *
  have hv : retestBlade w x = enterDump x w := by
    unfold retestBlade bladeTest
    rw [k1.state, k1.wait, hw.1, hw.2, if_pos hok]
    rfl
  have hd := enterDump_dumping (k1.record.trans hrec)
  rw [← hv] at hd
  exact (retestBlades_stands h2 _).1.dumpStands ⟨congrArg Lift.state hd.lift, hd.marker⟩

/-! ### Retracting and Parked (R168) -/

/-- The packer in Retracting, before the blade tests that the change of its state calls for. -/
def retracting (s : State) : State := s.setPacker { s.packer with
  state := .retracting, dwellTimer := .stopped, limitTimer := .stopped, stallTimer := .stopped }

/-- The packer in Retracting after them, with its limit and its request. -/
def retractBegun (s : State) : State :=
  newRequest .packer .retracting ((bladeTests (retracting s)).setPacker
    { (bladeTests (retracting s)).packer with
      limitTimer := .running ((bladeTests (retracting s)).now + s.cfg.retractLimit) })

/-- The packer in Parked without a request, before pack-pending is tested (R166). -/
def parked (s : State) : State :=
  bladeTests (releaseRequest .packer (s.setPacker { s.packer with
    state := .parked, limitTimer := .stopped }))

theorem retracted_keeps {α : Type} {π : State → α}
    (hk : Keeps π [.arb, .lifts, .markers, .arbiter, .packer]) (s : State) :
    π (bladeTests (retracting s)) = π s :=
  (bladeTests_keeps π hk.mono _).trans (hk.packer rfl _ _)

theorem retractBegun_keeps {α : Type} {π : State → α}
    (hk : Keeps π [.arb, .lifts, .markers, .arbiter, .packer]) (s : State) :
    π (retractBegun s) = π s :=
  (newRequest_keeps π hk.mono _ _ _).trans ((hk.packer rfl _ _).trans (retracted_keeps hk s))

theorem parked_keeps {α : Type} {π : State → α}
    (hk : Keeps π [.arb, .lifts, .markers, .arbiter, .packer]) (s : State) : π (parked s) = π s :=
  (bladeTests_keeps π hk.mono _).trans ((releaseRequest_keeps π hk.mono _ _).trans (hk.packer rfl _ _))

theorem retracted_home (s : State) : (bladeTests (retracting s)).packerHome = s.packerHome := by
  unfold State.packerHome
  rw [role_congr (retracted_keeps keeps_scanner.mono s) (retracted_keeps keeps_cfg.mono s),
    role_congr (retracted_keeps keeps_scanner.mono s) (retracted_keeps keeps_cfg.mono s)]

theorem enterRetracting_away (h : s.packerHome = false) :
    enterRetracting serve s = retractBegun s := by
  have hc : (bladeTests (retracting s)).cfg = s.cfg := retracted_keeps keeps_cfg.mono s
  unfold enterRetracting
  show (if (bladeTests (retracting s)).packerHome then _ else _) = _
  rw [retracted_home, h, if_neg (by decide)]
  unfold retractBegun
  rw [← hc]
  rfl

theorem enterRetracting_home (h : s.packerHome = true) :
    enterRetracting serve s = serve (parked (bladeTests (retracting s))) := by
  unfold enterRetracting
  show (if (bladeTests (retracting s)).packerHome then _ else _) = _
  rw [retracted_home, h, if_pos rfl]
  rfl

/-- No pack begins while a station stands in Dump (R165, R166). -/
theorem servePack_dumping (h : (s.lift x).state = .dump) : servePack s = s := by
  refine Laws.servePack_idle (Bool.eq_false_iff.mpr fun hc => ?_)
  obtain ⟨-, -, -, hall, -⟩ := (packReady_iff s).mp hc
  exact hall x h

theorem releaseRequest_stands (x : Station) (s : State) : Stands x s (releaseRequest .packer s) := by
  unfold releaseRequest
  split
  · exact arbitrate_stands rfl
  · exact .refl x s

theorem newRequest_packer_stands (x : Station) (ph : FlowPhase) (s : State) :
    Stands x s (newRequest .packer ph s) := arbitrate_stands rfl

theorem setPacker_stands (x : Station) (s : State) (p : Packer) : Stands x s (s.setPacker p) :=
  .of_fields rfl rfl rfl rfl rfl rfl rfl rfl rfl

/-- A station in Dump stands there as the packer is parked. -/
theorem parked_dumpStands (h : dumpStands x s) : dumpStands x (parked s) := by
  have hk := ((setPacker_stands x s { s.packer with state := .parked, limitTimer := .stopped }).trans
    (releaseRequest_stands x _)).dumpStands h
  exact (bladeTests_stands fun hw => nomatch hk.1.symm.trans hw.1).dumpStands hk

/-- A station that waited for the blade is in Dump once the packer retracts, home or not (R57). -/
theorem enterRetracting_dumps (hw : bladeWaits s x) (hrec : (s.lift x).record = some r)
    (hb : s.role .bladeClear = true) : dumpStands x (enterRetracting servePack s) ∧
    ∀ {α : Type} {π : State → α}, Keeps π [.arb, .lifts, .markers, .arbiter, .packer] →
      π (enterRetracting servePack s) = π s := by
  have hd : dumpStands x (bladeTests (retracting s)) :=
    bladeTests_dumps (s := retracting s) hw hrec hb (by unfold sweeping; exact nofun)
  by_cases hh : s.packerHome = true
  · rw [enterRetracting_home hh, servePack_dumping (parked_dumpStands hd).1]
    exact ⟨parked_dumpStands hd, fun hk => (parked_keeps hk _).trans (retracted_keeps hk s)⟩
  · rw [enterRetracting_away (by simpa using hh)]
    exact ⟨((setPacker_stands x _ _).trans (newRequest_packer_stands x _ _)).dumpStands hd,
      fun hk => retractBegun_keeps hk s⟩

/-- What the entry into Retracting leaves of the packer out of its home position (R168). -/
structure Retracted (s t : State) : Prop where
  state : t.packer.state = .retracting
  request : t.request .packer = some ⟨.retracting, s.cfg.u8 0x62860, s.cfg.u8 0x62860⟩
  paused : t.packer.paused = decide (t.grant .packer = 0)
  limit : t.packer.limitTimer = if t.grant .packer = 0 then .held s.cfg.retractLimit
    else .running (s.now + s.cfg.retractLimit)
  dwell : t.packer.dwellTimer = .stopped

theorem retractBegun_retracted (s : State) : Retracted s (retractBegun s) := by
  have hstate : (bladeTests (retracting s)).packer.state = .retracting :=
    bladeTests_packer Packer.state (fun _ _ _ _ _ _ => (packer_paced_core _ _ _ _ _ _).1)
      countDump_packerState (retracting s)
  have hpaced (now limit stall : Nat) (q : Option FlowReq) (g : Nat) (p : Packer) :
      (p.paced now limit stall q g).dwellTimer = p.dwellTimer := by
    unfold Packer.paced
    (repeat' split) <;> rfl
  have hdwell : (bladeTests (retracting s)).packer.dwellTimer = .stopped :=
    bladeTests_packer Packer.dwellTimer hpaced countDump_dwellTimer (retracting s)
  have hc : (bladeTests (retracting s)).cfg = s.cfg := retracted_keeps keeps_cfg.mono s
  have hn : (bladeTests (retracting s)).now = s.now :=
    congrArg Sys.now (retracted_keeps keeps_sys.mono s)
  have hreports := (newRequest_reports .packer .retracting ((bladeTests (retracting s)).setPacker
    { (bladeTests (retracting s)).packer with
      limitTimer := .running ((bladeTests (retracting s)).now + s.cfg.retractLimit) })).2.1
  unfold retractBegun
  generalize bladeTests (retracting s) = w at *
  have hrequest : (newRequest .packer .retracting (w.setPacker { w.packer with
      limitTimer := .running (w.now + s.cfg.retractLimit) })).request .packer =
      some ⟨.retracting, s.cfg.u8 0x62860, s.cfg.u8 0x62860⟩ := by
    refine (arbitrate_request _ _).trans ?_
    show some (w.flowReq .packer .retracting) = _
    rw [State.flowReq, hc]
    rfl
  refine ⟨?_, hrequest, ?_, ?_, ?_⟩
  · rw [newRequest_packerState]
    exact hstate
  · beta_reduce at hreports
    rw [hrequest] at hreports
    exact hreports
  · rw [← hn]
    exact newRequest_packer_limit .retracting rfl
  · exact (arbitrate_packer Packer.dwellTimer hpaced _).trans hdwell

/-- With no station waiting for the blade, the packer alone acts. -/
theorem retractBegun_free (hfree : ∀ x, (z.lift x).state = .hold → (z.lift x).wait ≠ .blade) :
    pacedBut [.packer] z (retractBegun z) ∧ retractBegun z = z.reflow (retractBegun z) := by
  have hidle : bladeTests (retracting z) = retracting z :=
    bladeTests_idle fun x hw => hfree x hw.1 hw.2
  unfold retractBegun
  rw [hidle]
  refine ⟨pacedBut_trans (pacedBut_setPacker (by simp) z _) (pacedBut_trans
    (pacedBut_setPacker (by simp) _ _) (pacedBut_newRequest (by simp) _ _)), eq_reflow_of (v := z) ?_⟩
  exact newRequest_keeps (fun u => u.reflow z) (keeps_reflowed z).mono _ _ _

/-! ### The commands that make the packer retract -/

/-- A step that takes the packer to Retracting from `z`, whose reply, if it has one, takes a place of the
Control Queue and no more. -/
structure RetractStep (s z : State) (c : Instr) (out : State → State) : Prop where
  replies : ∀ u, ∃ p q, out u = (u.setBody p).setControl q
  runs : ∀ u, enterRetracting servePack z = u →
    (∀ {α : Type} {π : State → α}, Keeps π [.arb, .lifts, .markers, .arbiter, .packer] → π u = π z) →
    exec c s = .next (out (settleToggles u))

theorem exec_dwellTimerExpiry_eq (s : State) :
    exec .dwellTimerExpiry s = .next (Machine.handled dwellExpiry s) := rfl

theorem retractStep_dwell {e : Nat} (hp : s.sys.powered = true) (he : s.packer.dwellTimer = .running e) :
    RetractStep s (s.reach e) .dwellTimerExpiry id where
  replies u := ⟨u.body, u.control, rfl⟩
  runs u hu _ := by
    have hf : dwellExpiry s = u := by
      rw [dwellExpiry, he, onExpiry_running, hu]
    rw [exec_dwellTimerExpiry_eq, handled_powered hp, hf]
    rfl

theorem retractStep_recover {b : Byte} (hp : s.sys.powered = true) (ho : controlOpen s)
    (hf : s.packer.state = .fault) (hs : s.scanOk = true) (hpair : s.pairErrorOf .packer = false)
    (tag : BitVec 4) : RetractStep s s (.packerRecover tag b)
      (fun u => u.offered (s.replyTo 7 tag b .accepted)) where
  replies u := offered_sets _ u
  runs u hu hk := by
    have hr : packerRecover s = (.accepted, u) := by simp [packerRecover, hf, hs, hpair, hu]
    have hc : commandPackerRecover tag b s = sendReply 7 tag b .accepted u := by
      rw [commandPackerRecover, served, hr]
      rfl
    have ho' : controlOpen u := by
      rw [controlOpen, hk keeps_body.mono, hk keeps_control.mono]
      exact ho
    rw [exec_packerRecover_eq, handled_replied hp hc ho' (hk keeps_sys.mono) (hk keeps_cfg.mono)]

variable {c : Instr} {out : State → State}

/-- Out of its home position the packer retracts; with no station waiting for the blade, nothing but the
packer and what its arbitration paces changes. -/
theorem RetractStep.away (h : RetractStep s z c out) (hh : z.packerHome = false) :
    ∃ t, exec c s = .next t ∧ Retracted z t ∧
      ((∀ x, (z.lift x).state = .hold → (z.lift x).wait ≠ .blade) →
        pacedBut [.packer] z t ∧ t = out (z.reflow t)) := by
  have hk {α : Type} {π : State → α} (hk : Keeps π [.arb, .lifts, .markers, .arbiter, .packer]) :
      π (retractBegun z) = π z := retractBegun_keeps hk z
  refine ⟨_, h.runs _ (enterRetracting_away hh) hk, ?_⟩
  have hr := retractBegun_retracted z
  have hfree := retractBegun_free (z := z)
  generalize retractBegun z = v at hr hfree ⊢
  obtain ⟨p, q, ho⟩ := h.replies (settleToggles v)
  have hreflow : z.reflow (out (settleToggles v)) = z.reflow (settleToggles v) := by rw [ho]; rfl
  rw [hreflow, ho]
  refine ⟨⟨hr.state, hr.request, hr.paused, hr.limit, hr.dwell⟩, fun hf => ⟨(hfree hf).1, ?_⟩⟩
  rw [← reflow_toggled (hfree hf).2, ho]

/-- At home the packer is Parked at once, and requests nothing. -/
theorem RetractStep.home (h : RetractStep s z c out) (hh : z.packerHome = true)
    (hfree : ∀ x, (z.lift x).state = .hold → (z.lift x).wait ≠ .blade)
    (hpack : z.packer.packPending = false) (hreq : z.request .packer = none) :
    ∃ t, exec c s = .next t ∧ t = out ({ z with toggles := t.toggles }.setPacker { z.packer with
      state := .parked, dwellTimer := .stopped, limitTimer := .stopped, stallTimer := .stopped }) := by
  have hidle : bladeTests (retracting z) = retracting z :=
    bladeTests_idle fun x hw => hfree x hw.1 hw.2
  have hparked : parked (retracting z) = z.setPacker { z.packer with
      state := .parked, dwellTimer := .stopped, limitTimer := .stopped, stallTimer := .stopped } := by
    unfold parked
    have hnone : (((retracting z).setPacker { (retracting z).packer with
        state := .parked, limitTimer := .stopped }).request .packer).isSome = false :=
      congrArg Option.isSome hreq
    rw [releaseRequest, hnone, if_neg (by decide)]
    exact bladeTests_idle fun x hw => hfree x hw.1 hw.2
  have hv : enterRetracting servePack z = z.setPacker { z.packer with
      state := .parked, dwellTimer := .stopped, limitTimer := .stopped, stallTimer := .stopped } := by
    rw [enterRetracting_home hh, hidle, hparked]
    exact Proofs.servePack_idle hpack
  refine ⟨_, h.runs _ hv fun hk => hk.packer rfl _ _, ?_⟩
  obtain ⟨p, q, ho⟩ := h.replies (settleToggles (z.setPacker { z.packer with
      state := .parked, dwellTimer := .stopped, limitTimer := .stopped, stallTimer := .stopped }))
  rw [congrArg State.toggles ho]
  rfl

/-- A station that waits for the blade enters Dump when Blade Clear is active (R57). -/
theorem RetractStep.dumps (h : RetractStep s z c out) (hw : bladeWaits z x)
    (hrec : (z.lift x).record = some r) (hb : z.role .bladeClear = true) :
    ∃ t, exec c s = .next t ∧ dumpStands x t := by
  obtain ⟨hd, hk⟩ := enterRetracting_dumps hw hrec hb
  have hrun := h.runs _ rfl hk
  generalize enterRetracting servePack z = v at hd hrun
  obtain ⟨p, q, ho⟩ := h.replies (settleToggles v)
  exact ⟨_, hrun, ho ▸ hd⟩

end

/-- Settles O34: the Dwell timer and Packer Recover go one way into Retracting. -/
theorem packerRetracts : Obligations.PackerRetracts := by
  intro tag b e s hl free retracted
  have all {z : State} {c : Instr} {now : Nat} {out : State → State}
      (hz : z = { s with sys := { s.sys with now := now } }) (h : RetractStep s z c out) :
      retracted c now out := by
    subst hz
    refine ⟨fun hh => ?_, fun hh hfree hpack hreq => h.home hh hfree hpack hreq,
      fun x r hs hw hrec hb => h.dumps ⟨hs, hw⟩ hrec hb⟩
    obtain ⟨t, ht, hr, hfree⟩ := h.away hh
    exact ⟨t, ht, hr.state, hr.request, hr.paused, hr.limit, hr.dwell, hfree⟩
  exact ⟨fun he => all rfl (retractStep_dwell hl.1 he),
    fun ho hf hs hp => all rfl (retractStep_recover hl.1 ho hf hs hp tag)⟩

end Sys2Proof.Proofs

/-! A station's phase timer and its pause timer put it in Fault (O31). -/

namespace Sys2Proof.Proofs

open Sys2Proof Sys2Proof.Machine Sys2Proof.Laws

section

variable {a : Arbiter} {r y : Requester} {masked : Requester → Bool}

/-! ### No grant without a request (R150) -/

/-- A requester that neither asks for flow nor has any. -/
def Unasked (r : Requester) (a : Arbiter) : Prop := a.req.get r = none ∧ a.grant.get r = 0

theorem Unasked.regrant {g : Nat} (h : Unasked r a) (hg : y = r → g = 0) :
    Unasked r (a.regrant y g) := by
  refine ⟨h.1, ?_⟩
  rw [regrant_grant]
  split
  · rename_i e
    exact hg e.symm
  · exact h.2

/-- A grant that is only lowered. -/
theorem Unasked.lower (h : Unasked r a) (n : Nat) :
    Unasked r (a.regrant .packer (a.grant.packer - n)) :=
  h.regrant fun e => by
    subst e
    have h0 : a.grant.packer = 0 := h.2
    omega

theorem Unasked.trimMasked (h : Unasked r a) (l : List Requester) :
    Unasked r (l.foldl (fun a r => if masked r then a.revoke r else a) a) := by
  induction l generalizing a with
  | nil => exact h
  | cons y l ih =>
    refine ih ?_
    dsimp only
    split
    · exact h.regrant fun _ => rfl
    · exact h

theorem Unasked.trimWhole (h : Unasked r a) (cap : Nat) (l : List Requester) :
    Unasked r (a.trimWhole cap l) := by
  induction l generalizing a with
  | nil => exact h
  | cons y l ih =>
    unfold Arbiter.trimWhole
    split
    · exact h
    · exact ih (h.regrant fun _ => rfl)

theorem Unasked.walk (h : Unasked r a) (cap : Nat) (l : List Requester) :
    Unasked r (a.walk cap masked l) := by
  induction l generalizing a with
  | nil => exact h
  | cons y l ih =>
    unfold Arbiter.walk
    split
    · exact ih h
    · rename_i q hq
      have asked : ∀ {g : Nat}, y = r → g = 0 := fun e => by
        rw [e, h.1] at hq
        exact absurd hq nofun
      split
      · exact ih h
      · split
        · exact ih (h.regrant asked)
        · split
          · exact ih ((h.lower _).regrant asked)
          · exact h

theorem Unasked.restore (h : Unasked r a) (cap : Nat) : Unasked r (a.restore cap masked) := by
  unfold Arbiter.restore
  split
  · exact h
  · rename_i q hq
    split
    · exact h
    · refine h.regrant fun e => ?_
      subst e
      exact absurd (h.1.symm.trans hq) nofun

/-- An arbitration grants nothing to a requester that asks for nothing. -/
theorem Unasked.run (h : Unasked r a) (cap : Nat) (prio : List Requester) :
    Unasked r (a.run cap masked prio) :=
  ((((Unasked.trimMasked (a := { a with arbitrations := bump a.arbitrations }) h
    requesters).lower _).trimWhole cap prio.reverse).walk cap prio).restore cap

end

section

variable {s t u v : State} {x : Station} {a : Option CounterAnswer} {p : Price} {q : BillReq}
  {below : Bool} {cause : StationFault}

/-! ### A request is released -/

theorem releaseRequest_grant {r : Requester} (h : s.request r ≠ none) :
    (releaseRequest r s).grant r = 0 := by
  unfold releaseRequest
  rw [if_pos (Option.isSome_iff_ne_none.mpr h), State.grant, arbitrate_arbiter]
  exact (Unasked.run (r := r) ⟨(five_get_set _ _ _ _).trans (if_pos rfl),
    (five_get_set _ _ _ _).trans (if_pos rfl)⟩ _ _).2

/-- A station that is not Paused is not seen to release its request. -/
theorem releaseRequest_unpaused (h : (s.lift x).paused = false)
    (ht : (s.lift x).pauseTimer = .stopped) : (releaseRequest (.station x) s).lift x = s.lift x := by
  unfold releaseRequest
  split
  · rw [arbitrate_lift_paced]
    have hq : (s.setArbiter { s.arbiter with
        req := s.arbiter.req.set (.station x) none
        grant := s.arbiter.grant.set (.station x) 0 }).request (.station x) = none := by
      show (s.arbiter.req.set (.station x) none).get (.station x) = none
      exact (five_get_set _ _ _ _).trans (if_pos rfl)
    rw [hq]
    show ({ s.lift x with paused := false, pauseTimer := .stopped } : Lift) = s.lift x
    rw [← h, ← ht]
  · rfl

theorem releaseRequest_unpaced (r : Requester) (s : State) :
    (∀ y, ((releaseRequest r s).lift y).unpaced = (s.lift y).unpaced) ∧
    (releaseRequest r s).packer.unpaced = s.packer.unpaced ∧
    (releaseRequest r s).tailgate.unpaced = s.tailgate.unpaced := by
  refine ⟨releaseRequest_lift Lift.unpaced paced_unpaced r s, ?_⟩
  unfold releaseRequest
  split
  · exact ⟨arbitrate_packer Packer.unpaced packer_paced_unpaced _,
      arbitrate_tailgate Tailgate.unpaced tailgate_paced_unpaced _⟩
  · exact ⟨rfl, rfl⟩

/-! ### The bytes of a commit (R129) -/

theorem addTotal_elsewhere (h : s.store.wf = true) (k : Total) (n : Nat) :
    (addTotal k n s).store.wf = true ∧
      ∀ x, x < 0x63000 ∨ 0x63030 ≤ x → (addTotal k n s).store.read x = s.store.read x := by
  have hk : k.index < 12 := by cases k <;> decide
  refine ⟨putNum_wf _ _ _ h, fun x hx => read_writeBytes_other _ ?_ h⟩
  rw [leBytes_length]
  unfold totalAddr
  omega

theorem handTotals_elsewhere (h : s.store.wf = true) (r : ChargeRecord) {x : Nat}
    (hx : x < 0x63000 ∨ 0x63030 ≤ x) : (handTotals r s).store.read x = s.store.read x := by
  have step {v : State} (k : Total) (n : Nat)
      (hv : v.store.wf = true ∧ v.store.read x = s.store.read x) :
      (addTotal k n v).store.wf = true ∧ (addTotal k n v).store.read x = s.store.read x :=
    have h1 := addTotal_elsewhere hv.1 k n
    ⟨h1.1, (h1.2 x hx).trans hv.2⟩
  have h1 := step r.outcome.total 1 ⟨h, rfl⟩
  unfold handTotals
  dsimp only
  generalize addTotal r.outcome.total 1 s = v at h1
  split <;> split
  · exact (step _ _ h1).2
  · exact h1.2
  · exact (step _ _ (step _ _ h1)).2
  · exact (step _ _ h1).2

/-- An answer that found a record found the one of a tag. -/
abbrev answerOf (tag : Nat) (s : State) (a : Option CounterAnswer) : Prop :=
  ∀ pos w c, a = some (.found pos w c) → s.find tag = some pos

theorem accessResult_find {tag account pos : Nat} {w : Bool} {c : Counters}
    (h : s.accessResult tag account = .found pos w c) : s.find tag = some pos := by
  unfold State.accessResult at h
  split at h
  · split at h
    · rename_i n hn
      dsimp only at h
      split at h
      · simp only [CounterAnswer.found.injEq] at h
        exact h.1 ▸ hn
      · exact absurd h nofun
    · exact absurd h nofun
  · exact absurd h nofun

theorem writeBack_elsewhere {tag n : Nat} (h : s.store.wf = true) (ha : answerOf tag s a)
    (hx : ¬ ∃ p, s.find tag = some p ∧ 32 * p + 12 ≤ n ∧ n < 32 * p + 32) (k : BillKind)
    (r : ChargeRecord) (p : Price) :
    (writeBack k r p a s).store.wf = true ∧
      (writeBack k r p a s).store.read n = s.store.read n := by
  unfold writeBack
  split
  · rename_i pos w c
    have hlen : ∀ c : Counters, c.bytes.length = 20 := counters_length
    rw [setStore_store, Mem.putCounters]
    refine ⟨writeBytes_wf _ _ h, read_writeBytes_other _ ?_ h⟩
    rw [hlen]
    by_contra hc
    exact hx ⟨pos, ha pos w c rfl, by omega⟩
  · exact ⟨h, rfl⟩

/-- The commit of a record writes its slot, the totals and the counters of one household (R129). -/
theorem bookRequest_elsewhere {tag n : Nat} (h : s.store.wf = true) (ha : answerOf tag s a)
    (hx : ¬ s.commitBytes tag n) (q : BillReq) (r : ChargeRecord) (p : Price) (below : Bool) :
    (bookRequest q r p below a s).store.read n = s.store.read n := by
  obtain ⟨v, hv, e⟩ := bookRequest_eq q r p below a s
  obtain ⟨hslot, htotals, hcounters⟩ : ¬ _ ∧ ¬ _ ∧ ¬ _ := by
    unfold State.commitBytes at hx
    exact ⟨fun k => hx (.inl k), fun k => hx (.inr (.inl k)), fun k => hx (.inr (.inr k))⟩
  obtain ⟨w1, h1⟩ := writeBack_elsewhere h ha hcounters q.kind r p
  have hq : (writeBack q.kind r p a s).queue = s.queue := writeBack_keeps _ keeps_queue.mono _ _ _ _ _
  obtain ⟨w2, h2, -⟩ := recordStore_writes w1 r
  have htail : tailSlot (writeBack q.kind r p a s) =
      slotBase ((s.queue.head + s.queue.count) % 256) := by
    unfold tailSlot
    rw [hq]
  rw [htail] at h2
  have hstore : v.store = recordStore r (writeBack q.kind r p a s) := by
    rw [hv _ keeps_store.mono, commitRecord_eq, setQueue_store, setClock_store, setStore_store]
  rw [← hstore] at w2 h2
  rw [e, countServed_keeps State.store keeps_store.mono, handTotals_elsewhere w2 r (by omega),
    h2 n (by omega), h1]

/-! ### What a commit does besides (R129, R140) -/

theorem testBodyFull_spaced (s : State) : Spaced s (testBodyFull s) := by
  have h : Spaced s (s.setPayload { s.payload with bodyFull := s.bodyFullTest }) := .of_eq rfl rfl
  unfold testBodyFull
  dsimp only
  split
  · exact h.trans (raiseNotice_spaced _ _)
  · exact h

theorem handPayload_spaced (r : ChargeRecord) (s : State) : Spaced s (handPayload r s) := by
  have h (y : Payload) : Spaced s (testBodyFull (s.setPayload y)) :=
    (Spaced.of_eq (s := s) (t := s.setPayload y) rfl rfl).trans (testBodyFull_spaced _)
  unfold handPayload
  split
  · exact h _
  · split
    · exact h _
    · exact .of_eq rfl rfl

theorem bookRequest_spaced (q : BillReq) (r : ChargeRecord) (p : Price) (below : Bool)
    (a : Option CounterAnswer) (s : State) : Spaced s (bookRequest q r p below a s) := by
  have h1 : Spaced s (commitMarker q.holder (commitRecord q.holder r (writeBack q.kind r p a s))) := by
    refine .of_eq ?_ ?_
    · rw [commitMarker_keeps _ keeps_cfg.mono, commitRecord_keeps _ keeps_cfg.mono,
        writeBack_keeps _ keeps_cfg.mono]
    · rw [commitMarker_keeps _ keeps_agent.mono, commitRecord_keeps _ keeps_agent.mono,
        writeBack_keeps _ keeps_agent.mono]
  have h2 (v : State) : Spaced v (countServed a p.capped (handTotals r (handPayload r v))) := by
    refine (handPayload_spaced r v).trans (.of_eq ?_ ?_)
    · rw [countServed_keeps _ keeps_cfg.mono, handTotals_keeps _ keeps_cfg.mono]
    · rw [countServed_keeps _ keeps_agent.mono, handTotals_keeps _ keeps_agent.mono]
  unfold bookRequest
  dsimp only
  split
  · exact (h1.trans (raiseNotice_spaced _ _)).trans (h2 _)
  · exact h1.trans (h2 _)

/-- The retained markers after a record are as its commit leaves them (R140). -/
theorem bookRequest_markers (q : BillReq) (r : ChargeRecord) (p : Price) (below : Bool)
    (a : Option CounterAnswer) (s : State) :
    (bookRequest q r p below a s).markers = (commitMarker q.holder s).markers ∧
    (bookRequest q r p below a s).tailgate = (commitMarker q.holder s).tailgate := by
  have base : ∀ {α : Type} {π : State → α}, Keeps π [.store, .queue, .clock] →
      π (commitRecord q.holder r (writeBack q.kind r p a s)) = π s := fun hk => by
    rw [commitRecord_keeps _ hk.mono, writeBack_keeps _ hk.mono]
  have hm : (commitMarker q.holder (commitRecord q.holder r (writeBack q.kind r p a s))).markers =
      (commitMarker q.holder s).markers := by
    generalize commitRecord q.holder r (writeBack q.kind r p a s) = v at base
    have h : v.markers = s.markers := base keeps_markers.mono
    cases q.holder with
    | station x => exact congrArg (·.set x Marker.clear) h
    | tailgate => exact h
  have ht : (commitMarker q.holder (commitRecord q.holder r (writeBack q.kind r p a s))).tailgate =
      (commitMarker q.holder s).tailgate := by
    generalize commitRecord q.holder r (writeBack q.kind r p a s) = v at base
    have h : v.tailgate = s.tailgate := base keeps_tailgate.mono
    cases q.holder with
    | station x => exact h
    | tailgate => exact congrArg (fun y : Tailgate => { y with marker := .closing }) h
  have tail : ∀ {α : Type} {π : State → α}, Keeps π [.agent, .body, .control, .payload, .store,
      .billing] → π (bookRequest q r p below a s) =
        π (commitMarker q.holder (commitRecord q.holder r (writeBack q.kind r p a s))) := fun hk => by
    unfold bookRequest
    dsimp only
    rw [countServed_keeps _ hk.mono, handTotals_keeps _ hk.mono, handPayload_keeps _ hk.mono]
    split
    · exact raiseNotice_keeps _ hk.mono _ _
    · rfl
  exact ⟨(tail keeps_markers.mono).trans hm, (tail keeps_tailgate.mono).trans ht⟩

theorem bookRequest_keeps {α : Type} {π : State → α} (hk : Keeps π [.agent, .body, .control, .markers,
    .tailgate, .payload, .store, .queue, .clock, .billing]) (q : BillReq) (r : ChargeRecord)
    (p : Price) (below : Bool) (a : Option CounterAnswer) (s : State) :
    π (bookRequest q r p below a s) = π s := by
  obtain ⟨v, hv, e⟩ := bookRequest_eq q r p below a s
  rw [e, countServed_keeps π hk.mono, handTotals_keeps π hk.mono, hv π hk.mono,
    commitRecord_keeps π hk.mono, writeBack_keeps π hk.mono]

theorem reportStation_rests (h : (s.lift x).state ≠ .lower) : reportStation x s =
    settleAssigned (s.setLift x { s.lift x with record := none }) x := by
  have hl : (settleAssigned (s.setLift x { s.lift x with record := none }) x).lift x =
      { s.lift x with record := none } :=
    (congrArg (·.get x) (settleAssigned_keeps _ keeps_lifts.mono _ _)).trans (lift_setLift_self s x _)
  unfold reportStation
  dsimp only
  rw [hl, if_neg (by simp [h])]

/-! ### A station's request at a free engine (R127, R129) -/

/-- What the commit of a station's record leaves, out of Lower. -/
structure Served (x : Station) (tag : Nat) (s t : State) : Prop where
  lift : t.lift x = { s.lift x with record := none }
  others : ∀ y, y ≠ x → t.lift y = s.lift y
  marker : t.marker x = Marker.clear
  markers : ∀ y, y ≠ x → t.marker y = s.marker y
  count : t.queue.count = s.queue.count + 1
  held : t.queue.holds (.station x) = false
  bytes : s.store.wf = true → ∀ n, ¬ s.commitBytes tag n → t.store.read n = s.store.read n
  spaced : Spaced s t
  tailgate : t.tailgate = s.tailgate
  kept : ∀ {α : Type} {π : State → α}, Keeps π [.agent, .body, .control, .markers, .tailgate, .payload,
    .store, .queue, .clock, .billing, .table, .lifts, .tags] → π t = π s

theorem finishRequest_served {tag : Nat} (hx : q.holder = .station x) (hl : (s.lift x).state ≠ .lower)
    (ha : answerOf tag s a) (r : ChargeRecord) (p : Price) (below : Bool) :
    Served x tag s (finishRequest q r p below a s) := by
  obtain ⟨hm, ht⟩ := bookRequest_markers q r p below a s
  obtain ⟨-, -, -, -, hcount, hheld⟩ := bookRequest_frame q r p below a s
  have hspaced := bookRequest_spaced q r p below a s
  have hbytes := fun h n hx => bookRequest_elsewhere (n := n) h ha hx q r p below
  have keep : ∀ {α : Type} {π : State → α}, Keeps π [.agent, .body, .control, .markers, .tailgate,
      .payload, .store, .queue, .clock, .billing] → π (bookRequest q r p below a s) = π s :=
    fun hk => bookRequest_keeps hk q r p below a s
  unfold finishRequest
  rw [hx] at *
  show Served x tag s (reportStation x (bookRequest q r p below a s))
  generalize bookRequest q r p below a s = v at *
  have hlift (y : Station) : v.lift y = s.lift y := congrArg (·.get y) (keep keeps_lifts.mono)
  rw [reportStation_rests (hlift x ▸ hl)]
  have rest : ∀ {α : Type} {π : State → α}, Keeps π [.tags] →
      π (settleAssigned (v.setLift x { v.lift x with record := none }) x) =
        π (v.setLift x { v.lift x with record := none }) := fun hk => settleAssigned_keeps _ hk _ _
  refine ⟨?_, fun y hy => ?_, ?_, fun y hy => ?_, ?_, ?_, fun h n hn => ?_, ?_, ?_, fun hk => ?_⟩
  · exact (congrArg (·.get x) (rest keeps_lifts.mono)).trans ((lift_setLift_self _ _ _).trans
      (by rw [hlift]))
  · exact (congrArg (·.get y) (rest keeps_lifts.mono)).trans ((lift_setLift_other hy _ _).trans (hlift y))
  · exact (congrArg (·.get x) (rest keeps_markers.mono)).trans
      ((congrArg (·.get x) hm).trans ((tri_get_set _ _ _ _).trans (if_pos rfl)))
  · exact (congrArg (·.get y) (rest keeps_markers.mono)).trans
      ((congrArg (·.get y) hm).trans (tri_get_set_ne hy))
  · rw [rest keeps_queue.mono]
    exact hcount
  · rw [rest keeps_queue.mono]
    exact (congrArg (·.get x) hheld).trans ((tri_get_set _ _ _ _).trans (if_pos rfl))
  · rw [rest keeps_store.mono]
    exact hbytes h n hn
  · exact hspaced.trans (.of_eq (rest keeps_cfg.mono) (rest keeps_agent.mono))
  · exact (rest keeps_tailgate.mono).trans ht
  · rw [rest hk.mono, State.setLift, hk.lifts, keep hk.mono]

/-- The engine's and the table's own fields are not among what `Served` says. -/
theorem Served.of_base {tag : Nat} (h : Served x tag v t) (hf : ∀ n, v.find n = s.find n)
    (hk : ∀ {α : Type} {π : State → α}, Keeps π [.billing, .table] → π v = π s) : Served x tag s t := by
  have hl (y : Station) : v.lift y = s.lift y := congrArg (·.get y) (hk keeps_lifts.mono)
  have hm (y : Station) : v.marker y = s.marker y := congrArg (·.get y) (hk keeps_markers.mono)
  have hq : v.queue = s.queue := hk keeps_queue.mono
  have hst : v.store = s.store := hk keeps_store.mono
  refine ⟨hl x ▸ h.lift, fun y hy => (h.others y hy).trans (hl y), h.marker,
    fun y hy => (h.markers y hy).trans (hm y), hq ▸ h.count, h.held, fun hw n hn => ?_,
    (Spaced.of_eq (hk keeps_cfg.mono) (hk keeps_agent.mono)).trans h.spaced,
    h.tailgate.trans (hk keeps_tailgate.mono), fun hp => (h.kept hp).trans (hk hp.mono)⟩
  rw [← hst]
  refine h.bytes (hst ▸ hw) n fun hc => hn ?_
  unfold State.commitBytes at hc ⊢
  rwa [hf, hq] at hc

/-- A counter access is for the household whose tag the request carries (R136). -/
theorem access_tag {k : BillKind} {h : Household} (e : k.access = some h) : h.tag = k.tag := by
  have hlift : ∀ r : LiftRecord, r.household = some h → h.tag = r.tag.getD 0 := fun r e => by
    obtain ⟨sn, -, rfl⟩ := Option.map_eq_some_iff.mp e
    rfl
  cases k with
  | charge r => exact hlift r e
  | fault r inc =>
    cases inc with
    | true => exact hlift r e
    | false => exact absurd e nofun
  | start m inc =>
    cases inc with
    | true =>
      have e : m.household = some h := e
      unfold Marker.household at e
      split at e
      · exact absurd e nofun
      · exact (Option.some.inj e) ▸ rfl
    | false => exact absurd e nofun
  | unload => exact absurd e nofun

/-- A station's request at a free engine, with no move to wait for. -/
theorem makeRequest_served (hw : s.billing.waiting = none) (hb : s.billing.list = [])
    (hm : s.table.moving = false) (hx : q.holder = .station x)
    (hl : (s.lift x).state ≠ .lower) : Served x q.kind.tag s (makeRequest q s) := by
  rw [makeRequest_serves hw hb]
  unfold serveHead
  dsimp only
  split
  · rw [completeRequest_eq]
    refine Served.of_base (finishRequest_served hx ?_ ?_ _ _ _) (fun _ => ?_) fun hk => ?_
    · exact hl
    · exact fun _ _ _ e => absurd e nofun
    · rfl
    · simp only [hk.billing]
  · rename_i h hh
    rw [if_neg (by rw [setBilling_table, hm]; decide)]
    unfold answerCounter
    rw [completeRequest_eq]
    refine Served.of_base (finishRequest_served hx ?_ ?_ _ _ _) (fun _ => ?_) fun hk => ?_
    · exact hl
    · rw [← access_tag hh]
      exact fun _ _ _ e => accessResult_find (Option.some.inj e)
    · rfl
    · simp only [hk.billing, countAccess_keeps _ hk.mono]

/-! ### A station's Fault (R65) -/

/-- A station as it enters Fault, before its Fault is counted. -/
def Lift.halted (l : Lift) : Lift :=
  { l with state := .fault, paused := false, wait := .none, sub := .none, chargePending := false
           phaseTimer := .stopped, pauseTimer := .stopped, holdTimer := .stopped, seqTimer := .stopped }

theorem beforeFaultRequest_halted (x : Station) (s : State) :
    (beforeFaultRequest x s).lift x = Lift.halted (s.lift x) := by
  have hself : (s.setLift x (Lift.halted (s.lift x))).lift x = Lift.halted (s.lift x) :=
    lift_setLift_self s x _
  unfold beforeFaultRequest
  rw [show ∀ old v, (faultWeighing old x v).lift x = v.lift x from fun old v =>
    congrArg (·.get x) (faultWeighing_keeps _ keeps_lifts.mono old x v)]
  exact (releaseRequest_unpaused (s := s.setLift x (Lift.halted (s.lift x))) (by rw [hself]; rfl)
    (by rw [hself]; rfl)).trans hself

/-- What the release of a halted station's request leaves of the other functions. -/
theorem beforeFaultRequest_others (x : Station) (s : State) :
    (∀ y, y ≠ x → ((beforeFaultRequest x s).lift y).unpaced = (s.lift y).unpaced) ∧
    (beforeFaultRequest x s).packer.unpaced = s.packer.unpaced ∧
    (beforeFaultRequest x s).tailgate.unpaced = s.tailgate.unpaced := by
  have hw : ∀ {α : Type} {π : State → α}, Keeps π [.weigh] → ∀ v, π (faultWeighing (s.lift x).state x v) =
      π v := fun hk v => faultWeighing_keeps _ hk _ x v
  obtain ⟨h1, h2, h3⟩ := releaseRequest_unpaced (.station x) (s.setLift x (Lift.halted (s.lift x)))
  refine ⟨fun y hy => ?_, ?_, ?_⟩
  · refine (congrArg (fun f : Tri Lift => (f.get y).unpaced) (hw keeps_lifts.mono _)).trans ((h1 y).trans ?_)
    rw [lift_setLift_other hy]
  · exact (congrArg Packer.unpaced (hw keeps_packer.mono _)).trans h2
  · exact (congrArg Tailgate.unpaced (hw keeps_tailgate.mono _)).trans h3

theorem beforeFaultRequest_grant (h : s.request (.station x) ≠ none) :
    (beforeFaultRequest x s).grant (.station x) = 0 := by
  unfold beforeFaultRequest State.grant
  rw [faultWeighing_keeps _ keeps_arbiter.mono]
  exact releaseRequest_grant (s := s.setLift x (Lift.halted (s.lift x))) h

/-- What a fault request leaves of the part around it, whether or not there is one to make (R65). -/
structure Claimed (x : Station) (s t : State) : Prop where
  lift : ∃ r, t.lift x = { s.lift x with record := r }
  others : ∀ y, y ≠ x → t.lift y = s.lift y ∧ t.marker y = s.marker y
  packer : t.packer = s.packer
  tailgate : t.tailgate = s.tailgate
  arbiter : t.arbiter = s.arbiter
  spaced : Spaced s t

theorem Claimed.refl (x : Station) (s : State) : Claimed x s s :=
  ⟨⟨_, rfl⟩, fun _ _ => ⟨rfl, rfl⟩, rfl, rfl, rfl, .of_eq rfl rfl⟩

/-- No request to make: the lift has no record, or the Billing Engine has its request. -/
def LiftSettled (x : Station) (s : State) : Prop :=
  (s.lift x).record = none ∨ ∃ r, (s.lift x).record = some r ∧ r.requested = true

theorem faultRequest_settled (h : LiftSettled x s) : faultRequest x s = s := by
  rw [faultRequest_eq]
  rcases h with h | ⟨r, h, hr⟩
  · rw [h]
  · rw [h]
    exact if_pos hr

/-- The Billing Engine is Free, its list is empty and no move is on. -/
structure BillsAtOnce (s : State) : Prop where
  list : s.billing.list = []
  waiting : s.billing.waiting = none
  moving : s.table.moving = false

/-- The request of a lift that a Fault ends is made and served at once. -/
theorem faultRequest_served (hb : BillsAtOnce s) (hl : (s.lift x).state ≠ .lower) {r : LiftRecord}
    (h : (s.lift x).record = some r) (hr : r.requested = false) :
    Served x (r.tag.getD 0) (s.onRecord x LiftRecord.made) (faultRequest x s) := by
  have hself : (s.onRecord x LiftRecord.made).lift x =
      { s.lift x with record := (s.lift x).record.map LiftRecord.made } := lift_setLift_self s x _
  rw [faultRequest_eq, h]
  simp only [hr, Bool.false_eq_true, if_false]
  exact makeRequest_served (s := s.onRecord x LiftRecord.made)
    (q := ⟨.station x, .fault r r.reachedDump⟩) hb.waiting hb.list hb.moving rfl
    (by rw [hself]; exact hl)

theorem faultRequest_claimed (hb : BillsAtOnce s) (hl : (s.lift x).state ≠ .lower) :
    Claimed x s (faultRequest x s) := by
  by_cases h : LiftSettled x s
  · rw [faultRequest_settled h]
    exact .refl x s
  · unfold LiftSettled at h
    push Not at h
    obtain ⟨r, hr⟩ := Option.ne_none_iff_exists'.mp h.1
    have k := faultRequest_served hb hl hr (Bool.eq_false_iff.mpr (h.2 r hr))
    have hself : (s.onRecord x LiftRecord.made).lift x =
        { s.lift x with record := (s.lift x).record.map LiftRecord.made } := lift_setLift_self s x _
    have hmade : Spaced s (s.onRecord x LiftRecord.made) := .of_eq rfl rfl
    refine ⟨⟨none, k.lift.trans (by rw [hself])⟩, fun y hy => ⟨(k.others y hy).trans ?_, k.markers y hy⟩,
      k.kept keeps_packer.mono, k.tailgate, k.kept keeps_arbiter.mono,
      hmade.trans k.spaced⟩
    exact lift_setLift_other hy _ _

/-- A station that faults with the Billing Engine at rest (R65, R196). -/
structure Halted (x : Station) (c : StationFault) (s t : State) : Prop where
  lift : ∃ r, t.lift x = { Lift.halted (s.lift x) with
    record := r, faults := bump (s.lift x).faults, lastFault := some c }
  request : t.request (.station x) = none
  grant : s.request (.station x) ≠ none → t.grant (.station x) = 0
  noticed : s.noticed t Notice.stationFault.bit
  commits : ∀ r, (s.lift x).record = some r → r.requested = false →
    t.queue.count = s.queue.count + 1 ∧ t.queue.holds (.station x) = false ∧
    (t.lift x).record = none ∧ (t.marker x).furthest = .clear ∧
    (s.store.wf = true → ∀ n, ¬ s.commitBytes (r.tag.getD 0) n → t.store.read n = s.store.read n)
  stands : LiftSettled x s → t.store = s.store ∧ t.queue = s.queue ∧ t.markers = s.markers
  others : ∀ y, y ≠ x → (t.lift y).unpaced = (s.lift y).unpaced ∧ t.marker y = s.marker y
  packer : t.packer.unpaced = s.packer.unpaced
  tailgate : t.tailgate.unpaced = s.tailgate.unpaced

theorem haltStation_halted (hb : BillsAtOnce s) (c : StationFault) :
    Halted x c s (haltStation x c s) := by
  have hlift := beforeFaultRequest_halted x s
  obtain ⟨hothers, hpacker, htailgate⟩ := beforeFaultRequest_others x s
  have hgrant := beforeFaultRequest_grant (x := x) (s := s)
  obtain ⟨-, -, -, -, hrequest⟩ := beforeFaultRequest_lift x s
  have keep1 : ∀ {α : Type} {π : State → α}, Keeps π [.arb, .lifts, .arbiter, .weigh] →
      π (beforeFaultRequest x s) = π s := fun hk => beforeFaultRequest_keeps _ hk x s
  rw [haltStation_eq]
  generalize beforeFaultRequest x s = v at *
  have hbill : v.billing = s.billing := keep1 keeps_billing.mono
  have hq : v.queue = s.queue := keep1 keeps_queue.mono
  have hst : v.store = s.store := keep1 keeps_store.mono
  have htb : v.table = s.table := keep1 keeps_table.mono
  have hb' : BillsAtOnce v := ⟨hbill ▸ hb.list, hbill ▸ hb.waiting, htb ▸ hb.moving⟩
  have hout : (v.lift x).state ≠ .lower := by rw [hlift]; exact nofun
  have hrec : (v.lift x).record = (s.lift x).record := by rw [hlift]; rfl
  have hsv : Spaced s v := .of_eq (keep1 keeps_cfg.mono) (keep1 keeps_agent.mono)
  have hc := faultRequest_claimed hb' hout
  have hserved := fun r h => faultRequest_served (r := r) hb' hout h
  have hstands := faultRequest_settled (x := x) (s := v)
  generalize faultRequest x v = w at *
  have keep2 : ∀ {α : Type} {π : State → α}, Keeps π [.agent, .body, .control, .lifts] →
      π (afterFaultRequest x c w) = π w := fun hk => afterFaultRequest_keeps _ hk x c w
  have hlifts (y : Station) : (afterFaultRequest x c w).lift y = (w.setLift x { w.lift x with
      faults := bump (w.lift x).faults, lastFault := some c }).lift y :=
    congrArg (·.get y) (raiseNotice_keeps _ keeps_lifts.mono _ _)
  have hmark (y : Station) : (afterFaultRequest x c w).marker y = w.marker y :=
    congrArg (·.get y) (keep2 keeps_markers.mono)
  have harb : (afterFaultRequest x c w).arbiter = v.arbiter := (keep2 keeps_arbiter.mono).trans hc.arbiter
  obtain ⟨r0, hr0⟩ := hc.lift
  have hself : (afterFaultRequest x c w).lift x = { Lift.halted (s.lift x) with
      record := r0, faults := bump (s.lift x).faults, lastFault := some c } := by
    rw [hlifts, lift_setLift_self, hr0, hlift]
    rfl
  refine ⟨⟨r0, hself⟩, (requests_congr harb _).trans hrequest, fun h => ?_, ?_, fun r h hr => ?_,
    fun h => ?_, fun y hy => ⟨?_, ?_⟩, ?_, ?_⟩
  · unfold State.grant at hgrant ⊢
    rw [harb]
    exact hgrant h
  · have hw : Spaced w (w.setLift x { w.lift x with
        faults := bump (w.lift x).faults, lastFault := some c }) := .of_eq rfl rfl
    exact raiseNotice_noticed_after ((hsv.trans hc.spaced).trans hw) .stationFault
  · have k := hserved r (hrec.trans h) hr
    have hk := keep2 keeps_queue.mono
    refine ⟨?_, ?_, ?_, ?_, fun hw n hn => ?_⟩
    · rw [hk, ← hq]
      exact k.count
    · rw [hk]
      exact k.held
    · rw [hlifts, lift_setLift_self]
      exact congrArg Lift.record k.lift
    · rw [hmark, k.marker]
      rfl
    · rw [keep2 keeps_store.mono, ← hst]
      refine k.bytes (hst ▸ hw) n fun e => hn ?_
      unfold State.commitBytes State.find at e ⊢
      rw [← hq, ← hst, ← htb]
      exact e
  · have e : w = v := hstands (by unfold LiftSettled at h ⊢; rwa [hrec])
    rw [keep2 keeps_store.mono, keep2 keeps_queue.mono, keep2 keeps_markers.mono, e]
    exact ⟨hst, hq, keep1 keeps_markers.mono⟩
  · rw [hlifts, lift_setLift_other hy, (hc.others y hy).1]
    exact hothers y hy
  · rw [hmark, (hc.others y hy).2]
    exact congrArg (·.get y) (keep1 keeps_markers.mono)
  · rw [keep2 keeps_packer.mono, hc.packer]
    exact hpacker
  · rw [keep2 keeps_tailgate.mono, hc.tailgate]
    exact htailgate

/-- No pack is pending as a station leaves Dump (R166). -/
theorem stationFault_eq (h : (haltStation x cause s).packer.packPending = false) :
    stationFault x cause s = haltStation x cause s := by
  unfold stationFault
  split
  · exact Proofs.servePack_idle h
  · rfl

theorem stationFault_halted (hb : BillsAtOnce s) (hp : s.packer.packPending = false)
    (c : StationFault) : Halted x c s (stationFault x c s) := by
  have h := haltStation_halted (x := x) hb c
  rw [stationFault_eq ((congrArg Packer.packPending h.packer).trans hp)]
  exact h

/-- What stands outside the blocks of a served request is not seen to change by those blocks. -/
theorem keeps_rebilled (v : State) : Keeps (fun u => u.rebill v) [.arb, .store, .body, .control, .lifts,
    .markers, .tags, .weigh, .table, .billing, .queue, .arbiter, .channels, .packer, .payload, .tailgate,
    .clock, .agent, .toggles] := by
  have hk : Keeps (fun u => u.rebill v) [.store, .body, .control, .lifts, .markers, .tags, .weigh,
      .table, .billing, .queue, .arbiter, .channels, .packer, .payload, .tailgate, .clock, .agent,
      .toggles] := by
    intro f hf
    cases f <;> first | exact fun _ _ => rfl | exact absurd hf (by decide)
  intro f hf
  cases f with
  | arb => exact arbitrate_keeps _ hk.mono
  | _ => first | exact hk _ (by decide) | exact absurd hf (by decide)

theorem stationFault_rebill (x : Station) (c : StationFault) (s : State) :
    settleToggles (stationFault x c s) = s.rebill (settleToggles (stationFault x c s)) := by
  generalize ht : settleToggles (stationFault x c s) = t
  calc t = (settleToggles (stationFault x c s)).rebill t := by rw [ht]; rfl
    _ = (stationFault x c s).rebill t := settleToggles_keeps _ (keeps_rebilled t).mono _
    _ = s.rebill t := stationFault_keeps _ (keeps_rebilled t).mono x c s

end

/-- Settles O31: with the engine at rest a Fault makes and serves its station's request at once, and no other
function acts. -/
theorem stationTimeouts : Obligations.StationTimeouts := by
  unfold Obligations.StationTimeouts
  intro x e s hlive hwell hlist hwait hmove hpend inFault
  have fails : ∀ (c : Instr) (cause : StationFault),
      exec c s = .next (settleToggles (stationFault x cause (s.reach e))) → inFault c cause := by
    intro c cause hex
    have h : Halted x cause (s.reach e) (stationFault x cause (s.reach e)) :=
      stationFault_halted (s := s.reach e) ⟨hlist, hwait, hmove⟩ hpend cause
    have hframe := stationFault_rebill x cause (s.reach e)
    have hcfg : (stationFault x cause (s.reach e)).cfg = s.cfg := stationFault_keeps _ keeps_cfg.mono _ _ _
    generalize stationFault x cause (s.reach e) = t at *
    obtain ⟨r, hl⟩ := h.lift
    obtain ⟨hn1, hn2⟩ := h.noticed
    rw [hcfg] at hn1
    have hlift : ((settleToggles t).lift x) = _ := hl
    refine ⟨settleToggles t, hex, ?_⟩
    rw [hlift]
    refine ⟨rfl, rfl, rfl, rfl, rfl, rfl, rfl, rfl, h.request, h.grant, hn1, hn2, fun r hr hq => ?_,
      h.stands, h.others, h.packer, h.tailgate, hframe⟩
    obtain ⟨h1, h2, h3, h4, h5⟩ := h.commits r hr hq
    exact ⟨h1, h2, hl ▸ h3, h4, h5 hwell.1⟩
  refine ⟨fun cause hc ht => fails _ _ ?_, fun ht => fails _ _ ?_⟩
  · refine congrArg Host.Outcome.next ((handled_powered hlive.1).trans (congrArg settleToggles ?_))
    unfold phaseExpiry onExpiry
    rw [ht]
    dsimp only
    rw [show ((s.reach e).lift x).state.timeout = some cause from hc]
  · refine congrArg Host.Outcome.next ((handled_powered hlive.1).trans (congrArg settleToggles ?_))
    unfold pauseExpiry onExpiry
    rw [ht]

end Sys2Proof.Proofs

/-! A station leaves Idle by an accepted Cycle Start, and Fault by Recover (O25). -/

namespace Sys2Proof.Proofs

open Sys2Proof Sys2Proof.Machine Sys2Proof.Laws

section

variable {s t u v : State} {x y : Station} {r : LiftRecord}

/-! ### What a station's own phases leave (R54 to R57) -/

/-- A station out of Idle and of Fault. -/
def Underway (l : StationState) : Prop := l ≠ .idle ∧ l ≠ .fault

/-- What names a Lift Record, and that its request is not yet made. -/
def LiftRecord.key (r : LiftRecord) : Nat × Nat × Bool := (r.liftNo, r.start, r.requested)

/-- A station goes on with its lift on the way from `s` to `t`; the other functions stand but for their
pauses and the packer's counts. -/
structure Proceeds (x : Station) (s t : State) : Prop where
  record : (t.lift x).record.map LiftRecord.key = (s.lift x).record.map LiftRecord.key
  state : Underway (s.lift x).state → Underway (t.lift x).state
  marker : (s.marker x).furthest ≠ .clear → (t.marker x).furthest ≠ .clear
  pending : (t.scale x).pendingZero = (s.scale x).pendingZero
  others : ∀ y, y ≠ x → (t.lift y).unpaced = (s.lift y).unpaced ∧ t.marker y = s.marker y
  packer : t.packer.state = s.packer.state
  tailgate : t.tailgate.unpaced = s.tailgate.unpaced

theorem Proceeds.refl (x : Station) (s : State) : Proceeds x s s :=
  ⟨rfl, id, id, rfl, fun _ _ => ⟨rfl, rfl⟩, rfl, rfl⟩

theorem Proceeds.trans (h : Proceeds x s t) (k : Proceeds x t u) : Proceeds x s u where
  record := k.record.trans h.record
  state e := k.state (h.state e)
  marker e := k.marker (h.marker e)
  pending := k.pending.trans h.pending
  others y hy := ⟨(k.others y hy).1.trans (h.others y hy).1, (k.others y hy).2.trans (h.others y hy).2⟩
  packer := k.packer.trans h.packer
  tailgate := k.tailgate.trans h.tailgate

theorem Proceeds.of_keeps (h : ∀ {α : Type} {π : State → α}, Keeps π [.agent, .body, .control, .tags,
    .table, .store, .queue] → π t = π s) : Proceeds x s t where
  record := congrArg (fun f : Tri Lift => (f.get x).record.map LiftRecord.key) (h keeps_lifts.mono)
  state := by
    rw [show t.lift x = s.lift x from congrArg (·.get x) (h keeps_lifts.mono)]
    exact id
  marker := by
    rw [show t.marker x = s.marker x from congrArg (·.get x) (h keeps_markers.mono)]
    exact id
  pending := congrArg (fun w : Weigh => (w.st.get x).pendingZero) (h keeps_weigh.mono)
  others y _ := ⟨congrArg (fun f : Tri Lift => (f.get y).unpaced) (h keeps_lifts.mono),
    congrArg (·.get y) (h keeps_markers.mono)⟩
  packer := congrArg Packer.state (h keeps_packer.mono)
  tailgate := congrArg Tailgate.unpaced (h keeps_tailgate.mono)

theorem setLift_proceeds {l : Lift}
    (hr : l.record.map LiftRecord.key = (s.lift x).record.map LiftRecord.key)
    (hs : Underway (s.lift x).state → Underway l.state) : Proceeds x s (s.setLift x l) := by
  have hl := lift_setLift_self s x l
  refine ⟨?_, ?_, id, rfl, fun y hy => ⟨?_, rfl⟩, rfl, rfl⟩
  · rw [hl]
    exact hr
  · rw [hl]
    exact hs
  · rw [lift_setLift_other hy]

theorem onRecord_proceeds (x : Station) (s : State) {f : LiftRecord → LiftRecord}
    (hf : ∀ r, LiftRecord.key (f r) = LiftRecord.key r := by exact fun _ => rfl) :
    Proceeds x s (s.onRecord x f) := by
  refine setLift_proceeds ?_ id
  show ((s.lift x).record.map f).map LiftRecord.key = _
  rw [Option.map_map]
  exact congrArg (fun g => (s.lift x).record.map g) (funext hf)

theorem setScale_proceeds {w : WeighStation} (h : w.pendingZero = (s.scale x).pendingZero) :
    Proceeds x s (s.setScale x w) :=
  ⟨rfl, id, id, (congrArg WeighStation.pendingZero (scale_setScale s x w)).trans h,
    fun _ _ => ⟨rfl, rfl⟩, rfl, rfl⟩

theorem writeMarker_proceeds {f : Furthest} (hf : f ≠ .clear ∨ f = (s.marker x).furthest) :
    Proceeds x s (writeMarker x f s) := by
  unfold writeMarker
  split
  · rename_i r hr
    refine ⟨rfl, id, fun h => ?_, rfl, fun y hy => ⟨rfl, tri_get_set_ne hy⟩, rfl, rfl⟩
    have hm : (s.setMarker x (r.marker f)).marker x = r.marker f :=
      (tri_get_set _ _ _ _).trans (if_pos rfl)
    rw [hm, marker_furthest]
    exact hf.elim id fun e => e ▸ h
  · exact .refl x s

theorem unpaced_state : Unpaced Lift.state := fun _ _ _ _ _ => (paced_core _ _ _ _ _).1

theorem unpaced_record : Unpaced Lift.record := fun _ _ _ _ l =>
  have ⟨_, _, _, _, h, _⟩ := paced_core _ _ _ _ l
  h

theorem arbitrate_proceeds (a : Arbiter) (x : Station) (s : State) :
    Proceeds x s (arbitrate (s.setArbiter a)) where
  record := arbitrate_lift (fun l => l.record.map LiftRecord.key)
    (fun now limit r g l => congrArg (Option.map LiftRecord.key) (unpaced_record now limit r g l)) _ _
  state := by
    rw [arbitrate_lift Lift.state unpaced_state]
    exact id
  marker := by
    rw [show (arbitrate (s.setArbiter a)).marker x = s.marker x from
      congrArg (·.get x) (arbitrate_keeps State.markers keeps_markers.mono _)]
    exact id
  pending := by
    rcases arbitrate_scale (s.setArbiter a) x with e | e <;> rw [e] <;> rfl
  others y _ := ⟨arbitrate_lift Lift.unpaced paced_unpaced _ _,
    congrArg (·.get y) (arbitrate_keeps State.markers keeps_markers.mono (s.setArbiter a))⟩
  packer := arbitrate_packer_state _
  tailgate := arbitrate_tailgate Tailgate.unpaced tailgate_paced_unpaced _

theorem newRequest_proceeds (ph : FlowPhase) (x : Station) (s : State) :
    Proceeds x s (newRequest (.station x) ph s) := arbitrate_proceeds _ x s

theorem raiseRequest_proceeds (x : Station) (s : State) : Proceeds x s (raiseRequest x s) := by
  unfold raiseRequest
  split
  · exact arbitrate_proceeds _ x s
  · exact arbitrate_proceeds _ x s

theorem releaseRequest_proceeds (x : Station) (s : State) :
    Proceeds x s (releaseRequest (.station x) s) := by
  unfold releaseRequest
  split
  · exact arbitrate_proceeds _ x s
  · exact .refl x s

theorem countDump_proceeds (x : Station) (s : State) : Proceeds x s (countDump s) := by
  obtain ⟨p, hp, hstate, -⟩ := countDump_sets s
  rw [hp]
  exact ⟨rfl, id, id, rfl, fun _ _ => ⟨rfl, rfl⟩, hstate, rfl⟩

theorem enterDump_proceeds (x : Station) (s : State) : Proceeds x s (enterDump x s) := by
  have h1 : Proceeds x s (s.onRecord x dumpReached) := onRecord_proceeds x s
  have h2 : Proceeds x s (tipping x s) := by
    refine (h1.trans (writeMarker_proceeds (f := .dumped) (.inl nofun))).trans ?_
    exact setLift_proceeds rfl fun _ => ⟨nofun, nofun⟩
  rw [enterDump_eq]
  exact (h2.trans (countDump_proceeds x _)).trans (newRequest_proceeds .dump x _)

theorem bladeTest_proceeds (x : Station) (s : State) : Proceeds x s (bladeTest x s) := by
  unfold bladeTest
  split
  · exact enterDump_proceeds x s
  · exact setLift_proceeds rfl id

theorem decideHold_proceeds (x : Station) (s : State) : Proceeds x s (decideHold x s) := by
  cases h : (s.lift x).record with
  | none =>
    unfold decideHold
    rw [h]
    exact .refl x s
  | some r =>
    cases hk : holdWait s.cfg r with
    | some k =>
      rw [(decideHold_waits h hk).1]
      exact setLift_proceeds rfl id
    | none =>
      rw [decideHold_enters h hk]
      exact (onRecord_proceeds x s (f := admitted)).trans (bladeTest_proceeds x _)

theorem fixGross_proceeds (x : Station) (s : State) : Proceeds x s (fixGross x s) := by
  have leave (v : State) : Proceeds x v (leaveWeighing x v) := setScale_proceeds rfl
  unfold fixGross
  dsimp only
  split
  · exact Proceeds.trans (onRecord_proceeds x s) (leave _)
  · split
    · refine Proceeds.trans (Proceeds.trans (setScale_proceeds ?_) (onRecord_proceeds x _)) (leave _)
      unfold countLow
      split <;> rfl
    · exact Proceeds.trans (Proceeds.trans (setScale_proceeds (by rfl)) (onRecord_proceeds x _)) (leave _)

theorem endRaise_proceeds (x : Station) (s : State) : Proceeds x s (endRaise x s) := by
  have h1 : Proceeds x s (holding x s) := by
    unfold holding
    have h2 := (fixGross_proceeds x s).trans (writeMarker_proceeds (f := .raised) (.inl nofun))
    generalize writeMarker x .raised (fixGross x s) = v at *
    have h3 : Proceeds x v (v.setLift x { v.lift x with phaseTimer := .stopped }) :=
      setLift_proceeds rfl id
    dsimp only
    generalize v.setLift x { v.lift x with phaseTimer := .stopped } = w at *
    have h4 := (h2.trans h3).trans (releaseRequest_proceeds x w)
    generalize releaseRequest (.station x) w = z at *
    exact h4.trans (setLift_proceeds rfl fun _ => ⟨nofun, nofun⟩)
  exact h1.trans (decideHold_proceeds x (holding x s))

theorem raiseBegun_proceeds (x : Station) (s : State) : Proceeds x s (raiseBegun x s) := by
  have h1 : Proceeds x s (s.setLift x { s.lift x with
      state := .raise, phaseTimer := .running (s.now + s.cfg.raiseLimit x) }) :=
    setLift_proceeds rfl fun _ => ⟨nofun, nofun⟩
  unfold raiseBegun
  generalize s.setLift x _ = v at *
  have h2 : Proceeds x v (enterWeighing x v) := setScale_proceeds rfl
  exact (h1.trans h2).trans (raiseRequest_proceeds x _)

theorem enterRaise_proceeds (x : Station) (s : State) : Proceeds x s (enterRaise x s) := by
  show Proceeds x s (if (raiseBegun x s).stationRole .atTop x then endRaise x (raiseBegun x s)
    else raiseBegun x s)
  split
  · exact (raiseBegun_proceeds x s).trans (endRaise_proceeds x _)
  · exact raiseBegun_proceeds x s

theorem deliverLookup_proceeds (x : Station) (tag : Nat) (res : Found) (s : State) :
    Proceeds x s (deliverLookup x tag res s) := by
  have h1 : Proceeds x s (s.onRecord x fun r => { r with lookupPending := false }) :=
    onRecord_proceeds x s
  have decide (v : State) : Proceeds x v
      (if (v.lift x).state == .hold && (v.lift x).wait == .lookup then decideHold x v else v) := by
    split
    · exact decideHold_proceeds x v
    · exact .refl x v
  unfold deliverLookup
  split
  · exact .refl x s
  · split
    · refine h1.trans (Proceeds.trans ?_ (decide _))
      split
      · exact (onRecord_proceeds x _).trans (writeMarker_proceeds (.inr rfl))
      · exact .refl x _
    · exact .refl x s

theorem askLookup_proceeds (x : Station) (tag : Nat) (s : State) :
    Proceeds x s (askLookup x tag s) := by
  have h1 : Proceeds x s (s.onRecord x fun r => { r with lookupPending := true }) :=
    onRecord_proceeds x s
  unfold askLookup
  dsimp only
  generalize s.onRecord x (fun r => { r with lookupPending := true }) = v at *
  split
  · exact h1.trans (.of_keeps fun hk => waitLookup_keeps _ hk.mono x tag v)
  · have h2 : Proceeds x v (countLookup (v.lookupResult tag) v) :=
      .of_keeps fun hk => countLookup_keeps _ hk.mono _ v
    exact (h1.trans h2).trans (deliverLookup_proceeds x tag _ _)

theorem endEngage_proceeds (x : Station) (s : State) : Proceeds x s (endEngage x s) := by
  have h1 : Proceeds x s (assignTag x s).2 := .of_keeps fun hk => assignTag_keeps _ hk.mono x s
  have tail (v : State) : Proceeds x v (enterRaise x (writeMarker x .engaged v)) :=
    (writeMarker_proceeds (f := .engaged) (.inl nofun)).trans (enterRaise_proceeds x _)
  unfold endEngage
  generalize assignTag x s = p at *
  obtain ⟨a, v⟩ := p
  have h1 : Proceeds x s v := h1
  cases a with
  | assigned tag =>
    exact ((h1.trans (onRecord_proceeds x v)).trans
      (askLookup_proceeds x tag _)).trans (tail _)
  | ambiguous => exact (h1.trans (onRecord_proceeds x v)).trans (tail _)
  | none => exact h1.trans (tail _)

theorem cancelCapture_proceeds (x : Station) (s : State) : Proceeds x s (cancelCapture x s) := by
  unfold cancelCapture
  split
  · have h (v : State) : Proceeds x v (raiseNotice .zeroDone v) :=
      .of_keeps fun hk => raiseNotice_keeps _ hk.mono _ _
    exact Proceeds.trans (setScale_proceeds (by rfl)) (h _)
  · exact .refl x s

/-! ### An accepted start (R48) -/

/-- The Lift Record that an accepted start fills (R48 step 2). -/
def firstRecord (s : State) : LiftRecord :=
  LiftRecord.fresh ((addTotal .liftsStarted 1 s).total .liftsStarted) s.clock.seconds

/-- A station as an accepted start leaves it before it enters Engage (R48 steps 1 to 4). -/
def startTaken (x : Station) (s : State) : State :=
  let v := addTotal .liftsStarted 1 (reserve (.station x) s)
  applyPendingZero x (writeMarker x .started
    (v.setLift x { v.lift x with record := some (firstRecord s) }))

theorem acceptStart_eq (x : Station) (s : State) :
    acceptStart x s = enterEngage x (startTaken x s) := rfl

theorem startTaken_keeps {α : Type} {π : State → α}
    (hk : Keeps π [.lifts, .store, .queue, .markers, .weigh, .zeros]) (x : Station) (s : State) :
    π (startTaken x s) = π s := by
  unfold startTaken
  dsimp only
  rw [applyPendingZero_keeps π hk.mono, writeMarker_keeps π hk.mono, State.setLift, hk.lifts,
    addTotal_keeps π hk.mono, reserve_keeps π hk.mono]

/-- What an accepted start writes at once (R47, R48, R70, R104, R139). -/
structure StartTaken (x : Station) (s t : State) : Prop where
  lift : t.lift x = { s.lift x with record := some (firstRecord s) }
  marker : t.marker x = (firstRecord s).marker .started
  others : ∀ y, y ≠ x → t.lift y = s.lift y ∧ t.marker y = s.marker y ∧ t.zero y = s.zero y
  zero : (t.zero x).za = ((s.scale x).pendingZero).getD (s.zero x).za
  pending : (t.scale x).pendingZero = none
  capture : (t.scale x).capture = (s.scale x).capture
  queue : t.queue = s.queue.setHeld (.station x) true
  store : t.store = (addTotal .liftsStarted 1 s).store

theorem applyPendingZero_zero (x : Station) (s : State) :
    ((applyPendingZero x s).zero x).za = ((s.scale x).pendingZero).getD (s.zero x).za ∧
    ((applyPendingZero x s).scale x).pendingZero = none ∧
    ((applyPendingZero x s).scale x).capture = (s.scale x).capture ∧
    ∀ y, y ≠ x → (applyPendingZero x s).zero y = s.zero y := by
  unfold applyPendingZero
  cases h : (s.scale x).pendingZero with
  | none => exact ⟨rfl, h, rfl, fun _ _ => rfl⟩
  | some z =>
    dsimp only
    have hz : (s.zeros.set x { s.zero x with za := z }).get x = { s.zero x with za := z } :=
      (tri_get_set _ _ _ _).trans (if_pos rfl)
    have hs : ∀ v : State, (v.setScale x { v.scale x with pendingZero := none }).scale x =
      { v.scale x with pendingZero := none } := fun v => scale_setScale v x _
    refine ⟨congrArg Zero.za hz, ?_, ?_, fun y hy => tri_get_set_ne hy⟩
    · rw [hs]
    · rw [hs]
      rfl

theorem startTaken_taken (x : Station) (s : State) : StartTaken x s (startTaken x s) := by
  unfold startTaken
  dsimp only
  generalize hv : addTotal .liftsStarted 1 (reserve (.station x) s) = v
  have keep : ∀ {α : Type} {π : State → α}, Keeps π [.store, .queue] → π v = π s := fun hk => by
    rw [← hv, addTotal_keeps _ hk.mono, reserve_keeps _ hk.mono]
  have hl (y : Station) : v.lift y = s.lift y := congrArg (·.get y) (keep keeps_lifts.mono)
  have hself := lift_setLift_self v x { v.lift x with record := some (firstRecord s) }
  have hother {y : Station} (hy : y ≠ x) :=
    lift_setLift_other hy v { v.lift x with record := some (firstRecord s) }
  have base : ∀ {α : Type} {π : State → α}, Keeps π [.lifts] →
      π (v.setLift x { v.lift x with record := some (firstRecord s) }) = π v := fun hk =>
    hk.lifts rfl _ _
  generalize v.setLift x { v.lift x with record := some (firstRecord s) } = w at *
  have hm := writeMarker_marker (s := w) (x := x) (r := firstRecord s) (by rw [hself]) .started
  have hmo {y : Station} (hy : y ≠ x) := (writeMarker_stands hy .started w).marker
  have mark : ∀ {α : Type} {π : State → α}, Keeps π [.markers] →
      π (writeMarker x .started w) = π w := fun hk => writeMarker_keeps _ hk _ _ _
  generalize writeMarker x .started w = z at *
  have zero : ∀ {α : Type} {π : State → α}, Keeps π [.weigh, .zeros] →
      π (applyPendingZero x z) = π z := fun hk => applyPendingZero_keeps _ hk _ _
  have hscale : z.scale x = s.scale x := congrArg (fun w : Weigh => w.st.get x)
    ((mark keeps_weigh.mono).trans ((base keeps_weigh.mono).trans (keep keeps_weigh.mono)))
  have hzero (y : Station) : z.zero y = s.zero y := congrArg (·.get y)
    ((mark keeps_zeros.mono).trans ((base keeps_zeros.mono).trans (keep keeps_zeros.mono)))
  obtain ⟨z1, z2, z3, z4⟩ := applyPendingZero_zero x z
  refine ⟨?_, ?_, fun y hy => ⟨?_, ?_, (z4 y hy).trans (hzero y)⟩, ?_, z2, ?_, ?_, ?_⟩
  · rw [show (applyPendingZero x z).lift x = w.lift x from
      congrArg (·.get x) ((zero keeps_lifts.mono).trans (mark keeps_lifts.mono)), hself, hl]
  · exact (congrArg (·.get x) (zero keeps_markers.mono)).trans hm
  · rw [show (applyPendingZero x z).lift y = w.lift y from
      congrArg (·.get y) ((zero keeps_lifts.mono).trans (mark keeps_lifts.mono)), hother hy, hl]
  · refine (congrArg (·.get y) (zero keeps_markers.mono)).trans ((hmo hy).trans ?_)
    exact congrArg (·.get y) ((base keeps_markers.mono).trans (keep keeps_markers.mono))
  · rw [z1, hscale, hzero]
  · rw [z3, hscale]
  · rw [zero keeps_queue.mono, mark keeps_queue.mono, base keeps_queue.mono, ← hv,
      addTotal_keeps _ keeps_queue.mono]
    rfl
  · rw [zero keeps_store.mono, mark keeps_store.mono, base keeps_store.mono, ← hv]
    rfl

/-! ### Engage is entered (R51, R54) -/

/-- A station as it leaves Idle, its running Zero Capture cancelled (R106). -/
def engaging (x : Station) (s : State) : State :=
  cancelCapture x (s.setLift x { s.lift x with state := .engage })

theorem engaging_keeps {α : Type} {π : State → α} (hk : Keeps π [.lifts, .body, .control, .weigh, .agent])
    (x : Station) (s : State) : π (engaging x s) = π s := by
  unfold engaging
  rw [cancelCapture_keeps π hk.mono, State.setLift, hk.lifts]

theorem engaging_lift (x : Station) (s : State) :
    (engaging x s).lift x = { s.lift x with state := .engage } :=
  (congrArg (·.get x) (cancelCapture_keeps State.lifts keeps_lifts.mono x _)).trans
    (lift_setLift_self s x _)

theorem engaging_proceeds (x : Station) (s : State) : Proceeds x s (engaging x s) := by
  have h1 : Proceeds x s (s.setLift x { s.lift x with state := .engage }) :=
    setLift_proceeds rfl fun _ => ⟨nofun, nofun⟩
  exact h1.trans (cancelCapture_proceeds x _)

/-- The Side Arm in Engage with its request made, before its end condition is tested. -/
def engageBegun (x : Station) (s : State) : State :=
  newRequest (.station x) .engage ((engaging x s).setLift x { (engaging x s).lift x with
    phaseTimer := .running ((engaging x s).now + (engaging x s).cfg.engageLimit x) })

theorem engageBegun_proceeds (x : Station) (s : State) :
    Proceeds x (engaging x s) (engageBegun x s) := by
  unfold engageBegun
  generalize engaging x s = v
  have h1 : Proceeds x v (v.setLift x { v.lift x with
    phaseTimer := .running (v.now + v.cfg.engageLimit x) }) := setLift_proceeds rfl id
  exact h1.trans (newRequest_proceeds .engage x _)

theorem engageBegun_keeps {α : Type} {π : State → α}
    (hk : Keeps π [.arb, .arbiter, .lifts, .body, .control, .weigh, .agent]) (x : Station) (s : State) :
    π (engageBegun x s) = π s := by
  unfold engageBegun State.setLift
  rw [newRequest_keeps π hk.mono, hk.lifts, engaging_keeps hk.mono]

theorem enterEngage_eq (x : Station) (s : State) : enterEngage x s =
    if x.isSide then
      if (engageBegun x s).stationRole .gripped x then endEngage x (engageBegun x s) else engageBegun x s
    else endEngage x (engaging x s) := rfl

theorem enterEngage_proceeds (x : Station) (s : State) :
    Proceeds x s (enterEngage x s) ∧ Underway ((enterEngage x s).lift x).state := by
  have h1 := engaging_proceeds x s
  have hstate : Underway ((engaging x s).lift x).state := by
    rw [engaging_lift]
    exact ⟨nofun, nofun⟩
  have h2 : Proceeds x (engaging x s) (enterEngage x s) := by
    rw [enterEngage_eq]
    split
    · split
      · exact (engageBegun_proceeds x s).trans (endEngage_proceeds x _)
      · exact engageBegun_proceeds x s
    · exact endEngage_proceeds x _
  exact ⟨h1.trans h2, h2.state hstate⟩

/-- The Side Arm stays in Engage, its arms not yet gripping (R54). -/
theorem enterEngage_side (hg : s.stationRole .gripped .sideArm = false) :
    enterEngage .sideArm s = engageBegun .sideArm s := by
  rw [enterEngage_eq, if_pos (show Station.sideArm.isSide = true from rfl),
    stationRole_congr (engageBegun_keeps keeps_scanner.mono _ s) (engageBegun_keeps keeps_cfg.mono _ s),
    hg]
  rfl

theorem engageBegun_began (x : Station) (s : State) :
    (engageBegun x s).began x .engage (s.cfg.engageLimit x) ∧
    ((engageBegun x s).lift x).state = .engage ∧
    ((engageBegun x s).lift x).record = (s.lift x).record := by
  have hl := engaging_lift x s
  have hc : (engaging x s).cfg = s.cfg := engaging_keeps keeps_cfg.mono x s
  unfold engageBegun
  generalize engaging x s = v at *
  have hself := lift_setLift_self v x { v.lift x with
    phaseTimer := .running (v.now + v.cfg.engageLimit x) }
  have hnow : (v.setLift x { v.lift x with
    phaseTimer := .running (v.now + v.cfg.engageLimit x) }).now = v.now := rfl
  generalize v.setLift x _ = w at *
  refine ⟨newRequest_began (by rw [hself, hnow, hc]) .engage, ?_, ?_⟩
  · refine (arbitrate_lift Lift.state unpaced_state _ x).trans ?_
    show (w.lift x).state = _
    rw [hself, hl]
  · refine (arbitrate_lift Lift.record unpaced_record _ x).trans ?_
    show (w.lift x).record = _
    rw [hself, hl]

/-! ### What an accepted start leaves (R47, R48) -/

/-- An accepted start: its writes, and the phases that follow at once. -/
structure StartAccepted (x : Station) (s t : State) : Prop where
  record : ∃ r, (t.lift x).record = some r ∧ LiftRecord.key r = LiftRecord.key (firstRecord s)
  state : Underway (t.lift x).state
  side : x = .sideArm → (t.lift x).state = .engage ∧ (t.lift x).record = some (firstRecord s) ∧
    t.began x .engage (s.cfg.engageLimit x)
  marker : (t.marker x).furthest ≠ .clear
  queue : t.queue = s.queue.setHeld (.station x) true
  zero : (t.zero x).za = ((s.scale x).pendingZero).getD (s.zero x).za
  pending : (t.scale x).pendingZero = none
  store : t.store = (addTotal .liftsStarted 1 s).store
  others : ∀ y, y ≠ x → (t.lift y).unpaced = (s.lift y).unpaced ∧ t.marker y = s.marker y ∧
    t.zero y = s.zero y
  packer : t.packer.state = s.packer.state
  tailgate : t.tailgate.unpaced = s.tailgate.unpaced

theorem startRefusal_position (h : s.startRefusal x = none) : s.inPosition x = true := by
  unfold State.startRefusal at h
  by_contra hp
  rw [Bool.not_eq_true] at hp
  simp only [hp, Bool.not_false, if_true] at h
  (repeat' split at h) <;> exact absurd h nofun

/-- The Side Arm starts with its arms open (R47 test 5). -/
theorem startTaken_open (h : s.startRefusal .sideArm = none) :
    (startTaken .sideArm s).stationRole .gripped .sideArm = false := by
  have hpos := startRefusal_position h
  rw [stationRole_congr (startTaken_keeps keeps_scanner.mono _ s) (startTaken_keeps keeps_cfg.mono _ s)]
  unfold State.inPosition at hpos
  rw [show Station.sideArm.isSide = true from rfl, Bool.and_eq_true, bne_iff_ne, ne_eq,
    Bool.not_eq_true] at hpos
  exact hpos.2

theorem acceptStart_accepted (h : s.startRefusal x = none) :
    StartAccepted x s (acceptStart x s) := by
  have hT := startTaken_taken x s
  have keep : ∀ {α : Type} {π : State → α}, Keeps π [.lifts, .store, .queue, .markers, .weigh, .zeros] →
      π (startTaken x s) = π s := fun hk => startTaken_keeps hk x s
  have hopen : x = .sideArm → (startTaken x s).stationRole .gripped .sideArm = false := fun hx => by
    subst hx
    exact startTaken_open h
  rw [acceptStart_eq]
  generalize startTaken x s = w at *
  obtain ⟨hP, hstate⟩ := enterEngage_proceeds x w
  have keep2 : ∀ {α : Type} {π : State → α}, Keeps π [.arb, .body, .control, .lifts, .markers, .tags,
      .weigh, .table, .arbiter, .packer, .agent] → π (enterEngage x w) = π w :=
    fun hk => enterEngage_keeps _ hk x w
  have hzero (y : Station) : (enterEngage x w).zero y = w.zero y :=
    congrArg (·.get y) (keep2 keeps_zeros.mono)
  refine ⟨?_, hstate, fun hx => ?_, hP.marker ?_, (keep2 keeps_queue.mono).trans hT.queue,
    (congrArg Zero.za (hzero x)).trans hT.zero, hP.pending.trans hT.pending,
    (keep2 keeps_store.mono).trans hT.store, fun y hy => ?_, ?_, ?_⟩
  · have hr := hP.record
    rw [hT.lift] at hr
    exact Option.map_eq_some_iff.mp hr
  · subst hx
    obtain ⟨h1, h2, h3⟩ := engageBegun_began .sideArm w
    rw [enterEngage_side (hopen rfl)]
    rw [keep keeps_cfg.mono] at h1
    exact ⟨h2, h3.trans (by rw [hT.lift]), h1⟩
  · rw [hT.marker, marker_furthest]
    exact nofun
  · obtain ⟨h1, h2, h3⟩ := hT.others y hy
    exact ⟨(hP.others y hy).1.trans (by rw [h1]), (hP.others y hy).2.trans h2, (hzero y).trans h3⟩
  · exact hP.packer.trans (congrArg Packer.state (keep keeps_packer.mono))
  · exact hP.tailgate.trans (congrArg Tailgate.unpaced (keep keeps_tailgate.mono))

/-- With no Zero Capture to cancel the Side Arm's start sends nothing (R106). -/
theorem acceptStart_quiet (h : s.startRefusal .sideArm = none)
    (hc : (s.scale .sideArm).capture.isRunning = false) :
    (acceptStart .sideArm s).control = s.control ∧ (acceptStart .sideArm s).body = s.body := by
  have hcap := (startTaken_taken .sideArm s).capture
  have h1 := startTaken_keeps keeps_control.mono .sideArm s
  have h2 := startTaken_keeps keeps_body.mono .sideArm s
  rw [acceptStart_eq, enterEngage_side (startTaken_open h)]
  generalize startTaken .sideArm s = w at *
  have he : engaging .sideArm w = w.setLift .sideArm { w.lift .sideArm with state := .engage } := by
    unfold engaging cancelCapture
    exact if_neg (by
      rw [show (w.setLift .sideArm { w.lift .sideArm with state := .engage }).scale .sideArm =
        w.scale .sideArm from rfl, hcap, hc]
      decide)
  unfold engageBegun
  rw [he]
  exact ⟨(newRequest_keeps _ keeps_control.mono _ _ _).trans h1,
    (newRequest_keeps _ keeps_body.mono _ _ _).trans h2⟩

/-! ### Homing is entered (R66) -/

/-- A station as Homing takes it, with its limit running (R51, R66). -/
def homing (x : Station) (s : State) : State :=
  s.setLift x { s.lift x with
    state := .homing, phaseTimer := .running (s.now + s.cfg.homingLimit x) }

theorem setLift_setLift (x : Station) (s : State) (y z : Lift) :
    (s.setLift x y).setLift x z = s.setLift x z :=
  congrArg (State.setLifts s) (by cases x <;> rfl)

theorem enterHoming_away (h : s.atHome x = false) :
    enterHoming x s = newRequest (.station x) .homing (homing x s) := by
  have hh : (s.setLift x { s.lift x with state := .homing }).atHome x = false := h
  unfold enterHoming homing
  dsimp only
  rw [if_neg (by rw [hh]; decide), lift_setLift_self, setLift_setLift]
  rfl

/-- Homing with its request made (R51, R66). -/
theorem homingBegun (x : Station) (s : State) :
    ((newRequest (.station x) .homing (homing x s)).lift x).unpaced =
      { s.lift x with state := .homing }.unpaced ∧
    (newRequest (.station x) .homing (homing x s)).began x .homing (s.cfg.homingLimit x) ∧
    pacedBut [.station x] s (newRequest (.station x) .homing (homing x s)) := by
  have hself : (homing x s).lift x = { s.lift x with
      state := .homing, phaseTimer := .running (s.now + s.cfg.homingLimit x) } := lift_setLift_self _ _ _
  refine ⟨(arbitrate_lift Lift.unpaced paced_unpaced _ _).trans ?_, newRequest_began ?_ _,
    pacedBut_trans (pacedBut_setLift (by simp) s _) (pacedBut_newRequest (by simp) _ _)⟩
  · show ((homing x s).lift x).unpaced = _
    rw [hself]
    rfl
  · rw [hself]
    rfl

theorem homing_reflow (x : Station) (s : State) : newRequest (.station x) .homing (homing x s) =
    s.reflow (newRequest (.station x) .homing (homing x s)) :=
  eq_reflow_of (v := s) (newRequest_keeps _ (keeps_reflowed s).mono _ _ _)

theorem enterHoming_home (h : s.atHome x = true) (hq : s.request (.station x) = none) :
    enterHoming x s = s.setLift x { s.lift x with state := .idle, phaseTimer := .stopped } := by
  have hfree (l : Lift) : releaseRequest (.station x) (s.setLift x l) = s.setLift x l := by
    unfold releaseRequest
    exact if_neg (by rw [show (s.setLift x l).request (.station x) = none from hq]; decide)
  unfold enterHoming endHoming
  dsimp only
  rw [if_pos (show (s.setLift x { s.lift x with state := .homing }).atHome x = true from h),
    lift_setLift_self, setLift_setLift, hfree, lift_setLift_self, setLift_setLift]

theorem recover_accepted (hs : (s.lift x).state = .fault) (hready : s.scanOk = true)
    (hp : s.pairErrorOf (.station x) = false) : recover x s = (.accepted, enterHoming x s) := by
  unfold recover
  rw [hs, hready, hp]
  rfl

end

section

variable {s t v : State} {x : Station}

/-- What an accepted start leaves is not in the blocks of its reply, nor in the toggle outputs. -/
theorem StartAccepted.of_keeps (h : StartAccepted x s v)
    (hk : ∀ {α : Type} {π : State → α}, Keeps π [.body, .control, .toggles] → π t = π v) :
    StartAccepted x s t := by
  have hl (y : Station) : t.lift y = v.lift y := congrArg (·.get y) (hk keeps_lifts.mono)
  have hm (y : Station) : t.marker y = v.marker y := congrArg (·.get y) (hk keeps_markers.mono)
  have hz (y : Station) : t.zero y = v.zero y := congrArg (·.get y) (hk keeps_zeros.mono)
  have hw : t.scale x = v.scale x := congrArg (fun w : Weigh => w.st.get x) (hk keeps_weigh.mono)
  have hq := hk keeps_queue.mono
  have hs := hk keeps_store.mono
  have hp := hk keeps_packer.mono
  have ht := hk keeps_tailgate.mono
  have hb : v.began x .engage (s.cfg.engageLimit x) → t.began x .engage (s.cfg.engageLimit x) := by
    unfold State.began State.request State.flowReq State.grant State.now
    rw [hl, hk keeps_arbiter.mono, hk keeps_cfg.mono, hk keeps_sys.mono]
    exact id
  obtain ⟨h1, h2, h3, h4, h5, h6, h7, h8, h9, h10, h11⟩ := h
  refine ⟨?_, ?_, fun e => ?_, ?_, hq.trans h5, ?_, ?_, hs.trans h8, fun y hy => ?_, ?_, ?_⟩
  · rw [hl]
    exact h1
  · rw [hl]
    exact h2
  · rw [hl]
    exact ⟨(h3 e).1, (h3 e).2.1, hb (h3 e).2.2⟩
  · rw [hm]
    exact h4
  · rw [hz]
    exact h6
  · rw [hw]
    exact h7
  · rw [hl, hm, hz]
    exact h9 y hy
  · rw [hp]
    exact h10
  · rw [ht]
    exact h11

theorem operatorStart_accepted (h : cycleStart .sideArm s = (none, v)) :
    operatorStart .sideArm s = (.accepted, v) := by
  unfold operatorStart
  rw [h]
  rfl

/-- A Cycle Start that no test refuses, from the Start input or from the Side Arm's command (R47, R67). -/
theorem exec_cycleStart_accepted {src : StartSource} (hl : live s)
    (hsrc : src = .input x ∨ ∃ tag, src = .command tag 0 ∧ x = .sideArm)
    (hi : (s.lift x).state = .idle) (h : s.startRefusal x = none) :
    ∃ v, exec (.cycleStart src) s = .next (settleToggles v) ∧
      (∀ {α : Type} {π : State → α}, Keeps π [.body, .control] → π v = π (acceptStart x s)) ∧
      ∀ tag, src = .command tag 0 → v = sendReply 1 tag 0 .accepted (acceptStart x s) := by
  have hacc := cycleStart_accepted hi h
  rcases hsrc with rfl | ⟨tag, rfl, rfl⟩
  · have hf : startFrom (.input x) s = acceptStart x s := congrArg Prod.snd hacc
    refine ⟨acceptStart x s, ?_, fun _ => rfl, nofun⟩
    rw [exec_cycleStart_eq, handled_powered hl.1, hf]
  · have hf : startFrom (.command tag 0) s = sendReply 1 tag 0 .accepted (acceptStart .sideArm s) := by
      refine (stationCommand_of (b := 0) (x := .sideArm) rfl .cycleStart tag operatorStart s).trans ?_
      rw [operatorStart_accepted hacc]
      generalize acceptStart .sideArm s = v
      rfl
    refine ⟨sendReply 1 tag 0 .accepted (acceptStart .sideArm s), ?_,
      fun hk => sendReply_keeps _ hk.mono _ _ _ _ _, fun tag' e => ?_⟩
    · rw [exec_cycleStart_eq, handled_powered hl.1, hf]
    · obtain ⟨rfl, -⟩ := StartSource.command.inj e
      rfl

/-- What stands outside the blocks of an accepted start is not seen to change by them. -/
def startFrame (v u : State) : State :=
  { u.repack v with store := v.store, tags := v.tags, zeros := v.zeros, table := v.table
                    queue := v.queue, payload := u.payload }

theorem keeps_startFrame (v : State) : Keeps (startFrame v) [.arb, .store, .body, .control, .lifts,
    .markers, .tags, .weigh, .zeros, .table, .queue, .arbiter, .channels, .packer, .tailgate, .agent,
    .toggles] := by
  have hk : Keeps (startFrame v) [.store, .body, .control, .lifts, .markers, .tags, .weigh, .zeros,
      .table, .queue, .arbiter, .channels, .packer, .tailgate, .agent, .toggles] := by
    intro f hf
    cases f <;> first | exact fun _ _ => rfl | exact absurd hf (by decide)
  intro f hf
  cases f with
  | arb => exact arbitrate_keeps _ hk.mono
  | _ => first | exact hk _ (by decide) | exact absurd hf (by decide)

theorem started_frame (hv : ∀ {α : Type} {π : State → α}, Keeps π [.body, .control] →
    π v = π (acceptStart x s)) : settleToggles v = startFrame (settleToggles v) s := by
  generalize ht : settleToggles v = t
  calc t = startFrame t (settleToggles v) := by rw [ht]; rfl
    _ = startFrame t v := settleToggles_keeps _ (keeps_startFrame t).mono _
    _ = startFrame t (acceptStart x s) := hv (keeps_startFrame t).mono
    _ = startFrame t s := acceptStart_keeps _ (keeps_startFrame t).mono x s

/-- The reply of a command that is served stands at the tail of the Control Queue (R67). -/
theorem sendReply_control {code : Byte} {tag : BitVec 4} {b : Byte} {r : Reply} (ho : controlOpen v)
    (hs : v.sys = s.sys) (hc : v.cfg = s.cfg) :
    (settleToggles (sendReply code tag b r v)).control =
      v.control ++ [⟨s.replyTo code tag b r, false⟩] := by
  have hreply : v.replyTo code tag b r = s.replyTo code tag b r := by
    simp only [State.replyTo, State.bodyFrame, hs, hc]
  rw [settleToggles_keeps _ keeps_control.mono, ← hreply]
  refine (congrArg State.control (offerControl_open ho)).trans ?_
  exact chooseTx_body_keeps _ keeps_control.mono _

/-- A Recover that passes its tests (R66, R67). -/
theorem exec_recover_accepted {tag : BitVec 4} {b : Byte} (hl : live s) (ho : controlOpen s)
    (hx : Station.ofNum b.toNat = some x) (hs : (s.lift x).state = .fault) (hready : s.scanOk = true)
    (hp : s.pairErrorOf (.station x) = false)
    (hk : ∀ {α : Type} {π : State → α}, Keeps π [.arb, .lifts, .arbiter] → π (enterHoming x s) = π s) :
    exec (.recover tag b) s =
      .next ((settleToggles (enterHoming x s)).offered (s.replyTo 4 tag b .accepted)) := by
  have hf : commandRecover tag b s = sendReply 4 tag b .accepted (enterHoming x s) :=
    (stationCommand_of hx .recover tag recover s).trans (by rw [recover_accepted hs hready hp]; rfl)
  have hopen : controlOpen (enterHoming x s) := by
    unfold controlOpen
    rw [hk keeps_body.mono, hk keeps_control.mono]
    exact ho
  rw [exec_recover_eq, handled_replied hl.1 hf hopen (hk keeps_sys.mono) (hk keeps_cfg.mono)]

end

/-- Settles O25: an accepted start writes its items at once, and the phases that follow go on with its lift
alone; Homing begins, or is over, by the station's position. -/
theorem stationLeavesRest : Obligations.StationLeavesRest := by
  unfold Obligations.StationLeavesRest
  refine ⟨fun src x s hl hw hsrc hi h => ?_, fun x tag b s hl ho hx hs hready hp =>
    ⟨fun hh hq => ?_, fun hh => ?_⟩⟩
  · obtain ⟨v, hex, hkeep, hcmd⟩ := exec_cycleStart_accepted hl hsrc hi h
    have hA := acceptStart_accepted h
    have hB : StartAccepted x s (settleToggles v) := hA.of_keeps fun hk =>
      (settleToggles_keeps _ hk.mono v).trans (hkeep hk.mono)
    have hframe := started_frame hkeep
    obtain ⟨r, hr, hkey⟩ := hB.record
    obtain ⟨hno, hkey⟩ := Prod.mk.inj hkey
    obtain ⟨hstart, hreq⟩ := Prod.mk.inj hkey
    have htotal : r.liftNo = (addTotal .liftsStarted 1 s).total .liftsStarted := hno
    refine ⟨settleToggles v, r, hex, hr, htotal.trans (addTotal_total _ _ hw.1), hstart, hreq,
      hB.state.1, hB.state.2, fun hx => ?_, hB.marker, hB.queue, hB.zero, hB.pending, ?_, fun a ha => ?_,
      hB.others, hB.packer, hB.tailgate, fun tag e ho hc => ?_, hframe⟩
    · obtain ⟨h1, h2, h3⟩ := hB.side hx
      obtain rfl : r = firstRecord s := Option.some.inj (hr.symm.trans h2)
      exact ⟨h1, rfl, h3⟩
    · rw [htotal]
      unfold State.total
      rw [hB.store]
    · rw [hB.store]
      exact addTotal_read hw.1 ha
    · have hside : x = .sideArm := by
        rcases hsrc with k | ⟨_, -, k⟩
        · exact absurd (e.symm.trans k) nofun
        · exact k
      subst hside
      obtain ⟨q1, q2⟩ := acceptStart_quiet h hc
      rw [hcmd tag e, ← q1]
      exact sendReply_control (by unfold controlOpen; rw [q1, q2]; exact ho)
        (acceptStart_keeps _ keeps_sys.mono _ _) (acceptStart_keeps _ keeps_cfg.mono _ _)
  · have he := enterHoming_home hh hq
    have hk : ∀ {α : Type} {π : State → α}, Keeps π [.arb, .lifts, .arbiter] →
        π (enterHoming x s) = π s := fun hk => by rw [he, State.setLift, hk.lifts]
    refine ⟨_, exec_recover_accepted hl ho hx hs hready hp hk, ?_⟩
    rw [offered_keeps State.toggles keeps_toggles.mono, he]
    rfl
  · have he := enterHoming_away hh
    have hk : ∀ {α : Type} {π : State → α}, Keeps π [.arb, .lifts, .arbiter] →
        π (enterHoming x s) = π s := fun hk => by
      rw [he, newRequest_keeps _ hk.mono, homing, State.setLift, hk.lifts]
    obtain ⟨hlift, hbegan, hpaced⟩ := homingBegun x s
    have hframe := reflow_offered (reflow_toggled (homing_reflow x s)) (s.replyTo 4 tag b .accepted)
    refine ⟨_, exec_recover_accepted hl ho hx hs hready hp hk, ?_⟩
    rw [he]
    generalize newRequest (.station x) .homing (homing x s) = w at *
    obtain ⟨p, c, hf⟩ := offered_sets (s.replyTo 4 tag b .accepted) (settleToggles w)
    refine ⟨?_, ?_, ?_, hframe⟩ <;> rw [hf]
    · exact hlift
    · exact hbegan
    · exact hpaced

end Sys2Proof.Proofs

/-! A Warm Start acts on the lift markers and the tailgate's marker (O15). -/

namespace Sys2Proof.Proofs

open Sys2Proof Sys2Proof.Machine Sys2Proof.Laws

section

variable {s t u v w : State} {x y : Station} {q : BillReq} {a : Option CounterAnswer}

/-! ### The markers make their start requests (R72, R144, R176) -/

/-- A marker that shows a lift. -/
def marked (s : State) (x : Station) : Bool := decide ((s.marker x).furthest ≠ .clear)

/-- The start request of a station's marker (R72). -/
def startRequest (s : State) (x : Station) : BillReq :=
  ⟨.station x, .start (s.marker x) (decide ((s.marker x).furthest = .dumped))⟩

/-- The start requests of the stations of a list, in order. -/
def startRequests (s : State) (l : List Station) : List BillReq :=
  (l.filter (marked s)).map (startRequest s)

/-- The Unload request of a tailgate whose marker is at Ejecting (R176). -/
def unloadRequests (s : State) : List BillReq :=
  if s.tailgate.marker = .ejecting then [⟨.tailgate, .unload⟩] else []

/-- A station's reservation taken. -/
def reserved (q : Queue) (x : Station) : Queue := q.setHeld (.station x) true

theorem markerStation_marked (h : marked s x = true) :
    (markerStation s x).billing = { s.billing with list := s.billing.list ++ [startRequest s x] } ∧
    (markerStation s x).queue = reserved s.queue x ∧
    (markerStation s x).lift x = { s.lift x with state := .fault } ∧
    ∀ y, y ≠ x → (markerStation s x).lift y = s.lift y := by
  have hm : (s.marker x).furthest ≠ .clear := of_decide_eq_true h
  unfold markerStation
  rw [if_neg hm]
  dsimp only
  refine ⟨?_, ?_, ?_, fun y hy => ?_⟩
  · rw [raiseNotice_keeps State.billing keeps_billing.mono]
    rfl
  · rw [raiseNotice_keeps State.queue keeps_queue.mono]
    rfl
  · exact (congrArg (·.get x) (raiseNotice_keeps State.lifts keeps_lifts.mono _ _)).trans
      (lift_setLift_self _ _ _)
  · exact (congrArg (·.get y) (raiseNotice_keeps State.lifts keeps_lifts.mono _ _)).trans
      (lift_setLift_other hy _ _)

/-- What the markers of a list of stations leave (R72, R144). -/
structure MarkersActed (l : List Station) (s t : State) : Prop where
  billing : t.billing = { s.billing with list := s.billing.list ++ startRequests s l }
  queue : t.queue = (l.filter (marked s)).foldl reserved s.queue
  shown : ∀ x ∈ l, marked s x = true → t.lift x = { s.lift x with state := .fault }
  rests : ∀ x, x ∉ l ∨ marked s x = false → t.lift x = s.lift x

theorem markerStations_act {l : List Station} (hl : l.Nodup) (s : State) :
    MarkersActed l s (l.foldl markerStation s) := by
  induction l generalizing s with
  | nil =>
    refine ⟨?_, rfl, nofun, fun _ _ => rfl⟩
    rw [startRequests, List.filter_nil, List.map_nil, List.append_nil]
    rfl
  | cons x l ih =>
    obtain ⟨hx, hl⟩ := List.nodup_cons.mp hl
    have hm : ∀ y, (markerStation s x).marker y = s.marker y := fun y =>
      congrArg (·.get y) (markerStation_keeps State.markers keeps_markers.mono s x)
    have hmark : marked (markerStation s x) = marked s := funext fun y => by
      unfold marked
      rw [hm]
    have hreq : startRequests (markerStation s x) l = startRequests s l := by
      unfold startRequests startRequest
      rw [hmark]
      simp only [hm]
    obtain ⟨h1, h2, h3, h4⟩ := ih hl (markerStation s x)
    rw [hmark] at h2 h3 h4
    rw [hreq] at h1
    rw [List.foldl_cons]
    generalize l.foldl markerStation (markerStation s x) = t at *
    cases hc : marked s x with
    | true =>
      obtain ⟨k1, k2, k3, k4⟩ := markerStation_marked hc
      refine ⟨?_, ?_, fun y hy hs => ?_, fun y hs => ?_⟩
      · rw [h1, k1]
        simp [startRequests, hc]
      · rw [h2, k2, List.filter_cons_of_pos hc, List.foldl_cons]
      · rcases List.mem_cons.mp hy with rfl | hy
        · rw [h4 y (.inl hx), k3]
        · rw [h3 y hy hs, k4 y fun e => hx (e ▸ hy)]
      · have hne : y ≠ x := fun e => hs.elim (fun k => k (e ▸ List.mem_cons_self)) fun k => by
          rw [e, hc] at k
          exact Bool.noConfusion k
        rw [h4 y (hs.imp_left fun k e => k (List.mem_cons_of_mem _ e)), k4 y hne]
    | false =>
      have k : markerStation s x = s := if_pos (by simpa [marked] using hc)
      rw [k] at h1 h2 h3 h4
      refine ⟨?_, ?_, fun y hy hs => ?_, fun y hs => h4 y ?_⟩
      · rw [h1]
        simp [startRequests, hc]
      · rw [h2, List.filter_cons_of_neg (by rw [hc]; decide)]
      · refine h3 y ((List.mem_cons.mp hy).resolve_left fun e => ?_) hs
        rw [e, hc] at hs
        exact Bool.noConfusion hs
      · exact hs.imp_left fun k e => k (List.mem_cons_of_mem _ e)

/-- What the tailgate's marker leaves (R176). -/
structure TailgateActed (s t : State) : Prop where
  billing : t.billing = { s.billing with list := s.billing.list ++ unloadRequests s }
  queue : t.queue = if s.tailgate.marker = .ejecting then s.queue.setHeld .tailgate true else s.queue
  shown : s.tailgate.marker ≠ .clear → t.tailgate = { s.tailgate with state := .fault }
  clear : s.tailgate.marker = .clear → t.tailgate = s.tailgate

theorem markerTailgate_acts (s : State) : TailgateActed s (markerTailgate s) := by
  have fault (v : State) : (tailgateStartFault v).tailgate = { v.tailgate with state := .fault } :=
    raiseNotice_keeps State.tailgate keeps_tailgate.mono _ _
  have keep : ∀ {α : Type} {π : State → α}, Keeps π [.body, .control, .tailgate, .agent] → ∀ v,
      π (tailgateStartFault v) = π v := fun hk v => tailgateStartFault_keeps _ hk v
  have quiet : ∀ b : Billing, { b with list := b.list ++ [] } = b := fun b => by
    rw [List.append_nil]
  unfold markerTailgate
  split <;> rename_i h
  · refine ⟨?_, ?_, fun k => absurd h k, fun _ => rfl⟩
    · unfold unloadRequests
      rw [h]
      exact (quiet _).symm
    · rw [h]
      rfl
  · refine ⟨?_, ?_, fun _ => fault _, fun k => absurd (h.symm.trans k) nofun⟩
    · unfold unloadRequests
      rw [if_pos h]
      exact keep keeps_billing.mono _
    · rw [if_pos h]
      exact keep keeps_queue.mono _
  all_goals
    refine ⟨?_, ?_, fun _ => fault _, fun k => absurd (h.symm.trans k) nofun⟩
    · unfold unloadRequests
      rw [h]
      exact (keep keeps_billing.mono _).trans (quiet _).symm
    · rw [h]
      exact keep keeps_queue.mono _

/-! ### The reservations of the start requests (R139) -/

theorem holds_setHeld (p : Queue) (h k : Holder) (b : Bool) :
    (p.setHeld h b).holds k = if k = h then b else p.holds k := by
  rcases h with (_ | _ | _) | _ <;> rcases k with (_ | _ | _) | _ <;> rfl

theorem reserved_foldl (l : List Station) (p : Queue) :
    (∀ h, (l.foldl reserved p).holds h = (p.holds h || decide (h ∈ l.map Holder.station))) ∧
    (l.foldl reserved p).count = p.count ∧ (l.foldl reserved p).head = p.head := by
  induction l generalizing p with
  | nil => exact ⟨fun h => by simp, rfl, rfl⟩
  | cons x l ih =>
    obtain ⟨h1, h2, h3⟩ := ih (reserved p x)
    refine ⟨fun h => ?_, h2, h3⟩
    rw [List.foldl_cons, h1, reserved, holds_setHeld]
    by_cases e : h = .station x <;> simp [e]

/-- The four holders of the Charge Queue's reservations (R139). -/
def holders : List Holder := [.station .sideArm, .station .rearLeft, .station .rearRight, .tailgate]

theorem reserved_eq_countP (p : Queue) : p.reserved = holders.countP p.holds := by
  simp only [holders, List.countP_cons, List.countP_nil]
  change p.reserved = 0 + flagNat p.heldTailgate + flagNat p.heldSt.right + flagNat p.heldSt.left +
    flagNat p.heldSt.side
  unfold Queue.reserved
  omega

/-- A queue that holds a reservation for each request of a list has as many as the list is long. -/
theorem reserved_eq_length {p : Queue} {l : List Holder} (hl : l.Nodup)
    (h : ∀ k, p.holds k = decide (k ∈ l)) : p.reserved = l.length := by
  have hp : p.holds = fun k => decide (k ∈ l) := funext h
  have hmem : ∀ k : Holder, k ∈ holders := by rintro ((_ | _ | _) | _) <;> decide
  have hperm : l.Perm (holders.filter fun k => decide (k ∈ l)) :=
    (List.perm_ext_iff_of_nodup hl (List.Nodup.filter _ (by decide))).mpr fun k => by simp [hmem]
  rw [reserved_eq_countP, hp, List.countP_eq_length_filter, ← hperm.length_eq]

/-! ### A request of the start is served (R127, R129, R140) -/

/-- No station has a Lift Record, none is in Lower, and the tailgate waits for no commit: as a start leaves
them. -/
structure Unburdened (s : State) : Prop where
  record : ∀ x, (s.lift x).record = none
  state : ∀ x, (s.lift x).state ≠ .lower
  tailgate : s.tailgate.unloadPending = false

/-- What the service of the requests of a list leaves, none of whose holders acts on its commit. -/
structure Works (l : List BillReq) (s t : State) : Prop where
  lifts : t.lifts = s.lifts
  markers : ∀ x, t.marker x = if .station x ∈ l.map BillReq.holder then Marker.clear else s.marker x
  tailgate : ∃ n, t.tailgate = { s.tailgate with
    unloads := n
    marker := if .tailgate ∈ l.map BillReq.holder then .closing else s.tailgate.marker }
  holds : ∀ h, t.queue.holds h = if h ∈ l.map BillReq.holder then false else s.queue.holds h
  count : t.queue.count = s.queue.count + l.length
  head : t.queue.head = s.queue.head
  packer : t.packer = s.packer
  moving : t.table.moving = s.table.moving
  waiting : t.table.waiting = s.table.waiting

theorem Works.refl (s : State) : Works [] s s :=
  ⟨rfl, fun _ => rfl, ⟨_, rfl⟩, fun _ => rfl, rfl, rfl, rfl, rfl, rfl⟩

theorem Works.trans {l m : List BillReq} (h : Works l s t) (k : Works m t u) : Works (l ++ m) s u := by
  refine ⟨k.lifts.trans h.lifts, fun x => ?_, ?_, fun r => ?_, ?_, k.head.trans h.head,
    k.packer.trans h.packer, k.moving.trans h.moving, k.waiting.trans h.waiting⟩
  · rw [k.markers, h.markers, List.map_append]
    by_cases h1 : Holder.station x ∈ l.map BillReq.holder <;>
      by_cases h2 : Holder.station x ∈ m.map BillReq.holder <;> simp [h1, h2, -List.mem_map]
  · obtain ⟨n, hn⟩ := h.tailgate
    obtain ⟨i, hi⟩ := k.tailgate
    refine ⟨i, ?_⟩
    rw [hi, hn, List.map_append]
    by_cases h1 : Holder.tailgate ∈ l.map BillReq.holder <;>
      by_cases h2 : Holder.tailgate ∈ m.map BillReq.holder <;> simp [h1, h2, -List.mem_map]
  · rw [k.holds, h.holds, List.map_append]
    by_cases h1 : r ∈ l.map BillReq.holder <;>
      by_cases h2 : r ∈ m.map BillReq.holder <;> simp [h1, h2, -List.mem_map]
  · rw [k.count, h.count, List.length_append, Nat.add_assoc]

theorem Works.unburdened {l : List BillReq} (h : Works l s t) (hs : Unburdened s) : Unburdened t := by
  have hl (x : Station) : t.lift x = s.lift x := congrArg (·.get x) h.lifts
  obtain ⟨n, hn⟩ := h.tailgate
  exact ⟨fun x => hl x ▸ hs.record x, fun x => hl x ▸ hs.state x, by rw [hn]; exact hs.tailgate⟩

theorem bookRequest_holds (q : BillReq) (r : ChargeRecord) (p : Price) (below : Bool)
    (a : Option CounterAnswer) (s : State) (h : Holder) : (bookRequest q r p below a s).queue.holds h =
      if h = q.holder then false else s.queue.holds h := by
  obtain ⟨v, hv, e⟩ := bookRequest_eq q r p below a s
  rw [e, countServed_keeps _ keeps_queue.mono, handTotals_keeps _ keeps_queue.mono, hv _ keeps_queue.mono,
    commitRecord_eq, setQueue_queue, writeBack_keeps State.queue keeps_queue.mono, ← holds_setHeld]
  cases h <;> rfl

/-- The report of a commit finds a station without a record, out of Lower, and leaves it so. -/
theorem reportStation_lifts (h : Unburdened s) (x : Station) : (reportStation x s).lifts = s.lifts := by
  rw [reportStation_rests (h.state x), settleAssigned_keeps State.lifts keeps_lifts.mono]
  have hl : ({ s.lift x with record := none } : Lift) = s.lift x := by
    rw [← h.record x]
  rw [hl]
  show s.lifts.set x (s.lifts.get x) = s.lifts
  cases x <;> rfl

theorem reportStation_keeps_rest {α : Type} {π : State → α} (hk : Keeps π [.lifts, .tags])
    (h : Unburdened s) (x : Station) : π (reportStation x s) = π s := by
  rw [reportStation_rests (h.state x), settleAssigned_keeps π hk.mono, State.setLift, hk.lifts]

theorem reportUnload_rests (h : s.tailgate.unloadPending = false) : reportUnload s =
    s.setTailgate { s.tailgate with unloads := bump s.tailgate.unloads } :=
  if_neg (by rw [setTailgate_tailgate, h]; decide)

theorem report_rests (h : Unburdened s) (k : Holder) : (report k s).lifts = s.lifts ∧
    (report k s).markers = s.markers ∧ (∃ n, (report k s).tailgate = { s.tailgate with unloads := n }) ∧
    (report k s).queue = s.queue ∧ (report k s).packer = s.packer ∧ (report k s).table = s.table ∧
    (report k s).billing = s.billing := by
  cases k with
  | station x =>
    have hk : ∀ {α : Type} {π : State → α}, Keeps π [.lifts, .tags] → π (reportStation x s) = π s :=
      fun hk => reportStation_keeps_rest hk h x
    exact ⟨reportStation_lifts h x, hk keeps_markers.mono, ⟨_, hk keeps_tailgate.mono⟩,
      hk keeps_queue.mono, hk keeps_packer.mono, hk keeps_table.mono, hk keeps_billing.mono⟩
  | tailgate =>
    rw [show report .tailgate s = _ from reportUnload_rests h.tailgate]
    exact ⟨rfl, rfl, ⟨_, rfl⟩, rfl, rfl, rfl, rfl⟩

theorem commitMarker_works (s : State) (k : Holder) :
    (∀ x, (commitMarker k s).marker x = if k = .station x then Marker.clear else s.marker x) ∧
    (commitMarker k s).tailgate = { s.tailgate with
      marker := if k = .tailgate then .closing else s.tailgate.marker } := by
  cases k with
  | station y =>
    refine ⟨fun x => (tri_get_set _ _ _ _).trans ?_, rfl⟩
    by_cases h : x = y
    · rw [if_pos h, if_pos (h ▸ rfl)]
    · rw [if_neg h, if_neg fun e => h (Holder.station.inj e).symm]
      rfl
  | tailgate => exact ⟨fun x => rfl, rfl⟩

theorem finishRequest_works (hs : Unburdened s) (q : BillReq) (r : ChargeRecord) (p : Price)
    (below : Bool) (a : Option CounterAnswer) : Works [q] s (finishRequest q r p below a s) ∧
    (finishRequest q r p below a s).billing.list = s.billing.list ∧
    (finishRequest q r p below a s).billing.waiting = s.billing.waiting := by
  obtain ⟨hm, ht⟩ := bookRequest_markers q r p below a s
  obtain ⟨hwait, hlist, htable, hhead, hcount, -⟩ := bookRequest_frame q r p below a s
  have hholds := bookRequest_holds q r p below a s
  have keep : ∀ {α : Type} {π : State → α}, Keeps π [.agent, .body, .control, .markers, .tailgate,
      .payload, .store, .queue, .clock, .billing] → π (bookRequest q r p below a s) = π s :=
    fun hk => bookRequest_keeps hk q r p below a s
  obtain ⟨c1, c2⟩ := commitMarker_works s q.holder
  unfold finishRequest
  generalize bookRequest q r p below a s = v at *
  have hl : v.lifts = s.lifts := keep keeps_lifts.mono
  have hv : Unburdened v := by
    refine ⟨fun x => ?_, fun x => ?_, ?_⟩
    · exact (congrArg (fun f : Tri Lift => (f.get x).record) hl).trans (hs.record x)
    · exact fun e => hs.state x ((congrArg (fun f : Tri Lift => (f.get x).state) hl).symm.trans e)
    · rw [ht, c2]
      exact hs.tailgate
  obtain ⟨r1, r2, ⟨n, r3⟩, r4, r5, r6, r7⟩ := report_rests hv q.holder
  refine ⟨⟨r1.trans hl, fun x => ?_, ⟨n, ?_⟩, fun h => ?_, ?_, ?_, ?_, ?_, ?_⟩, ?_, ?_⟩
  · refine (congrArg (·.get x) (r2.trans hm)).trans ((c1 x).trans ?_)
    simp [eq_comm]
  · rw [r3, ht, c2]
    simp [eq_comm]
  · rw [r4, hholds]
    simp
  · rw [r4, hcount]
    rfl
  · rw [r4, hhead]
  · rw [r5]
    exact keep keeps_packer.mono
  · rw [r6, htable]
  · rw [r6, htable]
  · rw [r7, hlist]
  · rw [r7, hwait]

/-! ### The Request List is served from its head (R127, R111) -/

/-- A request whose counter access meets a table in a move. -/
def blocked (s : State) (q : BillReq) : Bool := s.table.moving && q.kind.access.isSome

/-- A request at the head that meets no move is completed. -/
theorem serveHead_works {l : List BillReq} (hs : Unburdened s) (hl : s.billing.list = q :: l)
    (hb : blocked s q = false) : Works [q] s (serveHead q s) ∧ (serveHead q s).billing.list = l ∧
      (serveHead q s).billing.waiting = none := by
  have completed (T : Table) (g : Figures) (a : Option CounterAnswer)
      (h1 : T.moving = s.table.moving) (h2 : T.waiting = s.table.waiting) :
      Works [q] s (completeRequest q g a (s.setTable T)) ∧
      (completeRequest q g a (s.setTable T)).billing.list = l ∧
      (completeRequest q g a (s.setTable T)).billing.waiting = none := by
    rw [completeRequest_eq]
    obtain ⟨h, h3, h4⟩ := finishRequest_works (s := (s.setTable T).setBilling
        { (s.setTable T).billing with list := (s.setTable T).billing.list.tail, waiting := none })
      ⟨hs.record, hs.state, hs.tailgate⟩ q ((s.setTable T).recordOf q g a)
      ((s.setTable T).charge ((s.setTable T).recordOf q g a).outcome q.kind
        ((s.setTable T).recordOf q g a).billed a) (!(s.setTable T).chargeLevel) a
    generalize finishRequest q _ _ _ a _ = t at *
    refine ⟨⟨h.lifts, h.markers, h.tailgate, h.holds, h.count, h.head, h.packer, h.moving.trans h1,
      h.waiting.trans h2⟩, h3.trans ?_, h4⟩
    show s.billing.list.tail = l
    rw [hl, List.tail_cons]
  unfold serveHead
  dsimp only
  split
  · exact completed s.table _ none rfl rfl
  · rename_i h hh
    rw [if_neg (by
      rw [blocked, hh, Option.isSome_some, Bool.and_true] at hb
      rw [hb]
      decide)]
    exact completed _ _ _ rfl rfl

/-- A request at the head that meets a move waits for it. -/
theorem serveHead_waits (hb : blocked s q = true) : ∃ g, serveHead q s =
    (s.setBilling { s.billing with waiting := some g }).setTable
      { s.table with waiting := s.table.waiting ++ [.counter] } := by
  obtain ⟨hm, hq⟩ := Bool.and_eq_true_iff.mp hb
  obtain ⟨h, hh⟩ := Option.isSome_iff_exists.mp hq
  refine ⟨q.figures s.cfg, ?_⟩
  unfold serveHead
  rw [hh]
  exact if_pos hm

theorem serveRequests_waits (n : Nat) (h : s.billing.waiting ≠ none) : serveRequests n s = s := by
  cases n with
  | zero => rfl
  | succ n =>
    unfold serveRequests
    split
    · exact absurd ‹_› h
    · rfl

/-- The engine at the end of its list, or at a request that waits for a move. -/
structure Halts (s t : State) : Prop where
  done : t.billing.list = [] → t.billing.waiting = none ∧ t.table.waiting = s.table.waiting
  waits : t.billing.list ≠ [] →
    t.billing.waiting ≠ none ∧ t.table.waiting = s.table.waiting ++ [.counter]

/-- The engine serves the requests before the first that meets a move. -/
theorem serveRequests_works {l : List BillReq} (hs : Unburdened s) (hl : s.billing.list = l)
    (hw : s.billing.waiting = none) :
    ∃ u, Works (l.takeWhile fun q => !blocked s q) s u ∧
      (serveRequests l.length s).billing.list = (l.dropWhile fun q => !blocked s q) ∧
      Halts s (serveRequests l.length s) ∧
      (∀ {α : Type} {π : State → α}, Keeps π [.billing, .table] → π (serveRequests l.length s) = π u) := by
  induction l generalizing s with
  | nil => exact ⟨s, .refl s, hl, ⟨fun _ => ⟨hw, rfl⟩, fun h => absurd hl h⟩, fun _ => rfl⟩
  | cons q l ih =>
    have hstep : serveRequests (q :: l).length s = serveRequests l.length (serveHead q s) := by
      rw [List.length_cons, serveRequests, hw, hl]
    rw [hstep]
    cases hb : blocked s q with
    | true =>
      obtain ⟨g, hg⟩ := serveHead_waits hb
      have hwait : (serveHead q s).billing.waiting ≠ none := by rw [hg]; exact nofun
      rw [serveRequests_waits _ hwait, List.takeWhile_cons_of_neg (by simp [hb]),
        List.dropWhile_cons_of_neg (by simp [hb]), hg]
      exact ⟨s, .refl s, hl, ⟨fun e => absurd (hl.symm.trans e) nofun, fun _ => ⟨nofun, rfl⟩⟩,
        fun hk => (hk.table rfl _ _).trans (hk.billing rfl _ _)⟩
    | false =>
      obtain ⟨h, h1, h2⟩ := serveHead_works hs hl hb
      have hsame : blocked (serveHead q s) = blocked s := funext fun r => by
        unfold blocked
        rw [h.moving]
      obtain ⟨u, k1, k2, k3, k4⟩ := ih (h.unburdened hs) h1 h2
      rw [hsame] at k1 k2
      rw [List.takeWhile_cons_of_pos (by simp [hb]), List.dropWhile_cons_of_pos (by simp [hb])]
      exact ⟨u, h.trans k1, k2, ⟨fun e => h.waiting ▸ k3.done e, fun e => h.waiting ▸ k3.waits e⟩, k4⟩

/-! ### The start before its requests are served (R1, R72, R124, R176) -/

theorem beginCheck_waiting (s : State) : (beginCheck s).table.waiting = s.table.waiting := by
  have hend (v : State) : (endCheck v).table.waiting = v.table.waiting :=
    (congrArg Table.waiting (raiseNotice_keeps State.table keeps_table.mono _ _)).trans rfl
  unfold beginCheck
  dsimp only
  split
  · exact hend _
  · rfl

theorem resumeTable_waiting (s : State) : (resumeTable s).table.waiting = s.table.waiting := by
  unfold resumeTable
  split
  · rfl
  · split
    · exact beginCheck_waiting s
    · rfl

/-- A table that resumes a move is moving, and no other is (R124). -/
theorem resumeTable_moving (s : State) : (resumeTable s).table.moving = s.table.busy := by
  cases hb : s.table.busy with
  | true =>
    rw [resumeTable_busy hb]
    exact hb
  | false =>
    have hj : (resumeTable s).table.busy = false :=
      (congrArg (fun j : Journal => j.op != .clear) (resumeTable_retains s).2).trans hb
    unfold Table.moving
    rw [hj, Bool.and_false]

/-- A Warm Start when every marker has made its start request. -/
def startAsked (na : BitVec 2) (s : State) : State :=
  markerTailgate (stations.foldl markerStation (resumeTable (restarted na true s)))

theorem warmStart_eq (na : BitVec 2) (s : State) :
    warmStart na s = testBodyFull (serveBilling (startAsked na s)) := rfl

/-- The requests that the markers of a start make (R72, R176). -/
def startList (s : State) : List BillReq := startRequests s stations ++ unloadRequests s

theorem holders_startList (s : State) : (startList s).map BillReq.holder =
    (stations.filter (marked s)).map Holder.station ++
      if s.tailgate.marker = .ejecting then [.tailgate] else [] := by
  unfold startList startRequests unloadRequests
  rw [List.map_append, List.map_map]
  congr 1
  split <;> rfl

theorem holders_startList_nodup (s : State) : ((startList s).map BillReq.holder).Nodup := by
  have hst : ((stations.filter (marked s)).map Holder.station).Nodup :=
    List.Nodup.map (fun _ _ => Holder.station.inj) (List.Nodup.filter _ (by decide))
  rw [holders_startList]
  split
  · refine List.nodup_append.mpr ⟨hst, List.nodup_singleton _, fun a ha b hb => ?_⟩
    obtain ⟨x, -, rfl⟩ := List.mem_map.mp ha
    rw [List.mem_singleton.mp hb]
    exact nofun
  · rw [List.append_nil]
    exact hst

theorem station_mem_startList (s : State) (x : Station) :
    .station x ∈ (startList s).map BillReq.holder ↔ marked s x = true := by
  have hall : x ∈ stations := by cases x <;> decide
  rw [holders_startList]
  split <;> simp [hall]

theorem tailgate_mem_startList (s : State) :
    .tailgate ∈ (startList s).map BillReq.holder ↔ s.tailgate.marker = .ejecting := by
  rw [holders_startList]
  split <;> simp [*]

theorem startList_length (s : State) : (startList s).length =
    (stations.countP fun x => decide ((s.marker x).furthest ≠ .clear)) +
      if s.tailgate.marker = .ejecting then 1 else 0 := by
  unfold startList startRequests unloadRequests
  rw [List.length_append, List.length_map, ← List.countP_eq_length_filter]
  congr 1
  split <;> rfl

/-- What a Warm Start has worked out when every marker has made its start request. -/
structure StartAsked (s t : State) : Prop where
  list : t.billing.list = startList s
  waiting : t.billing.waiting = none
  holds : ∀ h, t.queue.holds h = decide (h ∈ (startList s).map BillReq.holder)
  count : t.queue.count = s.queue.count
  head : t.queue.head = s.queue.head
  lift : ∀ x, (t.lift x).record = none ∧ (t.lift x).lastFault = none ∧ (t.lift x).faults = 0 ∧
    (t.lift x).state = if marked s x then .fault else .idle
  markers : ∀ x, t.marker x = s.marker x
  tailgate : t.tailgate = { Tailgate.start with
    marker := s.tailgate.marker
    state := if s.tailgate.marker = .clear then .closed else .fault }
  packer : t.packer.lastFault = none ∧ t.packer.faults = 0
  moving : t.table.moving = s.table.busy
  served : t.table.waiting = []

theorem startAsked_asked (na : BitVec 2) (s : State) : StartAsked s (startAsked na s) := by
  have keep0 : ∀ {α : Type} {π : State → α}, Keeps π [.body, .control, .table, .agent] →
      π (resumeTable (restarted na true s)) = π (restarted na true s) :=
    fun hk => resumeTable_keeps _ hk _
  have hmove : (resumeTable (restarted na true s)).table.moving = s.table.busy :=
    resumeTable_moving _
  have hwait : (resumeTable (restarted na true s)).table.waiting = [] := resumeTable_waiting _
  unfold startAsked
  generalize resumeTable (restarted na true s) = u at *
  have hmark (x : Station) : u.marker x = s.marker x := congrArg (·.get x) (keep0 keeps_markers.mono)
  have hmarked : marked u = marked s := funext fun x => by
    unfold marked
    rw [hmark]
  have hlift (x : Station) : u.lift x = Lift.start :=
    (congrArg (·.get x) (keep0 keeps_lifts.mono)).trans (by cases x <;> rfl)
  obtain ⟨b1, q1, l1, l2⟩ := markerStations_act (l := stations) (by decide) u
  have keep1 : ∀ {α : Type} {π : State → α}, Keeps π [.body, .control, .lifts, .billing, .queue,
      .agent] → π (stations.foldl markerStation u) = π u :=
    fun hk => foldl_keeps _ markerStation (markerStation_keeps _ hk) _ _
  generalize stations.foldl markerStation u = v at *
  obtain ⟨b2, q2, g1, g2⟩ := markerTailgate_acts v
  have keep2 : ∀ {α : Type} {π : State → α}, Keeps π [.body, .control, .billing, .queue, .tailgate,
      .agent] → π (markerTailgate v) = π v := fun hk => markerTailgate_keeps _ hk v
  generalize markerTailgate v = t at *
  have hstart : startRequests u stations = startRequests s stations := by
    unfold startRequests startRequest
    rw [hmarked]
    simp only [hmark]
  have htail : v.tailgate = { Tailgate.start with marker := s.tailgate.marker } :=
    (keep1 keeps_tailgate.mono).trans (keep0 keeps_tailgate.mono)
  have hunload : unloadRequests v = unloadRequests s := by
    unfold unloadRequests
    rw [htail]
  have hbill : u.billing = Billing.start := keep0 keeps_billing.mono
  have hqueue : u.queue = s.queue.kept := keep0 keeps_queue.mono
  have hpack : t.packer = Packer.start :=
    (keep2 keeps_packer.mono).trans ((keep1 keeps_packer.mono).trans (keep0 keeps_packer.mono))
  have htable : t.table = u.table := (keep2 keeps_table.mono).trans (keep1 keeps_table.mono)
  have htlift (x : Station) : t.lift x = v.lift x := congrArg (·.get x) (keep2 keeps_lifts.mono)
  obtain ⟨q3, q4, q5⟩ := reserved_foldl (stations.filter (marked s)) s.queue.kept
  rw [hmarked, hqueue] at q1
  rw [← q1] at q3 q4 q5
  rw [hmarked] at l1 l2
  rw [htail] at q2 g1 g2
  refine ⟨?_, ?_, fun h => ?_, ?_, ?_, fun x => ?_, fun x => ?_, ?_, ?_, ?_, ?_⟩
  · rw [b2, b1, hstart, hunload, hbill]
    rfl
  · rw [b2, b1, hbill]
    rfl
  · have hkept : s.queue.kept.holds h = false := by rcases h with (_ | _ | _) | _ <;> rfl
    rw [holders_startList, q2]
    by_cases he : s.tailgate.marker = .ejecting
    · rw [if_pos he, if_pos he, holds_setHeld, q3, hkept]
      by_cases hh : h = .tailgate <;> simp [hh]
    · rw [if_neg he, if_neg he, q3, hkept]
      simp
  · rw [q2]
    split
    · exact q4
    · exact q4
  · rw [q2]
    split
    · exact q5
    · exact q5
  · rw [htlift]
    cases hx : marked s x with
    | true =>
      rw [l1 x (by cases x <;> decide) hx, hlift]
      exact ⟨rfl, rfl, rfl, rfl⟩
    | false =>
      rw [l2 x (.inr hx), hlift]
      exact ⟨rfl, rfl, rfl, rfl⟩
  · exact (congrArg (·.get x) ((keep2 keeps_markers.mono).trans (keep1 keeps_markers.mono))).trans
      (hmark x)
  · by_cases hc : s.tailgate.marker = .clear
    · rw [g2 hc, if_pos hc]
      rfl
    · rw [g1 hc, if_neg hc]
  · rw [hpack]
    exact ⟨rfl, rfl⟩
  · rw [htable]
    exact hmove
  · rw [htable]
    exact hwait

theorem StartAsked.unburdened (h : StartAsked s t) : Unburdened t := by
  refine ⟨fun x => (h.lift x).1, fun x => ?_, by rw [h.tailgate]; rfl⟩
  rw [(h.lift x).2.2.2]
  split <;> exact nofun

/-! ### The requests of a start (R111, R127) -/

/-- A dumped lift whose household asks for its counters (R129). -/
def Asks (s : State) (x : Station) : Prop :=
  (s.marker x).furthest = .dumped ∧ (s.marker x).account ≠ 0

theorem startRequest_access (s : State) (x : Station) :
    (startRequest s x).kind.access.isSome = true ↔ Asks s x := by
  have h1 : (s.marker x).household.isSome = true ↔ (s.marker x).account ≠ 0 := by
    unfold Marker.household
    split
    · exact ⟨nofun, fun k => absurd ‹_› k⟩
    · exact ⟨fun _ => ‹_›, fun _ => rfl⟩
  show (if decide ((s.marker x).furthest = .dumped) then (s.marker x).household else none).isSome = true ↔ _
  unfold Asks
  rw [← h1]
  by_cases h : (s.marker x).furthest = .dumped <;> simp [h]

theorem mem_startRequests {l : List Station} : q ∈ startRequests s l ↔
    ∃ x ∈ l, marked s x = true ∧ startRequest s x = q := by
  simp [startRequests, and_assoc]

theorem blocked_startRequest (h : t.table.moving = s.table.busy) (x : Station) :
    blocked t (startRequest s x) = true ↔ s.table.busy = true ∧ Asks s x := by
  rw [blocked, Bool.and_eq_true, startRequest_access, h]

/-- With no request that meets a move the engine serves the whole list. -/
theorem startList_served (h : t.table.moving = s.table.busy)
    (hb : s.table.busy = false ∨ ∀ x, ¬ Asks s x) :
    (startList s).dropWhile (fun q => !blocked t q) = [] := by
  rw [List.dropWhile_eq_nil_iff]
  intro q hq
  rw [Bool.not_eq_true', Bool.eq_false_iff]
  intro hk
  rcases List.mem_append.mp hq with hq | hq
  · obtain ⟨x, -, -, rfl⟩ := mem_startRequests.mp hq
    obtain ⟨h1, h2⟩ := (blocked_startRequest h x).mp hk
    rcases hb with hb | hb
    · exact Bool.noConfusion (hb.symm.trans h1)
    · exact hb x h2
  · unfold unloadRequests at hq
    split at hq
    · rw [List.mem_singleton.mp hq, blocked] at hk
      exact absurd (Bool.and_eq_true_iff.mp hk).2 (by decide)
    · exact absurd hq List.not_mem_nil

/-- A request that meets a move holds up the tailgate's request behind it. -/
theorem startList_waits (h : t.table.moving = s.table.busy) (hb : s.table.busy = true)
    (ha : ∃ x, Asks s x) : ∃ l, l ≠ [] ∧
      (startList s).dropWhile (fun q => !blocked t q) = l ++ unloadRequests s := by
  obtain ⟨x, hx⟩ := ha
  have hm : marked s x = true := decide_eq_true (by rw [hx.1]; exact nofun)
  have hne : (startRequests s stations).dropWhile (fun q => !blocked t q) ≠ [] := by
    rw [Ne, List.dropWhile_eq_nil_iff]
    intro hall
    have := hall _ (mem_startRequests.mpr ⟨x, by cases x <;> decide, hm, rfl⟩)
    rw [(blocked_startRequest h x).mpr ⟨hb, hx⟩] at this
    exact Bool.noConfusion this
  refine ⟨_, hne, ?_⟩
  rw [startList, List.dropWhile_append, if_neg (by rwa [List.isEmpty_iff])]

/-- What a Warm Start leaves when the engine has served what it can of its requests. -/
structure StartServed (s : State) (l f : List BillReq) (t : State) : Prop where
  list : t.billing.list = f
  waits : f ≠ [] → t.billing.waiting ≠ none ∧ t.table.waiting = [.counter]
  done : f = [] → t.billing.waiting = none ∧ t.table.waiting = []
  holds : ∀ h, t.queue.holds h = decide (h ∈ f.map BillReq.holder)
  count : t.queue.count + f.length = s.queue.count + (startList s).length
  head : t.queue.head = s.queue.head
  lift : ∀ x, (t.lift x).record = none ∧ (t.lift x).lastFault = none ∧ (t.lift x).faults = 0 ∧
    (t.lift x).state = if marked s x then .fault else .idle
  markers : ∀ x, t.marker x =
    if .station x ∈ l.map BillReq.holder then Marker.clear else s.marker x
  tailgate : t.tailgate.state = (if s.tailgate.marker = .clear then .closed else .fault) ∧
    t.tailgate.lastFault = none ∧ t.tailgate.faults = 0 ∧ t.tailgate.marker =
      if .tailgate ∈ l.map BillReq.holder then .closing else s.tailgate.marker
  packer : t.packer.lastFault = none ∧ t.packer.faults = 0

theorem serveBilling_served (h : StartAsked s t) : ∃ l f, startList s = l ++ f ∧
    f = (startList s).dropWhile (fun q => !blocked t q) ∧ StartServed s l f (serveBilling t) := by
  obtain ⟨u, hW, hlist, hH, keep⟩ := serveRequests_works h.unburdened h.list h.waiting
  have hsplit : startList s = _ ++ _ := (List.takeWhile_append_dropWhile (p := fun q => !blocked t q)).symm
  have hserve : serveBilling t = serveRequests (startList s).length t := by
    rw [serveBilling, h.list]
  have hnodup := holders_startList_nodup s
  refine ⟨_, _, hsplit, rfl, ?_⟩
  rw [hserve]
  generalize (startList s).takeWhile (fun q => !blocked t q) = l at *
  generalize (startList s).dropWhile (fun q => !blocked t q) = f at *
  generalize serveRequests (startList s).length t = v at *
  have hq : v.queue = u.queue := keep keeps_queue.mono
  have hl (x : Station) : v.lift x = t.lift x :=
    congrArg (·.get x) ((keep keeps_lifts.mono).trans hW.lifts)
  have hm (x : Station) : v.marker x = u.marker x := congrArg (·.get x) (keep keeps_markers.mono)
  have hg : v.tailgate = u.tailgate := keep keeps_tailgate.mono
  have hp : v.packer = t.packer := (keep keeps_packer.mono).trans hW.packer
  rw [hsplit, List.map_append] at hnodup
  obtain ⟨-, -, hdisj⟩ := List.nodup_append.mp hnodup
  obtain ⟨n, hn⟩ := hW.tailgate
  refine ⟨hlist, fun e => ?_, fun e => ?_, fun k => ?_, ?_, ?_, fun x => ?_, fun x => ?_, ?_, ?_⟩
  · rw [← hlist] at e
    obtain ⟨h1, h2⟩ := hH.waits e
    exact ⟨h1, by rw [h2, h.served]; rfl⟩
  · rw [← hlist] at e
    obtain ⟨h1, h2⟩ := hH.done e
    exact ⟨h1, h2.trans h.served⟩
  · rw [hq, hW.holds, h.holds, hsplit, List.map_append]
    by_cases hk : k ∈ l.map BillReq.holder
    · have hk' : k ∉ f.map BillReq.holder := fun e => hdisj k hk k e rfl
      rw [if_pos hk, decide_eq_false hk']
    · rw [if_neg hk]
      exact decide_eq_decide.mpr (List.mem_append.trans (or_iff_right hk))
  · rw [hq, hW.count, h.count, hsplit, List.length_append, Nat.add_assoc]
  · rw [hq, hW.head, h.head]
  · rw [hl]
    exact h.lift x
  · rw [hm, hW.markers, h.markers]
  · rw [hg, hn, h.tailgate]
    exact ⟨rfl, rfl, rfl, rfl⟩
  · rw [hp]
    exact h.packer

/-- Body Full and the toggle outputs leave what the engine has served (R161, R172). -/
theorem StartServed.of_keeps {l f : List BillReq} (h : StartServed s l f u)
    (hk : ∀ {α : Type} {π : State → α}, Keeps π [.body, .control, .payload, .agent, .toggles] →
      π t = π u) : StartServed s l f t := by
  have hb : t.billing = u.billing := hk keeps_billing.mono
  have ht : t.table = u.table := hk keeps_table.mono
  have hq : t.queue = u.queue := hk keeps_queue.mono
  have hg : t.tailgate = u.tailgate := hk keeps_tailgate.mono
  have hp : t.packer = u.packer := hk keeps_packer.mono
  have hl (x : Station) : t.lift x = u.lift x := congrArg (·.get x) (hk keeps_lifts.mono)
  have hm (x : Station) : t.marker x = u.marker x := congrArg (·.get x) (hk keeps_markers.mono)
  obtain ⟨h1, h2, h3, h4, h5, h6, h7, h8, h9, h10⟩ := h
  refine ⟨?_, ?_, ?_, ?_, ?_, ?_, fun x => ?_, fun x => ?_, ?_, ?_⟩
  · rwa [hb]
  · rwa [hb, ht]
  · rwa [hb, ht]
  · rwa [hq]
  · rwa [hq]
  · rwa [hq]
  · rw [hl]
    exact h7 x
  · rw [hm]
    exact h8 x
  · rwa [hg]
  · rwa [hp]

end

/-- Settles O15: the markers make their requests in order, and the engine serves those before the first that
meets a move. -/
theorem warmStartMarkers : Obligations.WarmStartMarkers := by
  unfold Obligations.WarmStartMarkers
  intro na s asks
  have hA := startAsked_asked na s
  obtain ⟨l, f, hsplit, hf, hS⟩ := serveBilling_served hA
  have hmove := hA.moving
  have keep : ∀ {α : Type} {π : State → α}, Keeps π [.body, .control, .payload, .agent, .toggles] →
      π (settleToggles (warmStart na s)) = π (serveBilling (startAsked na s)) := fun hk => by
    rw [settleToggles_keeps _ hk.mono, warmStart_eq, testBodyFull_keeps _ hk.mono]
  have hT := hS.of_keeps keep
  have hnodup := holders_startList_nodup s
  rw [hsplit, List.map_append] at hnodup
  obtain ⟨-, hfnodup, hapart⟩ := List.nodup_append.mp hnodup
  have hmem : ∀ h, h ∈ l.map BillReq.holder → h ∈ (startList s).map BillReq.holder := fun h hl => by
    rw [hsplit, List.map_append]
    exact List.mem_append_left _ hl
  generalize ht : settleToggles (warmStart na s) = t at hT
  obtain ⟨g1, g2, g3, g4⟩ := hT.tailgate
  refine ⟨t, by rw [exec_warmStart_eq, ht], fun x => ?_, fun hc => ⟨?_, ?_⟩, fun hc => ?_, g2, g3,
    hT.packer.1, hT.packer.2, ?_, ?_, hT.head, fun hn => ?_, fun hb ha => ?_⟩
  · obtain ⟨h1, h2, h3, h4⟩ := hT.lift x
    refine ⟨h1, fun hc => ⟨?_, ?_⟩, fun hc => ?_, h2, h3⟩
    · rw [h4]
      exact if_neg (by simpa [marked] using hc)
    · rw [hT.markers]
      split
      · rfl
      · exact hc
    · rw [h4]
      exact if_pos (by simpa [marked] using hc)
  · rw [g1]
    exact if_pos hc
  · rw [g4, if_neg fun k => ?_]
    · exact hc
    · exact absurd (hc.symm.trans ((tailgate_mem_startList s).mp (hmem _ k))) nofun
  · rw [g1]
    exact if_neg hc
  · rw [hT.list, hT.count, startList_length, Nat.add_assoc]
  · rw [hT.list, reserved_eq_length hfnodup hT.holds, List.length_map]
  · have hnil : f = [] := hf.trans (startList_served hmove hn)
    subst hnil
    rw [List.append_nil] at hsplit
    obtain ⟨h1, h2⟩ := hT.done rfl
    refine ⟨hT.list, h1, h2, fun x => ?_, fun he => ?_⟩
    · rw [hT.markers, ← hsplit]
      split
      · rfl
      · rename_i hx
        rw [station_mem_startList] at hx
        simpa [marked] using hx
    · rw [g4, ← hsplit]
      exact if_pos ((tailgate_mem_startList s).mpr he)
  · obtain ⟨m, hne, hm⟩ := startList_waits hmove hb ha
    rw [← hf] at hm
    have hne' : f ≠ [] := by
      rw [hm]
      exact fun e => hne (List.append_eq_nil_iff.mp e).1
    obtain ⟨h1, h2⟩ := hT.waits hne'
    refine ⟨hT.list ▸ hne', h1, h2, fun he => ?_⟩
    rw [g4, if_neg fun k => hapart _ k _ ?_ rfl]
    · exact he
    · rw [hm, unloadRequests, if_pos he, List.map_append]
      exact List.mem_append_right _ List.mem_cons_self

end Sys2Proof.Proofs
